-- ==== Sys2Proof/Word.lean ====
section
/-! DEFINITION. Word.lean: the word types of the card and the fixed-size table type its records are kept in.
Numbers follow spec/00_scope.md 4.1 and 4.2; the layouts that use them are in Machine/Operands.lean and
Machine/Views.lean. -/

namespace Sys2Proof

/-- A 32-bit word of the backplane or of the control space (R188, R190). -/
abbrev Word := BitVec 32

/-- A byte of SRAM or of the supervisor link. -/
abbrev Byte := BitVec 8

/-- A lease handle (R4): generation times 64 plus record number. -/
abbrev Handle := BitVec 16

/-- A bus master that has a slot on the card, 0 to 11 (spec/00_scope.md 4.2). -/
abbrev Master := Fin 12

/-- The number of a lease record, 0 to 39 (spec/00_scope.md 4.2). -/
abbrev RecordNo := Fin 40

/-- A block of SRAM, 0 to 511 (R25). -/
abbrev Block := Fin 512

/-- An aperture number of one master, 0 to 3 (R128). -/
abbrev ApertureNo := Fin 4

/-- A set of masters (R11): bit m is set exactly when master m is a member, as QUERY and the lease
snapshot lay it out (10.2.4, 10.4.1). -/
abbrev MasterSet := BitVec 12

/-- The twelve masters in increasing number. -/
def allMasters : List Master := [0, 1, 2, 3, 4, 5, 6, 7, 8, 9, 10, 11]

/-- The forty lease records in increasing number. -/
def allRecords : List RecordNo :=
  [0, 1, 2, 3, 4, 5, 6, 7, 8, 9, 10, 11, 12, 13, 14, 15, 16, 17, 18, 19,
   20, 21, 22, 23, 24, 25, 26, 27, 28, 29, 30, 31, 32, 33, 34, 35, 36, 37, 38, 39]

/-- The four apertures of a master in increasing number. -/
def allApertures : List ApertureNo := [0, 1, 2, 3]

namespace MasterSet

def empty : MasterSet := 0#12

def mem (set : MasterSet) (m : Master) : Bool := set.getLsbD m.1

def single (m : Master) : MasterSet := BitVec.ofNat 12 (2 ^ m.1)

def insert (set : MasterSet) (m : Master) : MasterSet := set ||| single m

def erase (set : MasterSet) (m : Master) : MasterSet := set &&& ~~~ (single m)

/-- The members in increasing master number. -/
def members (set : MasterSet) : List Master := allMasters.filter (mem set)

end MasterSet

/-- A table of exactly `n` entries, kept as a list so that two tables are equal data exactly when their
entries are, and so that Lean's kernel can compare them. -/
structure Table (α : Type) (n : Nat) where
  list : List α
  length_eq : list.length = n
  deriving DecidableEq, Repr

namespace Table

variable {α β γ : Type} {n : Nat}

/-- Entry `i` of the table. -/
def get (t : Table α n) (i : Fin n) : α := t.list[i.1]'(by rw [t.length_eq]; exact i.2)

/-- The table with entry `i` replaced. -/
def set (t : Table α n) (i : Fin n) (x : α) : Table α n :=
  ⟨t.list.set i.1 x, by rw [List.length_set]; exact t.length_eq⟩

/-- The table whose `n` entries are all `x`. -/
def replicate (n : Nat) (x : α) : Table α n := ⟨List.replicate n x, List.length_replicate⟩

/-- Every entry changed by `f`. -/
def map (f : α → β) (t : Table α n) : Table β n :=
  ⟨t.list.map f, by rw [List.length_map]; exact t.length_eq⟩

/-- Two tables of one size combined entry by entry. -/
def zipWith (f : α → β → γ) (t : Table α n) (u : Table β n) : Table γ n :=
  ⟨List.zipWith f t.list u.list, by
    rw [List.length_zipWith, t.length_eq, u.length_eq, Nat.min_self]⟩

end Table

/-- `setRun l base len x` is `l` with the `len` entries from position `base` on replaced by `x`
(positions past the end are no entries and change nothing). -/
def setRun {α : Type} : List α → Nat → Nat → α → List α
  | [], _, _, _ => []
  | y :: ys, base + 1, len, x => y :: setRun ys base len x
  | _ :: ys, 0, len + 1, x => x :: setRun ys 0 len x
  | y :: ys, 0, 0, _ => y :: ys

theorem setRun_length {α : Type} (l : List α) (base len : Nat) (x : α) :
    (setRun l base len x).length = l.length := by
  induction l generalizing base len with
  | nil => rfl
  | cons y ys ih =>
    cases base with
    | succ b => simp [setRun, ih]
    | zero => cases len with
      | succ k => simp [setRun, ih]
      | zero => rfl

/-- The table with the run of `len` entries from `base` on replaced by `x`. -/
def Table.setRun {α : Type} {n : Nat} (t : Table α n) (base len : Nat) (x : α) : Table α n :=
  ⟨Sys2Proof.setRun t.list base len x, by rw [setRun_length]; exact t.length_eq⟩

end Sys2Proof
end

