-- ==== Sys2Proof/Config.lean ====
section
/-! DEFINITION. Config.lean: what is fixed for every card of the revision, and the one value the spec
leaves open (what SRAM holds after a system reset). -/

namespace Sys2Proof.Config

/-- Bytes in a block: 4 KiB (spec/00_scope.md 4.1). -/
def blockBytes : Nat := 4096

/-- Blocks in the pool (R25). -/
def blocks : Nat := 512

/-- Bytes of SRAM: 2 MiB as 512 blocks of 4 KiB (2.1 of spec/02). -/
def sramBytes : Nat := 2097152

/-- Bytes in an aperture: 1 MiB (R128). -/
def apertureBytes : Nat := 1048576

/-- Bytes moved by one burst of the memory engine, and bursts in a block step (R35, R42). -/
def burstBytes : Nat := 64

/-- Bursts of a block step (R42). -/
def burstsPerBlock : Nat := 64

/-- Longest run of a lease, in blocks (R1). -/
def maxRun : Nat := 256

/-- Longest session term and longest wait limit, in ticks (R45, R85). -/
def maxTerm : Nat := 4095

/-- Highest count the LOST record holds (R163). -/
def maxLost : Nat := 15

/-- Link address with both jumpers of J2 open (R168). -/
def linkBase : Nat := 0x58

/-- The information page's word at 0x10C: part code and card revision (10.3). -/
def cardRevisionWord : Word := 0x41200002#32

/-- FREE VALUE (log entry 2). What SRAM holds after the system reset of a given number: the spec says that
after a reset the card does not know what SRAM holds (2.4 of spec/02) and that contents are not kept across
loss of power (10.6). Nothing can be proved of it. -/
opaque sramAfterReset : Nat → List Host.Cell

end Sys2Proof.Config
end

