-- ==== Sys2Proof/Syntax.lean ====
section
/-! DEFINITION. Syntax.lean: the commands of the card, one constructor for each row of
spec/opcode_table.json, with the operands the happening brings from outside the card. A request, a
supervisor command, a countdown and the end of a burst bring none: what they work on is in the card
(R63, R152, R154, R181), and the request engine itself chooses whose request it takes (R155). -/

namespace Sys2Proof

/-- Width of a backplane transfer (R128, R145). -/
inductive Width where
  | byte
  | halfword
  | word
  deriving DecidableEq, Repr

/-- Direction of a backplane transfer or of a link transaction (R145, R169, R170). -/
inductive AccessDir where
  | read
  | write
  deriving DecidableEq, Repr

/-- The two parameter words of a mailbox (R150, R152). -/
inductive ParamWord where
  | param1
  | param2
  deriving DecidableEq, Repr

/-- A write that the card acknowledges and ignores: an aligned word write of the control space to a
read-only word or an undefined offset (R149), or a data byte of the link written to a read-only position or
to one that holds no field (R169). -/
inductive IgnoredWrite where
  | control (m : Master) (offset : BitVec 22) (value : Word)
  | link (value : Byte)
  deriving DecidableEq, Repr

/-- A command of the card: one constructor for each row of spec/opcode_table.json. -/
inductive Instr where
  -- the request engine takes a master's request (R154, R155)
  | takeOpen
  | takeRenew
  | takeClose
  | takeCreate
  | takeFind
  | takeQuery
  | takeMark
  | takeRetire
  | takeAcquire
  | takeRelease
  | takeConvert
  | takeCancel
  | takeResize
  | takeBind
  | takeUnbind
  | takeUndefined
  -- backplane transfers
  | reqWrite (m : Master) (value : Word)
  | paramWrite (m : Master) (which : ParamWord) (value : Word)
  | eventsWrite (m : Master) (value : Word)
  | eventEnableWrite (m : Master) (value : Word)
  | registerWriteIgnored (w : IgnoredWrite)
  | controlAccessError (master : BitVec 4) (address : BitVec 32) (dir : AccessDir) (width : Width)
  | dataRead (master : BitVec 4) (address : BitVec 32) (width : Width)
  | dataWrite (master : BitVec 4) (address : BitVec 32) (width : Width) (lanes : Word)
  -- ticks
  | tick
  | sessionCountdown
  | sessionLapse
  | waitQueueCountdown
  | waitTimeout
  -- bursts of the memory engine
  | scrubBurstEnd
  | scrubBlockStepEnd
  | copyBurstEnd
  | copyBlockStepEnd
  | moveCompletion
  -- the request engine takes the supervisor's command (R181)
  | takeRevoke
  | takeEvict
  | takeResetAll
  | takeUndefinedSupervisor
  -- system reset
  | systemReset
  -- the supervisor link
  | linkStart
  | linkAddress (address : BitVec 7) (dir : AccessDir)
  | linkStop
  | pointerByte (value : Byte)
  | linkReadByte (acknowledged : Bool)
  | stagedByte (value : Byte)
  | supervisorFlagsWrite (value : Byte)
  | supervisorEnablesWrite (value : Byte)
  | watermarkCommit (value : Byte)
  | tickPeriodCodeWrite (value : Byte)
  | blockQuotaCommit (value : Byte)
  | leaseQuotaWrite (value : Byte)
  | openPermissionWrite (value : Byte)
  | commandParameterCommit (value : Byte)
  | commandWrite (value : Byte)
  | snapshotSelect (value : Byte)
  | linkReset
  deriving DecidableEq, Repr

end Sys2Proof
end

