-- ==== Sys2Proof/Decode.lean ====
section
/-! DEFINITION. Decode.lean: the numbers of the card read as what they name. The table of spec/ gives its rows
no bits, so no word spells a command (decodeTableWord); the spec does encode the requests in the REQ word, the
supervisor commands in a byte, the words of the control space in offsets and the fields of the link in bank
positions (R148, R187, R190), and those readings are here. -/

namespace Sys2Proof

/-- The command that a word spells by the table's bits: spec/opcode_table.json gives no row any bits, so
no word spells one. -/
def decodeTableWord (_nbits _w : Nat) : Option Instr := none

/-- The requests a master can post (10.2.2). -/
inductive Request where
  | openSession
  | renew
  | close
  | create
  | find
  | query
  | mark
  | retire
  | acquire
  | release
  | convert
  | cancel
  | resize
  | bind
  | unbind
  /-- A code that names no request (R157). -/
  | undefined
  deriving DecidableEq, Repr

/-- The request a command code names (10.2.2, R157). -/
def requestOfCode (code : Byte) : Request :=
  match code.toNat with
  | 0x01 => .openSession
  | 0x02 => .renew
  | 0x03 => .close
  | 0x10 => .create
  | 0x11 => .find
  | 0x12 => .query
  | 0x13 => .mark
  | 0x14 => .retire
  | 0x20 => .acquire
  | 0x21 => .release
  | 0x22 => .convert
  | 0x23 => .cancel
  | 0x30 => .resize
  | 0x40 => .bind
  | 0x41 => .unbind
  | _ => .undefined

/-- The code of a request (10.2.2); code 0, which is undefined, for an undefined one. -/
def codeOfRequest : Request → Byte
  | .openSession => 0x01
  | .renew => 0x02
  | .close => 0x03
  | .create => 0x10
  | .find => 0x11
  | .query => 0x12
  | .mark => 0x13
  | .retire => 0x14
  | .acquire => 0x20
  | .release => 0x21
  | .convert => 0x22
  | .cancel => 0x23
  | .resize => 0x30
  | .bind => 0x40
  | .unbind => 0x41
  | .undefined => 0x00

/-- The supervisor commands (10.4). -/
inductive SupervisorCommand where
  | revoke
  | evict
  | resetAll
  /-- A byte that names no supervisor command (R181). -/
  | undefined
  deriving DecidableEq, Repr

/-- The supervisor command a byte names (10.4). -/
def supervisorCommandOfCode (code : Byte) : SupervisorCommand :=
  match code.toNat with
  | 0x01 => .revoke
  | 0x02 => .evict
  | 0xA5 => .resetAll
  | _ => .undefined

/-- The take of a request, as a row of the table. -/
def takeOfRequest : Request → Instr
  | .openSession => .takeOpen
  | .renew => .takeRenew
  | .close => .takeClose
  | .create => .takeCreate
  | .find => .takeFind
  | .query => .takeQuery
  | .mark => .takeMark
  | .retire => .takeRetire
  | .acquire => .takeAcquire
  | .release => .takeRelease
  | .convert => .takeConvert
  | .cancel => .takeCancel
  | .resize => .takeResize
  | .bind => .takeBind
  | .unbind => .takeUnbind
  | .undefined => .takeUndefined

/-- The take of a supervisor command, as a row of the table. -/
def takeOfSupervisorCommand : SupervisorCommand → Instr
  | .revoke => .takeRevoke
  | .evict => .takeEvict
  | .resetAll => .takeResetAll
  | .undefined => .takeUndefinedSupervisor

/-- The words of the control space (R148, 10.2, 10.3). -/
inductive ControlWord where
  | param (which : ParamWord)
  | req
  | status
  | answer0
  | answer1
  | events
  | eventEnable
  | waitRecord
  | moveRecord
  | lostRecord
  | faultRecord
  | apertureView (a : ApertureNo)
  | infoCounts
  | infoRecords
  | infoMaster
  | infoRevision
  /-- An offset that reaches no word: it reads 0 and a write to it is ignored (R148). -/
  | undefined
  deriving DecidableEq, Repr

/-- The word an aligned control offset reaches (10.2, 10.3). -/
def controlWord (offset : BitVec 22) : ControlWord :=
  match offset.toNat with
  | 0x000 => .param .param1
  | 0x004 => .param .param2
  | 0x008 => .req
  | 0x00C => .status
  | 0x010 => .answer0
  | 0x014 => .answer1
  | 0x018 => .events
  | 0x01C => .eventEnable
  | 0x020 => .waitRecord
  | 0x024 => .moveRecord
  | 0x028 => .lostRecord
  | 0x02C => .faultRecord
  | 0x030 => .apertureView 0
  | 0x034 => .apertureView 1
  | 0x038 => .apertureView 2
  | 0x03C => .apertureView 3
  | 0x100 => .infoCounts
  | 0x104 => .infoRecords
  | 0x108 => .infoMaster
  | 0x10C => .infoRevision
  | _ => .undefined

/-- A word of the control space that software may write (R150). -/
def ControlWord.writable : ControlWord → Bool
  | .param _ | .req | .events | .eventEnable => true
  | _ => false

/-- A control-space access answered ERROR: a master number of 12 to 15 (R148), a byte or halfword access, or
a word access whose offset is not a multiple of 4 (R149). -/
def controlRefused (master : BitVec 4) (offset : BitVec 22) (width : Width) : Bool :=
  decide (12 ≤ master.toNat) || width != .word || offset.toNat % 4 != 0

/-- The master that carries a transfer, when its number is 0 to 11. -/
def masterOfNumber (number : BitVec 4) : Option Master :=
  if h : number.toNat < 12 then some ⟨number.toNat, h⟩ else none

/-- A 16-bit field of the link's register bank that the supervisor may write (9.3 of spec/09). -/
inductive WideField where
  | watermark
  | commandParameter
  | blockQuota (m : Master)
  deriving DecidableEq, Repr

/-- What a position of the link's register bank holds (10.4). -/
inductive BankField where
  | supervisorFlags
  | supervisorEnables
  | wideLow (f : WideField)
  | wideHigh (f : WideField)
  | tickPeriodCode
  | command
  | slotState
  | slotAnswer
  | leaseQuota (m : Master)
  | openPermission (m : Master)
  | snapshotSelect
  | snapshotBuffer (i : Fin 62)
  /-- A position that holds no field: it reads 0 and a write to it is ignored (R169, R170). -/
  | none
  deriving DecidableEq, Repr

/-- The field at a position of the link's register bank (10.4). -/
def bankField (position : BitVec 7) : BankField :=
  if hp : 0x10 ≤ position.toNat ∧ position.toNat < 0x40 then
    let m : Master := ⟨(position.toNat - 0x10) / 4, by omega⟩
    match (position.toNat - 0x10) % 4 with
    | 0 => .wideLow (.blockQuota m)
    | 1 => .wideHigh (.blockQuota m)
    | 2 => .leaseQuota m
    | _ => .openPermission m
  else if hb : 0x42 ≤ position.toNat then
    .snapshotBuffer ⟨position.toNat - 0x42, by have := position.isLt; omega⟩
  else
    match position.toNat with
    | 0x00 => .supervisorFlags
    | 0x01 => .supervisorEnables
    | 0x02 => .wideLow .watermark
    | 0x03 => .wideHigh .watermark
    | 0x04 => .tickPeriodCode
    | 0x06 => .wideLow .commandParameter
    | 0x07 => .wideHigh .commandParameter
    | 0x08 => .command
    | 0x09 => .slotState
    | 0x0A => .slotAnswer
    | 0x40 => .snapshotSelect
    | _ => .none

/-- The row of the table that a data byte of the link is, by the field at the pointer (R169). -/
def dataByteCommand (position : BitVec 7) (value : Byte) : Instr :=
  match bankField position with
  | .supervisorFlags => .supervisorFlagsWrite value
  | .supervisorEnables => .supervisorEnablesWrite value
  | .wideLow _ => .stagedByte value
  | .wideHigh .watermark => .watermarkCommit value
  | .wideHigh .commandParameter => .commandParameterCommit value
  | .wideHigh (.blockQuota _) => .blockQuotaCommit value
  | .tickPeriodCode => .tickPeriodCodeWrite value
  | .command => .commandWrite value
  | .leaseQuota _ => .leaseQuotaWrite value
  | .openPermission _ => .openPermissionWrite value
  | .snapshotSelect => .snapshotSelect value
  | .slotState | .slotAnswer | .snapshotBuffer _ | .none => .registerWriteIgnored (.link value)

/-- A backplane transfer: master number, address, direction, width, and on a write the data lines
(2.1 of spec/00_scope.md, R188). -/
structure Transfer where
  master : BitVec 4
  address : BitVec 32
  dir : AccessDir
  width : Width
  lanes : Word
  deriving DecidableEq, Repr

/-- Address bits 31 to 23, which the card compares with its base jumpers (R187). -/
def addressBase (address : BitVec 32) : BitVec 9 := address.extractLsb' 23 9

/-- Window offset bit 22: the control space is the upper 4 MiB of the window (R148, R187). -/
def inControlSpace (address : BitVec 32) : Bool := address.getLsbD 22

/-- The offset of an address from the start of the half of the window it lies in (R128, R148). -/
def spaceOffset (address : BitVec 32) : BitVec 22 := address.extractLsb' 0 22

/-- The row of the table that a transfer is, for a card whose base bits are `base` (R128, R148, R149,
R187); none where the card does not decode the transfer, and for an aligned word read of the control space,
which changes nothing on the card and has no row (Machine/Views.lean gives what it answers). -/
def transferCommand (base : BitVec 9) (t : Transfer) : Option Instr :=
  if addressBase t.address ≠ base then none
  else if inControlSpace t.address = false then
    match t.dir with
    | .read => some (.dataRead t.master t.address t.width)
    | .write => some (.dataWrite t.master t.address t.width t.lanes)
  else if controlRefused t.master (spaceOffset t.address) t.width then
    some (.controlAccessError t.master t.address t.dir t.width)
  else
    match masterOfNumber t.master, t.dir with
    | some m, .write =>
      match controlWord (spaceOffset t.address) with
      | .req => some (.reqWrite m t.lanes)
      | .param which => some (.paramWrite m which t.lanes)
      | .events => some (.eventsWrite m t.lanes)
      | .eventEnable => some (.eventEnableWrite m t.lanes)
      | _ => some (.registerWriteIgnored (.control m (spaceOffset t.address) t.lanes))
    | _, _ => none

end Sys2Proof
end

