-- ==== Sys2Proof/Machine/State.lean ====
section
/-! DEFINITION. Machine/State.lean: every piece of state the spec gives the card, as plain data, the updates of it
the other files are written with, and the state right after system reset. INVENTORY.md lists each field with
the rule that names it and its reset value. -/

namespace Sys2Proof.Machine

/-! ### Lease records (R1) -/

inductive LeaseState where
  | free
  | held
  | idle
  | moving
  deriving DecidableEq, Repr

inductive Mode where
  | shared
  | exclusive
  deriving DecidableEq, Repr

inductive Direction where
  | up
  | down
  deriving DecidableEq, Repr

/-- A contiguous set of blocks: base block and length (R13). -/
structure Run where
  base : Nat
  len : Nat
  deriving DecidableEq, Repr

/-- A lease record (R1). `none` is a field that is absent. -/
structure Lease where
  state : LeaseState
  generation : Fin 1024
  tag : BitVec 16
  owner : Option Master
  keep : Bool
  isPublic : Bool
  direction : Option Direction
  mode : Option Mode
  holders : MasterSet
  run : Option Run
  target : Option Run
  written : Bool
  deriving DecidableEq, Repr

/-- A FREE record of a generation (R1, R22). -/
def Lease.freed (generation : Fin 1024) : Lease :=
  { state := .free, generation := generation, tag := 0, owner := none, keep := false, isPublic := false,
    direction := none, mode := none, holders := MasterSet.empty, run := none, target := none, written := false }

/-! ### Wait queue (R83) -/

inductive WaitKind where
  | acqShared
  | acqExcl
  | upgrade
  deriving DecidableEq, Repr

structure WaitEntry where
  master : Master
  handle : Handle
  kind : WaitKind
  remaining : Nat
  deriving DecidableEq, Repr

/-! ### Sessions and policy (R45, R175) -/

inductive SessionState where
  | closed
  | opened
  deriving DecidableEq, Repr

inductive EndReason where
  | none
  | closed
  | lapsed
  | evicted
  | reopened
  | reset
  deriving DecidableEq, Repr

structure Session where
  state : SessionState
  term : Option Nat
  remaining : Nat
  ownedLeases : Nat
  ownedBlocks : Nat
  endReason : EndReason
  deriving DecidableEq, Repr

structure Policy where
  openAllowed : Bool
  leaseQuota : Nat
  blockQuota : Nat
  deriving DecidableEq, Repr

/-! ### Mailboxes (R150) -/

/-- State of a mailbox (R151) and of the supervisor command slot (R180). -/
inductive PostState where
  | idle
  | pending
  | done
  deriving DecidableEq, Repr

/-- Answer codes (R158, 10.2.3). -/
inductive AnswerCode where
  | none
  | ok
  | reopened
  | queued
  | started
  | noSession
  | denied
  | badArg
  | badHandle
  | notHolder
  | notOwner
  | notPermitted
  | conflict
  | wouldWait
  | alreadyWaiting
  | notWaiting
  | busy
  | noRecord
  | noSpace
  | quota
  | notFound
  deriving DecidableEq, Repr

inductive WaitResult where
  | granted
  | timedOut
  | cancelled
  | withdrawn
  deriving DecidableEq, Repr

/-- The wait record (R104); `none` reads 0, as after reset. -/
structure WaitRecord where
  handle : Handle
  mode : Option Mode
  result : Option WaitResult
  deriving DecidableEq, Repr

inductive MoveResult where
  | done
  | abandoned
  deriving DecidableEq, Repr

inductive MoveReason where
  | none
  | released
  | sessionEnded
  | revoked
  deriving DecidableEq, Repr

/-- The move record (R127); result `none` reads 0, as after reset. -/
structure MoveRecord where
  handle : Handle
  result : Option MoveResult
  reason : MoveReason
  length : Nat
  deriving DecidableEq, Repr

/-- The LOST record (R163). -/
structure LostRecord where
  handle : Handle
  count : Nat
  deriving DecidableEq, Repr

inductive FaultReason where
  | unbound
  | lost
  | range
  | rights
  deriving DecidableEq, Repr

/-- The fault record (R145); reason `none` reads 0, as after reset. -/
structure FaultRecord where
  aperture : ApertureNo
  offset : BitVec 20
  dir : AccessDir
  width : Width
  reason : Option FaultReason
  deriving DecidableEq, Repr

structure Mailbox where
  state : PostState
  req : Word
  param1 : Word
  param2 : Word
  answer : AnswerCode
  answer0 : Word
  answer1 : Word
  /-- The eight event flags, in the positions of 10.2.5 (R160). -/
  events : BitVec 8
  /-- The eight event enables, in the same positions (R162). -/
  enables : BitVec 8
  waitRecord : WaitRecord
  moveRecord : MoveRecord
  lostRecord : LostRecord
  faultRecord : FaultRecord
  deriving DecidableEq, Repr

/-- A mailbox in its reset condition but for its enables (R150, R166). -/
def Mailbox.cleared (enables : BitVec 8) : Mailbox :=
  { state := .idle, req := 0, param1 := 0, param2 := 0, answer := .none, answer0 := 0, answer1 := 0,
    events := 0, enables := enables,
    waitRecord := { handle := 0, mode := none, result := none },
    moveRecord := { handle := 0, result := none, reason := .none, length := 0 },
    lostRecord := { handle := 0, count := 0 },
    faultRecord := { aperture := 0, offset := 0, dir := .read, width := .byte, reason := none } }

/-! ### Apertures (R129) -/

inductive LostReason where
  | revoked
  deriving DecidableEq, Repr

inductive Aperture where
  | unbound
  | bound (handle : Handle)
  | lost (handle : Handle) (reason : LostReason)
  deriving DecidableEq, Repr

/-! ### Pool and memory engine (R25, R26, R35, R39, R41, R42, R114) -/

inductive BlockState where
  | free
  | scrub
  | run (r : RecordNo)
  | target (r : RecordNo)
  deriving DecidableEq, Repr

structure Pool where
  map : Table BlockState 512
  freeCount : Nat
  scrubCount : Nat
  /-- The pool-ready state (R39). -/
  ready : Bool
  watermark : Nat
  deriving DecidableEq, Repr

/-- A client of the memory engine (R42). -/
inductive Client where
  | mover
  | scrubber
  deriving DecidableEq, Repr

/-- The engine's current block step (R42). A step that goes on has its burst counted by its client. A step
that was cut short, by the abandonment of its move (R43) or by RESET-ALL (R40), lasts until its burst in flight
ends, and that burst's place is kept here because the client no longer has it. -/
inductive BlockStep where
  | scrub
  | copy
  | cutScrub (block : Block) (burst : Nat)
  | cutCopy (source target : Nat) (burst : Nat)
  deriving DecidableEq, Repr

/-- The scrubber (R35). -/
structure Scrubber where
  block : Option Block
  burstsDone : Nat
  deriving DecidableEq, Repr

/-- The mover (R114). -/
structure Mover where
  record : Option RecordNo
  blocksCopied : Nat
  burstsDone : Nat
  deriving DecidableEq, Repr

structure Engine where
  step : Option BlockStep
  last : Client
  scrubber : Scrubber
  mover : Mover
  deriving DecidableEq, Repr

/-- SRAM: the bytes that are not 0, in strictly rising address (Machine/Memory.lean gives every reading
and writing of it). -/
abbrev Memory := List Host.Cell

/-! ### Tick generator (R46) -/

structure TickGenerator where
  /-- The tick period code (R176). -/
  code : Fin 5
  /-- The code whose length the running period has (R46). -/
  running : Fin 5
  /-- Ticks produced whose countdown the session table has not yet taken (R46, R47). -/
  sessionDue : Nat
  /-- Ticks produced whose countdown the wait queue has not yet taken (R46, R100). -/
  queueDue : Nat
  deriving DecidableEq, Repr

/-! ### Supervisor command slot, supervisor flags, snapshot (R177, R180, R185, R186) -/

structure Slot where
  state : PostState
  command : Byte
  parameter : BitVec 16
  answer : AnswerCode
  deriving DecidableEq, Repr

structure Supervisor where
  /-- The six supervisor flags, in the positions of 10.4 (R185). -/
  flags : BitVec 6
  /-- The six supervisor enables, in the same positions (R186). -/
  enables : BitVec 6
  deriving DecidableEq, Repr

structure Snapshot where
  select : Byte
  /-- Positions 0x42 to 0x7F of the register bank. -/
  buffer : Table Byte 62
  deriving DecidableEq, Repr

/-! ### Link (R168 to R174) -/

/-- Where the card stands on the link's bus. -/
inductive LinkPhase where
  /-- The card takes no part and waits for a START. -/
  | idle
  /-- A START has been received and the address byte is next; `again` when it was a repeated START inside a
  transaction addressed to the card, which keeps that transaction in progress (R170). -/
  | address (again : Bool)
  /-- A write transaction whose pointer byte is next (R169). -/
  | pointer
  /-- A write transaction whose data bytes are next (R169). -/
  | data
  /-- A read transaction: the card sends the next byte (R170). -/
  | sending
  /-- A read transaction whose last byte was not acknowledged: the card sends nothing more until the next
  START (R170). -/
  | silent
  deriving DecidableEq, Repr

/-- The staged byte, recorded with the field it belongs to (R172). -/
structure Staged where
  field : WideField
  value : Byte
  deriving DecidableEq, Repr

/-- The read latch: a field's high byte, recorded with the position of that byte (R173). -/
structure ReadLatch where
  position : BitVec 7
  value : Byte
  deriving DecidableEq, Repr

/-- What the card drove on SDA in the latest happening of the link (R168, R170, R174). -/
inductive SdaOutput where
  | released
  | acknowledge
  | sent (value : Byte)
  deriving DecidableEq, Repr

structure Link where
  phase : LinkPhase
  pointer : BitVec 7
  staged : Option Staged
  latch : Option ReadLatch
  sda : SdaOutput
  deriving DecidableEq, Repr

/-! ### Jumpers and the backplane's answer (R187, R188, R189) -/

structure Jumpers where
  /-- Block J1 as fitted: bit k - 1 is position k (R187). -/
  j1 : BitVec 9
  /-- Block J2 as fitted: bit k - 1 is position k (R187). -/
  j2 : BitVec 2
  /-- J1 as read at the last system reset: address bits 31 to 23 of the window (R187). -/
  base : BitVec 9
  /-- J2 as read at the last system reset (R168). -/
  linkSelect : BitVec 2
  deriving DecidableEq, Repr

inductive Response where
  | ack
  | retry
  | error
  deriving DecidableEq, Repr

/-- What the card answered to the last transfer it decoded: the response and the data lines (R188, R189). -/
structure BusAnswer where
  response : Response
  lanes : Word
  deriving DecidableEq, Repr

/-! ### The card -/

/-- Everything the spec gives the card, and three fields of the model's own: `busAnswer` holds an output,
`resets` numbers the system resets for the free value of SRAM, `pending` is the queue of commands to come. -/
structure State where
  leases : Table Lease 40
  queue : List WaitEntry
  sessions : Table Session 12
  policies : Table Policy 12
  mailboxes : Table Mailbox 12
  apertures : Table (Table Aperture 4) 12
  pool : Pool
  engine : Engine
  /-- The data access that waits at the SRAM port for the end of the burst in flight (R44). -/
  portWait : Option Transfer
  sram : Memory
  ticks : TickGenerator
  lastServed : Master
  slot : Slot
  supervisor : Supervisor
  snapshot : Snapshot
  link : Link
  jumpers : Jumpers
  busAnswer : Option BusAnswer
  resets : Nat
  pending : List Instr
  deriving DecidableEq, Repr

/-- No command of the card faults: each happening of the spec has an effect or an answer of its own. -/
inductive Fault where
  deriving DecidableEq, Repr

/-- Why a command is refused. -/
inductive Refusal where
  /-- Raised by exec's arm of a command that has no meaning yet (none is left); safe, since it stops. -/
  | notModelled (mnemonic : String)
  deriving DecidableEq, Repr

namespace State

/-! ### Reading and updating one entry -/

def lease (s : State) (r : RecordNo) : Lease := s.leases.get r
def session (s : State) (m : Master) : Session := s.sessions.get m
def policy (s : State) (m : Master) : Policy := s.policies.get m
def mailbox (s : State) (m : Master) : Mailbox := s.mailboxes.get m
def aperture (s : State) (m : Master) (a : ApertureNo) : Aperture := (s.apertures.get m).get a
/-- The state of a block (R25); `none` outside blocks 0 to 511. -/
def block (s : State) (b : Nat) : Option BlockState := s.pool.map.list[b]?

def setLease (s : State) (r : RecordNo) (l : Lease) : State := { s with leases := s.leases.set r l }
def setQueue (s : State) (q : List WaitEntry) : State := { s with queue := q }
def setSession (s : State) (m : Master) (x : Session) : State := { s with sessions := s.sessions.set m x }
def setPolicy (s : State) (m : Master) (p : Policy) : State := { s with policies := s.policies.set m p }
def setMailbox (s : State) (m : Master) (b : Mailbox) : State := { s with mailboxes := s.mailboxes.set m b }
def setAperture (s : State) (m : Master) (a : ApertureNo) (x : Aperture) : State :=
  { s with apertures := s.apertures.set m ((s.apertures.get m).set a x) }
def setApertures (s : State) (t : Table (Table Aperture 4) 12) : State := { s with apertures := t }
def setPool (s : State) (p : Pool) : State := { s with pool := p }
def setEngine (s : State) (e : Engine) : State := { s with engine := e }
def setPortWait (s : State) (x : Option Transfer) : State := { s with portWait := x }
def setSram (s : State) (mem : Memory) : State := { s with sram := mem }
def setTicks (s : State) (t : TickGenerator) : State := { s with ticks := t }
def setLastServed (s : State) (m : Master) : State := { s with lastServed := m }
def setSlot (s : State) (x : Slot) : State := { s with slot := x }
def setSupervisor (s : State) (x : Supervisor) : State := { s with supervisor := x }
def setSnapshot (s : State) (x : Snapshot) : State := { s with snapshot := x }
def setLink (s : State) (x : Link) : State := { s with link := x }
def setBusAnswer (s : State) (x : Option BusAnswer) : State := { s with busAnswer := x }

end State

/-! ### System reset -/

/-- A session record after system reset (R45). -/
def Session.atReset : Session :=
  { state := .closed, term := none, remaining := 0, ownedLeases := 0, ownedBlocks := 0, endReason := .none }

/-- A master's policy after system reset (R60, R61, R175). -/
def Policy.atReset : Policy := { openAllowed := true, leaseQuota := 6, blockQuota := 96 }

/-- The pool after a reset, with the watermark it then has (R25, R26, R39, R41). -/
def Pool.atReset (watermark : Nat) : Pool :=
  { map := Table.replicate 512 .scrub, freeCount := 0, scrubCount := 512, ready := false,
    watermark := watermark }

/-- The memory engine's reset condition (R35, R42, R114). -/
def Engine.atReset : Engine :=
  { step := none, last := .mover, scrubber := { block := none, burstsDone := 0 },
    mover := { record := none, blocksCopied := 0, burstsDone := 0 } }

/-- The memory engine when the scrubber's block step on block 0 has started at once after a reset (R42). -/
def Engine.scrubbingFromZero : Engine :=
  { Engine.atReset with step := some .scrub, last := .scrubber, scrubber := { block := some 0, burstsDone := 0 } }

/-- The snapshot register and buffer after a reset (R177). -/
def Snapshot.atReset : Snapshot := { select := 0xFF, buffer := Table.replicate 62 0 }

/-- The link after system reset (R169). -/
def Link.atReset : Link := { phase := .idle, pointer := 0, staged := none, latch := none, sda := .released }

/-- The card right after a system reset with jumpers `j1` and `j2` fitted (R187), before the engine's first
block step has started. -/
def State.resetCondition (j1 : BitVec 9) (j2 : BitVec 2) : State :=
  { leases := Table.replicate 40 (Lease.freed 0)
    queue := []
    sessions := Table.replicate 12 Session.atReset
    policies := Table.replicate 12 Policy.atReset
    mailboxes := Table.replicate 12 (Mailbox.cleared 0)
    apertures := Table.replicate 12 (Table.replicate 4 .unbound)
    pool := Pool.atReset 32
    engine := Engine.atReset
    portWait := none
    sram := []
    ticks := { code := 1, running := 1, sessionDue := 0, queueDue := 0 }
    lastServed := 11
    slot := { state := .idle, command := 0, parameter := 0, answer := .none }
    supervisor := { flags := 0, enables := 0 }
    snapshot := Snapshot.atReset
    link := Link.atReset
    jumpers := { j1 := j1, j2 := j2, base := j1, linkSelect := j2 }
    busAnswer := none
    resets := 0
    pending := [] }

/-- The card right after system reset, as shipped (J1 positions 8 and 9 fitted, J2 open, R187), with the
scrubber's first block step started at once (R42, R38). -/
def State.reset : State :=
  (State.resetCondition 0x180 0).setEngine Engine.scrubbingFromZero

end Sys2Proof.Machine
end

