-- ==== Sys2Proof/Machine/Flags.lean ====
section
/-! DEFINITION. Machine/Flags.lean: the event flags of the mailboxes with their LOST record and attention lines,
and the supervisor flags with ALERT (R160 to R163, R185, R186, 10.2.5, 10.4). -/

namespace Sys2Proof.Machine

/-- The event flags of a mailbox (R160). -/
inductive EventFlag where
  | done
  | waitEnd
  | moveEnd
  | lost
  | sessionEnd
  | fault
  | faultMore
  | requestLost
  deriving DecidableEq, Repr

/-- Position of an event flag in EVENTS and of its enable in EVENT_ENABLE (10.2.5). -/
def EventFlag.position : EventFlag → Nat
  | .done => 0
  | .waitEnd => 1
  | .moveEnd => 2
  | .lost => 3
  | .sessionEnd => 4
  | .fault => 5
  | .faultMore => 6
  | .requestLost => 7

/-- The eight flags with one set. -/
def EventFlag.mask (f : EventFlag) : BitVec 8 := BitVec.ofNat 8 (2 ^ f.position)

/-- Whether an event flag of a mailbox is set. -/
def Mailbox.flag (b : Mailbox) (f : EventFlag) : Bool := b.events.getLsbD f.position

/-- A mailbox with an event flag set; a flag already set stays set (R160). -/
def Mailbox.raise (b : Mailbox) (f : EventFlag) : Mailbox := { b with events := b.events ||| f.mask }

/-- A write to EVENTS: each flag whose position holds 0 is cleared, and clearing LOST empties the LOST record
(R161, R163). Bits 31 to 8 are ignored (R191). -/
def Mailbox.clearEvents (b : Mailbox) (value : Word) : Mailbox :=
  let kept : BitVec 8 := value.setWidth 8
  { b with
    events := b.events &&& kept
    lostRecord :=
      if kept.getLsbD EventFlag.lost.position then b.lostRecord else { handle := 0, count := 0 } }

/-- The attention line of a mailbox's master: driven while a flag is set with its enable set (R162). -/
def Mailbox.attention (b : Mailbox) : Bool := (b.events &&& b.enables) != 0

/-- The ATN line of a master (R162). -/
def State.atn (s : State) (m : Master) : Bool := (s.mailbox m).attention

/-- Set an event flag of a master. -/
def State.raise (s : State) (m : Master) (f : EventFlag) : State := s.setMailbox m ((s.mailbox m).raise f)

/-- The supervisor flags (R185). -/
inductive SupervisorFlag where
  | lapse
  | poolLow
  | tableFull
  | poolReady
  | cmdDone
  | cmdLost
  deriving DecidableEq, Repr

/-- Position of a supervisor flag and of its enable (10.4). -/
def SupervisorFlag.position : SupervisorFlag → Nat
  | .lapse => 0
  | .poolLow => 1
  | .tableFull => 2
  | .poolReady => 3
  | .cmdDone => 4
  | .cmdLost => 5

/-- The six flags with one set. -/
def SupervisorFlag.mask (f : SupervisorFlag) : BitVec 6 := BitVec.ofNat 6 (2 ^ f.position)

/-- Whether a supervisor flag is set. -/
def Supervisor.flag (x : Supervisor) (f : SupervisorFlag) : Bool := x.flags.getLsbD f.position

/-- The supervisor flags with one set; a flag already set stays set (R185). -/
def Supervisor.raise (x : Supervisor) (f : SupervisorFlag) : Supervisor := { x with flags := x.flags ||| f.mask }

/-- A byte written to the flags position clears each flag whose bit is 0 (R185). -/
def Supervisor.clearFlags (x : Supervisor) (value : Byte) : Supervisor :=
  { x with flags := x.flags &&& value.setWidth 6 }

/-- Set a supervisor flag. -/
def State.raiseSupervisor (s : State) (f : SupervisorFlag) : State := s.setSupervisor (s.supervisor.raise f)

/-- The ALERT line: asserted while a supervisor flag is set with its enable set (R186). -/
def State.alert (s : State) : Bool := (s.supervisor.flags &&& s.supervisor.enables) != 0

/-- The front indicator for pool-ready (10.6). -/
def State.poolReadyIndicator (s : State) : Bool := s.pool.ready

end Sys2Proof.Machine
end

