-- ==== Sys2Proof/Machine/Memory.lean ====
section
/-! DEFINITION. Machine/Memory.lean: SRAM as a list of (address, byte) cells in one canonical form, addresses
strictly rising and no cell equal to what an unlisted address reads as. An unlisted address reads as 0
(log entry 1). -/

namespace Sys2Proof.Machine.Memory

/-- What an address that no cell lists reads as (log entry 1). -/
def unlisted : Byte := 0

/-- The byte at an address. -/
def read : Memory → Nat → Byte
  | [], _ => unlisted
  | c :: cs, a => if a = c.1 then c.2 else read cs a

/-- A cell in front of a memory, left out when it says what an unlisted address reads as. -/
def consCell (a : Nat) (b : Byte) (rest : Memory) : Memory := if b = unlisted then rest else (a, b) :: rest

/-- The memory with the byte at an address replaced. -/
def write : Memory → Nat → Byte → Memory
  | [], a, b => consCell a b []
  | c :: cs, a, b =>
    if a < c.1 then consCell a b (c :: cs)
    else if a = c.1 then consCell a b cs
    else c :: write cs a b

/-- The memory with `len` bytes from `base` on made 0, as a zero-fill burst makes them (R35). -/
def zero (mem : Memory) (base len : Nat) : Memory :=
  mem.filter fun c => !(decide (base ≤ c.1) && decide (c.1 < base + len))

/-- The memory with `len` bytes copied from `source` on to `target` on, lowest first, as a copy burst copies
them (R116). -/
def copy (mem : Memory) (source target : Nat) : Nat → Memory
  | 0 => mem
  | len + 1 => write (copy mem source target len) (target + len) (read mem (source + len))

/-- A memory that holds given cells, a later one over an earlier one; cells outside SRAM are left out. -/
def ofCells : List Host.Cell → Memory
  | [] => []
  | c :: cs => if c.1 < Config.sramBytes then write (ofCells cs) c.1 c.2 else ofCells cs

/-- Every address of the memory is above `bound`. -/
def above (bound : Nat) (mem : Memory) : Bool := mem.all fun c => decide (bound < c.1)

/-- The canonical form: strictly rising addresses, and no cell an unlisted address would read the same as. -/
def wf : Memory → Bool
  | [] => true
  | c :: cs => c.2 != unlisted && above c.1 cs && wf cs

end Sys2Proof.Machine.Memory
end

