-- ==== Sys2Proof/Machine/Operands.lean ====
section
/-! DEFINITION. Machine/Operands.lean: the fields a request reads from REQ, PARAM1 and PARAM2 (R63, 10.2.2), the
codes of the names the layouts carry (10.2.1 to 10.2.5, 10.4.1), handles (R4), and the reading of an aperture
offset as a block and byte of a run (R10). -/

namespace Sys2Proof.Machine

/-! ### Fields of the request words -/

/-- A field of a word: `len` bits from bit `low` up. -/
def wordField (w : Word) (low len : Nat) : Nat := (w.extractLsb' low len).toNat

/-- The request that a REQ word names, by its bits 7 to 0 (10.2.1, R191). -/
def Mailbox.request (b : Mailbox) : Request := requestOfCode (b.req.setWidth 8)

/-- The 16-bit parameter of REQ, bits 31 to 16 (10.2.1). -/
def Mailbox.parameter (b : Mailbox) : BitVec 16 := b.req.extractLsb' 16 16

/-- The term of OPEN (R48). -/
def Mailbox.openTerm (b : Mailbox) : Nat := b.parameter.toNat

/-- The length of CREATE and the new length of RESIZE, PARAM1 bits 8 to 0. -/
def Mailbox.lengthField (b : Mailbox) : Nat := wordField b.param1 0 9

/-- The direction of CREATE, PARAM1 bit 16. -/
def Mailbox.directionField (b : Mailbox) : Direction := if b.param1.getLsbD 16 then .down else .up

/-- The keep parameter of CREATE, PARAM1 bit 17. -/
def Mailbox.keepField (b : Mailbox) : Bool := b.param1.getLsbD 17

/-- The public parameter of CREATE, PARAM1 bit 18. -/
def Mailbox.publicField (b : Mailbox) : Bool := b.param1.getLsbD 18

/-- The mask of FIND, PARAM1 bits 15 to 0. -/
def Mailbox.maskField (b : Mailbox) : BitVec 16 := b.param1.extractLsb' 0 16

/-- The start record of FIND, PARAM2 bits 7 to 0. -/
def Mailbox.startField (b : Mailbox) : Nat := wordField b.param2 0 8

/-- The mode of ACQUIRE and CONVERT, PARAM1 bits 1 to 0; none for the illegal codes 0 and 3 (R85). -/
def Mailbox.modeField (b : Mailbox) : Option Mode :=
  match wordField b.param1 0 2 with
  | 1 => some .shared
  | 2 => some .exclusive
  | _ => none

/-- The wait limit of ACQUIRE and CONVERT, PARAM1 bits 27 to 16 (R85). -/
def Mailbox.limitField (b : Mailbox) : Nat := wordField b.param1 16 12

/-- The aperture of BIND and UNBIND, PARAM1 bits 1 to 0 (R131). -/
def Mailbox.apertureField (b : Mailbox) : ApertureNo :=
  ⟨wordField b.param1 0 2, by
    unfold wordField
    have := (b.param1.extractLsb' 0 2).isLt
    omega⟩

/-! ### Handles (R4) -/

/-- The handle of a record at a generation: generation times 64 plus record number (R4). -/
def handleOf (generation : Fin 1024) (r : RecordNo) : Handle := BitVec.ofNat 16 (generation.1 * 64 + r.1)

/-- The record number a handle carries, when it is 0 to 39 (R5). -/
def handleRecord (h : Handle) : Option RecordNo :=
  if hr : h.toNat % 64 < 40 then some ⟨h.toNat % 64, hr⟩ else none

/-- The generation a handle carries (R4). -/
def handleGeneration (h : Handle) : Nat := h.toNat / 64

/-- The generation that follows when CREATE takes the record: 0 and 1023 become 1 (R3). -/
def nextGeneration (generation : Fin 1024) : Fin 1024 :=
  if h : generation.1 < 1023 then ⟨generation.1 + 1, by omega⟩ else 1

/-! ### Codes of the layouts -/

def LeaseState.code : LeaseState → Nat
  | .free => 0
  | .held => 1
  | .idle => 2
  | .moving => 3

def modeCode : Option Mode → Nat
  | none => 0
  | some .shared => 1
  | some .exclusive => 2

def directionCode : Option Direction → Nat
  | some .down => 1
  | _ => 0

def PostState.code : PostState → Nat
  | .idle => 0
  | .pending => 1
  | .done => 2

def SessionState.code : SessionState → Nat
  | .closed => 0
  | .opened => 1

def EndReason.code : EndReason → Nat
  | .none => 0
  | .closed => 1
  | .lapsed => 2
  | .evicted => 3
  | .reopened => 4
  | .reset => 5

def WaitKind.code : WaitKind → Nat
  | .acqShared => 1
  | .acqExcl => 2
  | .upgrade => 3

/-- Answer codes (10.2.3). -/
def AnswerCode.code : AnswerCode → Nat
  | .none => 0
  | .ok => 1
  | .reopened => 2
  | .queued => 3
  | .started => 4
  | .noSession => 5
  | .denied => 6
  | .badArg => 7
  | .badHandle => 8
  | .notHolder => 9
  | .notOwner => 10
  | .notPermitted => 11
  | .conflict => 12
  | .wouldWait => 13
  | .alreadyWaiting => 14
  | .notWaiting => 15
  | .busy => 16
  | .noRecord => 17
  | .noSpace => 18
  | .quota => 19
  | .notFound => 20

def waitResultCode : Option WaitResult → Nat
  | none => 0
  | some .granted => 1
  | some .timedOut => 2
  | some .cancelled => 3
  | some .withdrawn => 4

def moveResultCode : Option MoveResult → Nat
  | none => 0
  | some .done => 1
  | some .abandoned => 2

def MoveReason.code : MoveReason → Nat
  | .none => 0
  | .released => 1
  | .sessionEnded => 2
  | .revoked => 3

def faultReasonCode : Option FaultReason → Nat
  | none => 0
  | some .unbound => 1
  | some .lost => 2
  | some .range => 3
  | some .rights => 4

def accessDirCode : AccessDir → Nat
  | .read => 0
  | .write => 1

def widthCode : Width → Nat
  | .byte => 0
  | .halfword => 1
  | .word => 2

def masterCode : Option Master → Nat
  | none => 0
  | some m => m.1

def boolCode (b : Bool) : Nat := if b then 1 else 0

/-- A word whose fields hold the given values, each from its lowest bit up; other bits are 0. -/
def packWord : List (Nat × Nat) → Word
  | [] => 0
  | (value, low) :: fields => BitVec.ofNat 32 (value * 2 ^ low) ||| packWord fields

/-- Low byte of a 16-bit field. -/
def lowByte (value : Nat) : Byte := BitVec.ofNat 8 value

/-- High byte of a 16-bit field. -/
def highByte (value : Nat) : Byte := BitVec.ofNat 8 (value / 256)

/-- The value of a 16-bit field from its two bytes (R172). -/
def pairValue (low high : Byte) : Nat := high.toNat * 256 + low.toNat

/-! ### The mode a wait entry asks for -/

/-- The mode asked for by an entry (R100). -/
def WaitKind.mode : WaitKind → Mode
  | .acqShared => .shared
  | .acqExcl => .exclusive
  | .upgrade => .exclusive

/-- The kind of entry an ACQUIRE makes (R87). -/
def kindOfAcquire : Mode → WaitKind
  | .shared => .acqShared
  | .exclusive => .acqExcl

/-! ### Aperture offsets (R10, R128, R140) -/

/-- Bytes of a transfer (R128). -/
def widthBytes : Width → Nat
  | .byte => 1
  | .halfword => 2
  | .word => 4

/-- Whether an access is aligned (R128). -/
def widthAligned (w : Width) (offset : Nat) : Bool := offset % widthBytes w == 0

/-- The offsets valid for a lease of a direction and length (R10, R140). -/
def validOffset (dir : Direction) (len offset : Nat) : Bool :=
  match dir with
  | .up => decide (offset < len * Config.blockBytes)
  | .down => decide (Config.apertureBytes - len * Config.blockBytes ≤ offset) && decide (offset < Config.apertureBytes)

/-- The block of a run that a valid offset reaches (R10). -/
def blockReached (dir : Direction) (run : Run) (offset : Nat) : Nat :=
  match dir with
  | .up => run.base + offset / Config.blockBytes
  | .down => run.base + run.len + offset / Config.blockBytes - 256

/-- The SRAM address that a valid offset reaches: byte `offset mod 4096` of that block (R10, R143). -/
def addressReached (dir : Direction) (run : Run) (offset : Nat) : Nat :=
  blockReached dir run offset * Config.blockBytes + offset % Config.blockBytes

/-- The aperture that a data-window address selects, bits 21 and 20 (R128). -/
def apertureOf (address : BitVec 32) : ApertureNo :=
  ⟨(address.extractLsb' 20 2).toNat, (address.extractLsb' 20 2).isLt⟩

/-- The aperture offset of a data-window address, bits 19 to 0 (R128). -/
def apertureOffset (address : BitVec 32) : BitVec 20 := address.extractLsb' 0 20

/-! ### Byte lanes (R188) -/

/-- The byte that lane `j` of the data lines carries. -/
def laneByte (lanes : Word) (j : Nat) : Byte := lanes.extractLsb' (8 * j) 8

/-- The data lines that carry the `n` bytes of SRAM from `address` on, the one at `address` in lane
`lane`; every other lane is 0 (R188). -/
def readLanes (mem : Nat → Byte) (address lane : Nat) : Nat → Word
  | 0 => 0
  | n + 1 => readLanes mem address lane n ||| ((mem (address + n)).setWidth 32 <<< (8 * (lane + n)))

end Sys2Proof.Machine
end

