-- ==== Sys2Proof/Machine/Ops.lean ====
section
/-! DEFINITION. Machine/Ops.lean: the operations the commands share: validating handles, sessions and counts, the
pool, the memory engine's choice, notices, the grant pass, move abandonment, retirement, the session ending,
and the take of a request or of a supervisor command. Each is written once, from the rule it names. -/

namespace Sys2Proof.Machine

open Host (Outcome)

/-! ### Looking things up -/

/-- The current handle of a record (R4). -/
def State.handle (s : State) (r : RecordNo) : Handle := handleOf (s.lease r).generation r

/-- The record a valid handle names: its number is 0 to 39, the record is not FREE, and the generations
agree (R5). -/
def State.validate (s : State) (h : Handle) : Option RecordNo :=
  match handleRecord h with
  | some r =>
    if (s.lease r).state ≠ .free ∧ (s.lease r).generation.1 = handleGeneration h then some r else none
  | none => none

/-- The lowest-numbered FREE record (R2). -/
def State.firstFree (s : State) : Option RecordNo := allRecords.find? fun r => (s.lease r).state == .free

/-- The record that carries a tag, FREE records left out (R6, R66). -/
def State.recordWithTag (s : State) (tag : BitVec 16) : Option RecordNo :=
  allRecords.find? fun r => (s.lease r).state != .free && (s.lease r).tag == tag

/-- The card's MOVING record (R112, R114). -/
def State.movingRecord (s : State) : Option RecordNo := allRecords.find? fun r => (s.lease r).state == .moving

/-- The length of a record's run; 0 where it has none. -/
def Lease.length (l : Lease) : Nat :=
  match l.run with
  | some run => run.len
  | none => 0

/-- The length of a record's target run; 0 where it has none. -/
def Lease.targetLength (l : Lease) : Nat :=
  match l.target with
  | some run => run.len
  | none => 0

/-- A master holds the lease EXCLUSIVE (R77, R106). -/
def Lease.heldExclusiveBy (l : Lease) (m : Master) : Bool := l.holders.mem m && l.mode == some .exclusive

/-- The wait entry of a master (R83). -/
def State.entryOf (s : State) (m : Master) : Option WaitEntry := s.queue.find? fun e => e.master == m

/-- The entries for the lease a handle names, in queue order (R84). -/
def State.entriesFor (s : State) (h : Handle) : List WaitEntry := s.queue.filter fun e => e.handle == h

/-- The number of wait entries that name a record (R75, R178). -/
def State.waiterCount (s : State) (r : RecordNo) : Nat := (s.entriesFor (s.handle r)).length

/-! ### Sessions and owned counts -/

/-- Whether a master's session is OPEN. -/
def State.isOpen (s : State) (m : Master) : Bool := (s.session m).state == .opened

/-- Renewal: remaining becomes the term (R50). -/
def State.renew (s : State) (m : Master) : State :=
  s.setSession m { s.session m with remaining := (s.session m).term.getD 0 }

/-- A master's owned counts raised (R59). -/
def State.addOwned (s : State) (m : Master) (leases blocks : Nat) : State :=
  s.setSession m { s.session m with
    ownedLeases := (s.session m).ownedLeases + leases
    ownedBlocks := (s.session m).ownedBlocks + blocks }

/-- A master's owned counts lowered (R59). -/
def State.dropOwned (s : State) (m : Master) (leases blocks : Nat) : State :=
  s.setSession m { s.session m with
    ownedLeases := (s.session m).ownedLeases - leases
    ownedBlocks := (s.session m).ownedBlocks - blocks }

/-- Raise the counts of a lease's owner. -/
def State.addOwnedBy (s : State) (owner : Option Master) (leases blocks : Nat) : State :=
  match owner with
  | some m => s.addOwned m leases blocks
  | none => s

/-- Lower the counts of a lease's owner. -/
def State.dropOwnedBy (s : State) (owner : Option Master) (leases blocks : Nat) : State :=
  match owner with
  | some m => s.dropOwned m leases blocks
  | none => s

/-- The committed blocks of a master: its owned-block count, and the growth of the card's MOVING record when
it owns that (R60). -/
def State.committedBlocks (s : State) (m : Master) : Nat :=
  (s.session m).ownedBlocks +
    match s.movingRecord with
    | some r => if (s.lease r).owner = some m then (s.lease r).targetLength - (s.lease r).length else 0
    | none => 0

/-- Whether a master's block quota refuses some more blocks (R60). -/
def State.blockQuotaRefuses (s : State) (m : Master) (more : Nat) : Bool :=
  decide ((s.policy m).blockQuota < s.committedBlocks m + more)

/-! ### The pool -/

/-- The first `len` blocks of a stretch of the map are all there and FREE. -/
def freePrefix : List BlockState → Nat → Bool
  | _, 0 => true
  | [], _ + 1 => false
  | b :: bs, n + 1 => b == .free && freePrefix bs n

/-- The smallest base that fits a run of `len` blocks, in a stretch of the map that starts at `base` (R28). -/
def lowestFit : List BlockState → Nat → Nat → Option Nat
  | [], _, _ => none
  | b :: bs, len, base => if freePrefix (b :: bs) len then some base else lowestFit bs len (base + 1)

/-- The largest base that fits a run of `len` blocks, in a stretch of the map that starts at `base` (R28). -/
def highestFit : List BlockState → Nat → Nat → Option Nat
  | [], _, _ => none
  | b :: bs, len, base =>
    match highestFit bs len (base + 1) with
    | some found => some found
    | none => if freePrefix (b :: bs) len then some base else none

/-- The run the pool finds for a length and direction (R28). -/
def Pool.findRun (p : Pool) (dir : Direction) (len : Nat) : Option Run :=
  match dir with
  | .up => (lowestFit p.map.list len 0).map fun base => { base := base, len := len }
  | .down => (highestFit p.map.list len 0).map fun base => { base := base, len := len }

/-- All the blocks of a run are there and FREE. -/
def Pool.allFree (p : Pool) (run : Run) : Bool := freePrefix (p.map.list.drop run.base) run.len

/-- The blocks that growth in place adds to a run that is to have `len` blocks, and the run it then is; none
where the run cannot grow in place (R31). -/
def Pool.growthInPlace (p : Pool) (dir : Direction) (run : Run) (len : Nat) : Option (Run × Run) :=
  match dir with
  | .up =>
    if p.allFree { base := run.base + run.len, len := len - run.len } then
      some ({ base := run.base + run.len, len := len - run.len }, { base := run.base, len := len })
    else none
  | .down =>
    if len - run.len ≤ run.base ∧ p.allFree { base := run.base - (len - run.len), len := len - run.len } = true then
      some ({ base := run.base - (len - run.len), len := len - run.len },
        { base := run.base - (len - run.len), len := len })
    else none

/-- The blocks that a shrink to `len` blocks takes off a run (R33). -/
def shrunkOff (dir : Direction) (run : Run) (len : Nat) : Run :=
  match dir with
  | .up => { base := run.base + len, len := run.len - len }
  | .down => { base := run.base, len := run.len - len }

/-- The run that a shrink to `len` blocks leaves (R33). -/
def shrunkTo (dir : Direction) (run : Run) (len : Nat) : Run :=
  match dir with
  | .up => { base := run.base, len := len }
  | .down => { base := run.base + (run.len - len), len := len }

/-- The pool with a run of FREE blocks given to a lease; the FREE count drops by its length (R29, R31, R32). -/
def Pool.allocate (p : Pool) (run : Run) (x : BlockState) : Pool :=
  { p with map := p.map.setRun run.base run.len x, freeCount := p.freeCount - run.len }

/-- The pool with the blocks of a lease sent to SCRUB; the SCRUB count rises by their number (R33, R34). -/
def Pool.toScrub (p : Pool) (run : Run) : Pool :=
  { p with map := p.map.setRun run.base run.len .scrub, scrubCount := p.scrubCount + run.len }

/-- The pool with blocks that stay in a lease marked anew (R34, move completion). -/
def Pool.remark (p : Pool) (run : Run) (x : BlockState) : Pool :=
  { p with map := p.map.setRun run.base run.len x }

/-- The lowest-numbered SCRUB block (R35). -/
def Pool.lowestScrub (p : Pool) : Option Block :=
  match p.map.list.findIdx? (fun b => b == .scrub) with
  | some b => if h : b < 512 then some ⟨b, h⟩ else none
  | none => none

/-- The FREE count falls from the watermark or above to below it (R41). -/
def Pool.crossesWatermark (before after : Pool) : Bool :=
  decide (before.watermark ≤ before.freeCount) && decide (after.freeCount < before.watermark)

/-- Give a run of FREE blocks to a lease, setting POOL_LOW when the FREE count so crosses the watermark
(R29, R31, R32, R41). -/
def State.allocate (s : State) (run : Run) (x : BlockState) : State :=
  let s' := s.setPool (s.pool.allocate run x)
  if s.pool.crossesWatermark (s.pool.allocate run x) then s'.raiseSupervisor .poolLow else s'

/-- Send the blocks of a run, when there is one, to SCRUB (R33, R34). -/
def State.scrubRun (s : State) (run : Option Run) : State :=
  match run with
  | some run => s.setPool (s.pool.toScrub run)
  | none => s

/-! ### The memory engine's choice (R42) -/

/-- The mover has work while a move is in flight and blocks remain to be copied (R42, R114). -/
def State.moverHasWork (s : State) : Bool :=
  match s.engine.mover.record with
  | some r => decide (s.engine.mover.blocksCopied < (s.lease r).length)
  | none => false

/-- The scrubber has work while the SCRUB count is greater than 0 (R35, R42). -/
def State.scrubberHasWork (s : State) : Bool := decide (0 < s.pool.scrubCount)

/-- The engine with no block step. -/
def Engine.goIdle (e : Engine) : Engine := { e with step := none }

/-- The engine starts a block step for the mover (R42, R114). -/
def Engine.startCopy (e : Engine) : Engine :=
  { e with step := some .copy, last := .mover, mover := { e.mover with burstsDone := 0 } }

/-- The engine starts a block step for the scrubber on a block (R35, R42). -/
def Engine.startScrub (e : Engine) (b : Block) : Engine :=
  { e with step := some .scrub, last := .scrubber, scrubber := { block := some b, burstsDone := 0 } }

/-- The engine starts the scrubber's block step on the lowest-numbered SCRUB block (R35). -/
def State.startScrubStep (s : State) : State :=
  match s.pool.lowestScrub with
  | some b => s.setEngine (s.engine.startScrub b)
  | none => s.setEngine s.engine.goIdle

/-- The engine chooses its next block step: with work for both clients the one that did not have the last,
with work for one that one, and with none it goes idle (R42). -/
def State.chooseStep (s : State) : State :=
  if s.moverHasWork && (!s.scrubberHasWork || s.engine.last == .scrubber) then s.setEngine s.engine.startCopy
  else if s.scrubberHasWork then s.startScrubStep
  else s.setEngine s.engine.goIdle

/-- An idle engine starts a block step in the happening that gives a client work (R42). -/
def State.wakeEngine (s : State) : State := if s.engine.step = none then s.chooseStep else s

/-! ### Notices -/

/-- A wait ends with a record: the record is written whole and WAIT_END is set (R104). -/
def State.endWait (s : State) (m : Master) (record : WaitRecord) : State :=
  s.setMailbox m (({ s.mailbox m with waitRecord := record } : Mailbox).raise .waitEnd)

/-- A move ends with a record: the record is written whole and MOVE_END is set (R127). -/
def State.endMove (s : State) (m : Master) (record : MoveRecord) : State :=
  s.setMailbox m (({ s.mailbox m with moveRecord := record } : Mailbox).raise .moveEnd)

/-- The LOST notice: the record takes the handle, its count rises by one and is held at 15, and LOST is set
(R21, R163). -/
def State.lostNotice (s : State) (m : Master) (h : Handle) : State :=
  s.setMailbox m (({ s.mailbox m with
    lostRecord :=
      { handle := h, count := min ((s.mailbox m).lostRecord.count + 1) Config.maxLost } } : Mailbox).raise .lost)

/-- One change of the card for each member of a set of masters, in increasing number. -/
def State.forMasters (s : State) (set : MasterSet) (change : State → Master → State) : State :=
  set.members.foldl change s

/-! ### Apertures -/

/-- An aperture bound to a handle becomes UNBOUND; any other stays (R89, R21). -/
def Aperture.release (h : Handle) : Aperture → Aperture
  | .bound h' => if h' = h then .unbound else .bound h'
  | x => x

/-- An aperture bound to a handle becomes LOST with reason REVOKED; any other stays (R135). -/
def Aperture.lose (h : Handle) : Aperture → Aperture
  | .bound h' => if h' = h then .lost h .revoked else .bound h'
  | x => x

/-- Every aperture of one master bound to a handle becomes UNBOUND (R89). -/
def State.releaseApertures (s : State) (m : Master) (h : Handle) : State :=
  s.setApertures (s.apertures.set m ((s.apertures.get m).map (Aperture.release h)))

/-- Every aperture of every master bound to a handle becomes UNBOUND (R21). -/
def State.releaseAllApertures (s : State) (h : Handle) : State :=
  s.setApertures (s.apertures.map fun t => t.map (Aperture.release h))

/-- Every aperture of every master bound to a handle becomes LOST (R135). -/
def State.loseApertures (s : State) (h : Handle) : State :=
  s.setApertures (s.apertures.map fun t => t.map (Aperture.lose h))

/-- All four apertures of a master become UNBOUND (R57). -/
def State.unbindMaster (s : State) (m : Master) : State :=
  s.setApertures (s.apertures.set m (Table.replicate 4 .unbound))

/-- The handle an aperture names, 0 when UNBOUND, as BIND and UNBIND answer it (R132). -/
def Aperture.handle : Aperture → Handle
  | .unbound => 0
  | .bound h => h
  | .lost h _ => h

/-- The state code of an aperture (R132, 10.2.5). -/
def Aperture.code : Aperture → Nat
  | .unbound => 0
  | .bound _ => 1
  | .lost _ _ => 2

/-! ### The wait queue -/

/-- The queue without the entry of a master for a handle. -/
def dropFromQueue (q : List WaitEntry) (m : Master) (h : Handle) : List WaitEntry :=
  q.filter fun e => !(e.master == m && e.handle == h)

/-- The queue with an UPGRADE entry placed immediately before the first entry that names the same lease, or at
the end when none does (R84). -/
def insertUpgrade (e : WaitEntry) : List WaitEntry → List WaitEntry
  | [] => [e]
  | x :: xs => if x.handle = e.handle then e :: x :: xs else x :: insertUpgrade e xs

/-- The entries that the grant pass grants on a lease as it stands, in order (R97, R98). -/
def State.grantable (s : State) (r : RecordNo) : List WaitEntry :=
  if (s.lease r).state = .moving then []
  else
    match s.entriesFor (s.handle r) with
    | [] => []
    | e :: rest =>
      match e.kind with
      | .upgrade => if (s.lease r).holders = MasterSet.single e.master then [e] else []
      | .acqExcl => if (s.lease r).holders = MasterSet.empty then [e] else []
      | .acqShared =>
        if (s.lease r).holders = MasterSet.empty ∨ (s.lease r).mode = some .shared then
          e :: rest.takeWhile fun x => x.kind == .acqShared
        else []

/-- A lease as the grant of an entry leaves it (R98). -/
def Lease.granted (l : Lease) (e : WaitEntry) : Lease :=
  match e.kind with
  | .upgrade => { l with mode := some .exclusive }
  | .acqExcl => { l with holders := MasterSet.single e.master, mode := some .exclusive, state := .held }
  | .acqShared => { l with holders := l.holders.insert e.master, mode := some .shared, state := .held }

/-- The grant of one entry: the lease takes its master, the entry leaves the queue, and its master gets a
GRANTED record (R98, R99). -/
def State.grantEntry (r : RecordNo) (s : State) (e : WaitEntry) : State :=
  ((s.setLease r ((s.lease r).granted e)).setQueue (dropFromQueue s.queue e.master e.handle)).endWait e.master
    { handle := e.handle, mode := some e.kind.mode, result := some .granted }

/-- The grant pass for one lease (R97, R98, R99). -/
def State.grantPass (s : State) (r : RecordNo) : State := (s.grantable r).foldl (State.grantEntry r) s

/-- A wait entry is removed without a record; when it was the head of its lease, the grant pass runs for that
lease (R54, R96). -/
def State.removeEntry (s : State) (e : WaitEntry) : State :=
  let s' := s.setQueue (dropFromQueue s.queue e.master e.handle)
  if (s.entriesFor e.handle).head? = some e then
    match s.validate e.handle with
    | some r => s'.grantPass r
    | none => s'
  else s'

/-! ### Moves: the pairing of blocks and abandonment (R115, R122) -/

/-- The block of the current run that the mover copies at a block step (R115, R116). -/
def Lease.sourceBlock (l : Lease) (i : Nat) : Nat :=
  match l.run with
  | some run => run.base + i
  | none => i

/-- The block of the target run that it is paired with (R115). -/
def Lease.targetBlock (l : Lease) (i : Nat) : Nat :=
  match l.target, l.direction with
  | some target, some .down => target.base + (target.len - l.length) + i
  | some target, _ => target.base + i
  | none, _ => i

/-- The mover gives up its move: its items are as they are with no move (R114), and a copy block step in
flight lasts only until its burst in flight ends (R43, R122). -/
def Engine.giveUpMove (e : Engine) (l : Lease) : Engine :=
  { e with
    mover := { record := none, blocksCopied := 0, burstsDone := 0 }
    step :=
      if e.step = some .copy then
        some (.cutCopy (l.sourceBlock e.mover.blocksCopied) (l.targetBlock e.mover.blocksCopied) e.mover.burstsDone)
      else e.step }

/-- Abandonment of the move of a MOVING record, for a reason (R122). -/
def State.abandonMove (s : State) (r : RecordNo) (reason : MoveReason) : State :=
  ((((s.scrubRun (s.lease r).target).setLease r { s.lease r with state := .held, target := none }).setEngine
    (s.engine.giveUpMove (s.lease r))).forMasters (s.lease r).holders fun s' m =>
      s'.endMove m
        { handle := s.handle r, result := some .abandoned, reason := reason, length := (s.lease r).length })

/-! ### Retirement (R20, R21, R22) -/

/-- What brings a retirement about (R20, R21). -/
inductive RetireCause where
  /-- A grant pass has left the holder set empty. -/
  | emptied
  /-- The owner's RETIRE. -/
  | byOwner
  /-- The supervisor's REVOKE. -/
  | revoked
  deriving DecidableEq, Repr

/-- Stage 1 of retirement: a MOVING record's move is abandoned with reason REVOKED (R20, R125). -/
def State.retireMove (s : State) (r : RecordNo) : State :=
  if (s.lease r).state = .moving then s.abandonMove r .revoked else s

/-- Stage 2 of retirement: every wait entry naming the lease is withdrawn, in queue order (R20, R105). -/
def State.withdrawWaiters (s : State) (h : Handle) : State :=
  ((s.entriesFor h).foldl
    (fun s' e => s'.endWait e.master
      { handle := h, mode := some e.kind.mode, result := some .withdrawn }) s).setQueue
    (s.queue.filter fun e => !(e.handle == h))

/-- Stage 3 of retirement, the apertures and the notices to holders, by cause (R21). -/
def State.retireApertures (s : State) (r : RecordNo) (cause : RetireCause) : State :=
  match cause with
  | .emptied => s.releaseAllApertures (s.handle r)
  | .byOwner =>
    match (s.lease r).owner with
    | some m => s.releaseApertures m (s.handle r)
    | none => s
  | .revoked =>
    (s.loseApertures (s.handle r)).forMasters (s.lease r).holders fun s' m => s'.lostNotice m (s.handle r)

/-- Stages 4 to 6 of retirement: the run goes to SCRUB, the owner's counts fall and the record becomes FREE with
its generation kept (R20, R22). -/
def State.freeRecord (s : State) (r : RecordNo) : State :=
  ((s.scrubRun (s.lease r).run).dropOwnedBy (s.lease r).owner 1 (s.lease r).length).setLease r
    (Lease.freed (s.lease r).generation)

/-- Retirement of a lease (R20). -/
def State.retire (s : State) (r : RecordNo) (cause : RetireCause) : State :=
  ((((s.retireMove r).withdrawWaiters (s.handle r)).retireApertures r cause).freeRecord r)

/-! ### A holder leaves a lease (R17, R56, R89) -/

/-- A master leaves the holder set of a lease; the mode goes with the last holder (R11). -/
def State.removeHolder (s : State) (r : RecordNo) (m : Master) : State :=
  s.setLease r { s.lease r with
    holders := (s.lease r).holders.erase m
    mode := if (s.lease r).holders.erase m = MasterSet.empty then none else (s.lease r).mode }

/-- What becomes of a lease that a holder has left and whose grant pass has run (R17, R91). -/
inductive Fate where
  | held
  | idle
  | retired
  deriving DecidableEq, Repr

/-- The fate of a lease: an empty holder set makes a kept lease IDLE and retires any other (R17). -/
def State.fate (s : State) (r : RecordNo) : Fate :=
  if (s.lease r).state = .held ∧ (s.lease r).holders = MasterSet.empty then
    if (s.lease r).keep then .idle else .retired
  else .held

/-- The lease goes the way of its fate (R17). -/
def State.settle (s : State) (r : RecordNo) : State :=
  match s.fate r with
  | .held => s
  | .idle => s.setLease r { s.lease r with state := .idle, mode := none }
  | .retired => s.retire r .emptied

/-- A master leaves a lease: it is removed from the holder set and the grant pass runs (R56, R89). -/
def State.leave (s : State) (r : RecordNo) (m : Master) : State := (s.removeHolder r m).grantPass r

/-! ### The session ending (R53 to R57) -/

/-- Stage 1: the master's wait entry is removed without a record (R54). -/
def State.endStage1 (s : State) (m : Master) : State :=
  match s.entryOf m with
  | some e => s.removeEntry e
  | none => s

/-- Stage 2: the move of a MOVING lease the master holds is abandoned (R55). -/
def State.endStage2 (s : State) (m : Master) : State :=
  match s.movingRecord with
  | some r => if (s.lease r).holders.mem m then s.abandonMove r .sessionEnded else s
  | none => s

/-- One record of stage 3: a holder leaves it, and it goes the way of its fate (R56). -/
def State.endHold (m : Master) (s : State) (r : RecordNo) : State :=
  if (s.lease r).holders.mem m then (s.leave r m).settle r else s

/-- Stage 3: the master leaves every lease it holds, in increasing record number (R56). -/
def State.endStage3 (s : State) (m : Master) : State := allRecords.foldl (State.endHold m) s

/-- Stage 5: the session becomes CLOSED with its end reason; the term is kept (R57). -/
def State.closeSession (s : State) (m : Master) (reason : EndReason) : State :=
  s.setSession m { s.session m with state := .closed, remaining := 0, endReason := reason }

/-- The notices of an ending: SESSION_END for a lapse and for EVICT, LAPSE for a lapse (R57). -/
def State.endNotices (s : State) (m : Master) (reason : EndReason) : State :=
  match reason with
  | .lapsed => (s.raise m .sessionEnd).raiseSupervisor .lapse
  | .evicted => s.raise m .sessionEnd
  | _ => s

/-- The session ending of a master (R53). -/
def State.endSession (s : State) (m : Master) (reason : EndReason) : State :=
  (((((s.endStage1 m).endStage2 m).endStage3 m).unbindMaster m).closeSession m reason).endNotices m reason

/-! ### Takes of the request engine (R154, R155, R181) -/

/-- What the request engine takes next. -/
inductive Taken where
  | supervisor
  | mailbox (m : Master)
  deriving DecidableEq, Repr

/-- The masters counted upward from the one after the last-served master, wrapping from 11 to 0 (R155). -/
def servingOrder (last : Master) : List Master := allMasters.map fun k => last + 1 + k

/-- What the request engine takes next: a pending supervisor command, else the first PENDING mailbox in serving
order (R155). -/
def State.nextTake (s : State) : Option Taken :=
  if s.slot.state = .pending then some .supervisor
  else ((servingOrder s.lastServed).find? fun m => (s.mailbox m).state == .pending).map .mailbox

/-- The answer to a request: its code and its two answer words, 0 where the rule gives none (R158, R159). -/
structure Answer where
  code : AnswerCode
  word0 : Word := 0
  word1 : Word := 0
  deriving DecidableEq, Repr

/-- An answer word that carries one number, from bit 0 (10.2.4). -/
def numberWord (n : Nat) : Word := BitVec.ofNat 32 n

/-- An answer word that carries a handle. -/
def handleWord (h : Handle) : Word := h.setWidth 32

/-- The end of a take: the answer is written, the mailbox becomes DONE with the DONE flag set, and the master is
the last served (R154, R155). -/
def State.answer (s : State) (m : Master) (a : Answer) : State :=
  (s.setMailbox m (({ s.mailbox m with
    state := .done, answer := a.code, answer0 := a.word0, answer1 := a.word1 } : Mailbox).raise .done)).setLastServed m

/-- The take of a request (R154). A command that names a request other than the one the engine takes next is no
happening of the card as it stands, and leaves it as it is (log entry 3). -/
def takeRequest (q : Request) (carryOut : State → Master → State × Answer) (s : State) :
    Outcome State Fault Refusal :=
  match s.nextTake with
  | some (.mailbox m) =>
    if (s.mailbox m).request = q then .next ((carryOut s m).1.answer m (carryOut s m).2) else .next s
  | _ => .next s

/-- The session check and the renewal of an open session, before a request other than OPEN and CLOSE is carried
out (R50). -/
def withSession (carryOut : State → Master → State × Answer) (s : State) (m : Master) : State × Answer :=
  if s.isOpen m then carryOut (s.renew m) m else (s, { code := .noSession })

/-- A request that names a lease: the handle of its parameter is validated after the session check (R5). -/
def withLease (carryOut : State → Master → RecordNo → State × Answer) (s : State) (m : Master) : State × Answer :=
  match s.validate (s.mailbox m).parameter with
  | some r => carryOut s m r
  | none => (s, { code := .badHandle })

/-- The end of the take of a supervisor command: the answer is written, the slot becomes DONE and CMD_DONE is
set (R181). -/
def State.answerSupervisor (s : State) (code : AnswerCode) : State :=
  (s.setSlot { s.slot with state := .done, answer := code }).raiseSupervisor .cmdDone

/-- The take of a supervisor command (R181). A command that names one other than the one the engine takes next
leaves the card as it is (log entry 3). -/
def takeSupervisor (c : SupervisorCommand) (carryOut : State → State × AnswerCode) (s : State) :
    Outcome State Fault Refusal :=
  match s.nextTake with
  | some .supervisor =>
    if supervisorCommandOfCode s.slot.command = c then
      .next ((carryOut s).1.answerSupervisor (carryOut s).2)
    else .next s
  | _ => .next s

/-! ### The backplane's answer -/

/-- The card answers a transfer (R189). -/
def State.respond (s : State) (response : Response) (lanes : Word) : State :=
  s.setBusAnswer (some { response := response, lanes := lanes })

end Sys2Proof.Machine
end

