-- ==== Sys2Proof/Machine/Apertures.lean ====
section
/-! DEFINITION. Machine/Apertures.lean: BIND and UNBIND (R131, R132, R133). -/

namespace Sys2Proof.Machine

open Host (Outcome)

/-- The answer words of BIND and UNBIND: what the aperture held before (R132). -/
def boundBefore (x : Aperture) : Answer :=
  { code := .ok, word0 := handleWord x.handle, word1 := numberWord x.code }

/-- BIND of an aperture to a record's lease (R131, R132). -/
def bindBody (s : State) (m : Master) (r : RecordNo) : State × Answer :=
  let a := (s.mailbox m).apertureField
  if (s.lease r).holders.mem m = false then (s, { code := .notHolder })
  else (s.setAperture m a (.bound (s.mailbox m).parameter), boundBefore (s.aperture m a))

/-- BIND is taken (R131). -/
def execTakeBind (s : State) : Outcome State Fault Refusal :=
  takeRequest .bind (withSession (withLease bindBody)) s

/-- UNBIND of an aperture (R133). -/
def unbindBody (s : State) (m : Master) : State × Answer :=
  let a := (s.mailbox m).apertureField
  (s.setAperture m a .unbound, boundBefore (s.aperture m a))

/-- UNBIND is taken (R133). -/
def execTakeUnbind (s : State) : Outcome State Fault Refusal := takeRequest .unbind (withSession unbindBody) s

end Sys2Proof.Machine
end

