-- ==== Sys2Proof/Machine/Commands.lean ====
section
/-! DEFINITION. Machine/Commands.lean: the supervisor's REVOKE, EVICT and RESET-ALL, undefined command bytes
(R180 to R184), and system reset (R165, R187). -/

namespace Sys2Proof.Machine

open Host (Outcome)

/-- REVOKE (R182). -/
def revokeBody (s : State) : State × AnswerCode :=
  match s.validate s.slot.parameter with
  | some r => ((s.retire r .revoked).wakeEngine, .ok)
  | none => (s, .badHandle)

/-- The supervisor's REVOKE is taken (R182). -/
def execTakeRevoke (s : State) : Outcome State Fault Refusal := takeSupervisor .revoke revokeBody s

/-- EVICT (R58, R183). -/
def evictBody (s : State) : State × AnswerCode :=
  if h : s.slot.parameter.toNat < 12 then
    let m : Master := ⟨s.slot.parameter.toNat, h⟩
    if s.isOpen m then ((s.endSession m .evicted).wakeEngine, .ok) else (s, .noSession)
  else (s, .badArg)

/-- The supervisor's EVICT is taken (R183). -/
def execTakeEvict (s : State) : Outcome State Fault Refusal := takeSupervisor .evict evictBody s

/-- A session record at RESET-ALL (R62). -/
def Session.resetAll (x : Session) : Session :=
  if x.state = .opened then
    { x with state := .closed, remaining := 0, endReason := .reset, ownedLeases := 0, ownedBlocks := 0 }
  else { x with ownedLeases := 0, ownedBlocks := 0 }

/-- A mailbox at RESET-ALL, with SESSION_END when its master's session was OPEN (R166). -/
def resetAllMailbox (x : Session) (b : Mailbox) : Mailbox :=
  if x.state = .opened then (Mailbox.cleared b.enables).raise .sessionEnd else Mailbox.cleared b.enables

/-- The engine's block step at RESET-ALL: a burst in flight keeps it until it ends (R40, R42). -/
def Engine.cutStep (e : Engine) (s : State) : Option BlockStep :=
  match e.step with
  | some .scrub => e.scrubber.block.map fun b => .cutScrub b e.scrubber.burstsDone
  | some .copy =>
    e.mover.record.map fun r =>
      .cutCopy ((s.lease r).sourceBlock e.mover.blocksCopied) ((s.lease r).targetBlock e.mover.blocksCopied)
        e.mover.burstsDone
  | other => other

/-- RESET-ALL (R184). The engine starts the scrub at once when no burst is in flight (R42). -/
def resetAllBody (s : State) : State × AnswerCode :=
  (({ s with
      leases := s.leases.map fun l => Lease.freed l.generation
      queue := []
      sessions := s.sessions.map Session.resetAll
      mailboxes := Table.zipWith resetAllMailbox s.sessions s.mailboxes
      apertures := Table.replicate 12 (Table.replicate 4 .unbound)
      pool := Pool.atReset s.pool.watermark
      engine := { Engine.atReset with step := s.engine.cutStep s }
      lastServed := 11
      supervisor := { s.supervisor with flags := 0 }
      snapshot := Snapshot.atReset } : State).wakeEngine, .ok)

/-- The supervisor's RESET-ALL is taken (R184). -/
def execTakeResetAll (s : State) : Outcome State Fault Refusal := takeSupervisor .resetAll resetAllBody s

/-- A command byte that names no supervisor command (R181). -/
def undefinedSupervisorBody (s : State) : State × AnswerCode := (s, .badArg)

/-- A command byte that names no supervisor command is taken (R181). -/
def execTakeUndefinedSupervisor (s : State) : Outcome State Fault Refusal :=
  takeSupervisor .undefined undefinedSupervisorBody s

/-- The card right after a system reset: every block in its reset condition, the jumpers read, and the
scrubber's first block step started (R165, R187, R42). What SRAM then holds is free (log entry 2). -/
def State.systemReset (s : State) : State :=
  { State.resetCondition s.jumpers.j1 s.jumpers.j2 with
    engine := Engine.scrubbingFromZero
    sram := Memory.ofCells (Config.sramAfterReset (s.resets + 1))
    resets := s.resets + 1
    pending := s.pending }

/-- Power-up or the backplane reset line (R165). -/
def execSystemReset (s : State) : Outcome State Fault Refusal := .next s.systemReset

end Sys2Proof.Machine
end

