-- ==== Sys2Proof/Machine/DataWindow.lean ====
section
/-! DEFINITION. Machine/DataWindow.lean: the data access, its wait at the SRAM port, its checks, its answer, the written
flag and the fault record (R44, R128, R137 to R146, R187 to R189). -/

namespace Sys2Proof.Machine

open Host (Outcome)

/-- A data access of a master at the moment the SRAM port serves it (R137): the aperture and offset its address
selects, its width, and the data lines of a write. -/
structure DataAccess where
  aperture : ApertureNo
  offset : BitVec 20
  dir : AccessDir
  width : Width
  lanes : Word
  deriving DecidableEq, Repr

/-- The access an address makes (R128). -/
def dataAccess (address : BitVec 32) (dir : AccessDir) (width : Width) (lanes : Word) : DataAccess :=
  { aperture := apertureOf address, offset := apertureOffset address, dir := dir, width := width, lanes := lanes }

/-- What the checks of R138 find for a master with a slot. -/
inductive Checked where
  | refuse (reason : FaultReason)
  | retry
  /-- The access is performed on a record, at an SRAM address. -/
  | perform (r : RecordNo) (address : Nat)
  deriving DecidableEq, Repr

/-- Check 4 of a bound aperture: the access is aligned and its offset is valid for the lease; the SRAM address
it then reaches (R10, R140). -/
def Lease.reach (l : Lease) (x : DataAccess) : Option Nat :=
  match l.direction, l.run with
  | some dir, some run =>
    if widthAligned x.width x.offset.toNat && validOffset dir run.len x.offset.toNat then
      some (addressReached dir run x.offset.toNat)
    else none
  | _, _ => none

/-- Checks 4 to 6 on the record a bound handle names (R140, R141, R142). -/
def State.checkLease (s : State) (r : RecordNo) (x : DataAccess) : Checked :=
  match (s.lease r).reach x with
  | none => .refuse .range
  | some address =>
    if x.dir = .write ∧ (s.lease r).mode ≠ some .exclusive then .refuse .rights
    else if x.dir = .write ∧ (s.lease r).state = .moving then .retry
    else .perform r address

/-- Checks 2 to 6 of a data access by master m, the first that fails deciding (R138). A bound handle always names
its record (R129); one that did not would reach no lease and be out of range. -/
def State.checkAccess (s : State) (m : Master) (x : DataAccess) : Checked :=
  match s.aperture m x.aperture with
  | .unbound => .refuse .unbound
  | .lost _ _ => .refuse .lost
  | .bound h =>
    match s.validate h with
    | some r => s.checkLease r x
    | none => .refuse .range

/-- The fault record of an access refused for a reason (R145). -/
def DataAccess.fault (x : DataAccess) (reason : FaultReason) : FaultRecord :=
  { aperture := x.aperture, offset := x.offset, dir := x.dir, width := x.width, reason := some reason }

/-- A refusal recorded: with FAULT clear the record is written and FAULT is set, with FAULT set only FAULT_MORE is
set (R145). -/
def Mailbox.recordFault (b : Mailbox) (record : FaultRecord) : Mailbox :=
  if b.flag .fault then b.raise .faultMore
  else ({ b with faultRecord := record } : Mailbox).raise .fault

/-- The bytes of a write stored in SRAM, each from its lane (R143, R188). -/
def storeLanes (mem : Memory) (lanes : Word) (address lane : Nat) : Nat → Memory
  | 0 => mem
  | n + 1 => (storeLanes mem lanes address lane n).write (address + n) (laneByte lanes (lane + n))

/-- The lane of the byte at an offset (R188). -/
def laneOf (offset : BitVec 20) : Nat := offset.toNat % 4

/-- The data lines of an accepted read (R143, R188). -/
def State.readData (s : State) (x : DataAccess) (address : Nat) : Word :=
  readLanes s.sram.read address (laneOf x.offset) (widthBytes x.width)

/-- An accepted write: its bytes are stored and the lease's written flag is set (R143, R144). -/
def State.writeData (s : State) (r : RecordNo) (x : DataAccess) (address : Nat) : State :=
  (s.setSram (storeLanes s.sram x.lanes address (laneOf x.offset) (widthBytes x.width))).setLease r
    { s.lease r with written := true }

/-- A data access of a master with a slot is taken, checked, performed and answered (R138, R143, R145, R189). -/
def State.takeAccess (s : State) (m : Master) (x : DataAccess) : State :=
  match s.checkAccess m x with
  | .refuse reason => (s.setMailbox m ((s.mailbox m).recordFault (x.fault reason))).respond .error 0
  | .retry => s.respond .retry 0
  | .perform r address =>
    match x.dir with
    | .read => s.respond .ack (s.readData x address)
    | .write => (s.writeData r x address).respond .ack 0

/-- A transfer that the card decodes into its data window (R187, R128). -/
def State.decodesData (s : State) (address : BitVec 32) : Bool :=
  addressBase address == s.jumpers.base && !inControlSpace address

/-- The SRAM port serves a data access: the window unit takes it at this moment, whole (R137). Master numbers 12 to
15 fail check 1, with no fault record (R138, R139). -/
def State.serve (s : State) (x : Transfer) : State :=
  match masterOfNumber x.master with
  | some m => s.takeAccess m (dataAccess x.address x.dir x.width x.lanes)
  | none => s.respond .error 0

/-- A data access reaches the SRAM port (R44). The port is free while the memory engine has no block step, since a
current block step has a burst in flight (log entry 8): the access is then served at once, and otherwise waits for
the end of that burst. While one waits the backplane carries no other, so none can arrive (log entry 3). -/
def State.reachPort (s : State) (x : Transfer) : State :=
  if s.engine.step = none then s.serve x
  else if s.portWait = none then s.setPortWait (some x)
  else s

/-- The SRAM port at the end of a burst: an access that waits is served before the next burst starts (R44). -/
def State.servePort (s : State) : State :=
  match s.portWait with
  | some x => (s.setPortWait none).serve x
  | none => s

/-- A data access on the backplane; a transfer outside the card's data window is none of the card's (R187). -/
def State.takeTransfer (s : State) (x : Transfer) : State :=
  if s.decodesData x.address then s.reachPort x else s

/-- A data window read (R44, R138). -/
def execDataRead (master : BitVec 4) (address : BitVec 32) (width : Width) (s : State) :
    Outcome State Fault Refusal :=
  .next (s.takeTransfer { master := master, address := address, dir := .read, width := width, lanes := 0 })

/-- A data window write (R44, R138). -/
def execDataWrite (master : BitVec 4) (address : BitVec 32) (width : Width) (lanes : Word) (s : State) :
    Outcome State Fault Refusal :=
  .next (s.takeTransfer { master := master, address := address, dir := .write, width := width, lanes := lanes })

end Sys2Proof.Machine
end

