-- ==== Sys2Proof/Machine/Engine.lean ====
section
/-! DEFINITION. Machine/Engine.lean: the ends of the memory engine's bursts (R35, R36, R39, R40, R42, R43, R114 to
R116, R120). A burst moves its 64 bytes in the happening that ends it (log entry 5), and its end serves the data access
that waits at the SRAM port (R44). -/

namespace Sys2Proof.Machine

open Host (Outcome)

/-- A zero-fill burst's 64 bytes become 0 (R35). -/
def State.zeroBurst (s : State) (block burst : Nat) : State :=
  s.setSram (s.sram.zero (block * Config.blockBytes + burst * Config.burstBytes) Config.burstBytes)

/-- A copy burst's 64 bytes are copied from its source block to the same bytes of its target block (R116). -/
def State.copyBurst (s : State) (source target burst : Nat) : State :=
  s.setSram (s.sram.copy (source * Config.blockBytes + burst * Config.burstBytes)
    (target * Config.blockBytes + burst * Config.burstBytes) Config.burstBytes)

/-- The last burst of a block step (R36, R116). -/
def lastBurst (burstsDone : Nat) : Bool := burstsDone + 1 == Config.burstsPerBlock

/-- The burst in flight of a step that was cut short ends; that ends the step, changes nothing of the scrubber or
the mover, and the engine chooses its next step (R40, R42, R43, R116). -/
def State.endCutStep (s : State) : State := s.chooseStep

/-- Bursts done of the scrubber rises by one (R36). -/
def Engine.countScrubBurst (e : Engine) : Engine :=
  { e with scrubber := { e.scrubber with burstsDone := e.scrubber.burstsDone + 1 } }

/-- A zero-fill burst other than the last of its block ends (R36). -/
def execScrubBurstEnd (s : State) : Outcome State Fault Refusal :=
  match s.engine.step, s.engine.scrubber.block with
  | some .scrub, some b =>
    if lastBurst s.engine.scrubber.burstsDone then .next s
    else .next ((s.zeroBurst b.1 s.engine.scrubber.burstsDone).setEngine s.engine.countScrubBurst).servePort
  | some (.cutScrub b burst), _ =>
    if lastBurst burst then .next s else .next (s.zeroBurst b.1 burst).endCutStep.servePort
  | _, _ => .next s

/-- The block of the scrubber becomes FREE: the SCRUB count drops by one and the FREE count rises by one (R36). -/
def Pool.freeBlock (p : Pool) (b : Block) : Pool :=
  { p with map := p.map.set b .free, freeCount := p.freeCount + 1, scrubCount := p.scrubCount - 1 }

/-- The first time since a reset that the SCRUB count is 0, the pool-ready state and POOL_READY are set (R39). -/
def State.checkReady (s : State) : State :=
  if s.pool.scrubCount = 0 ∧ s.pool.ready = false then
    (s.setPool { s.pool with ready := true }).raiseSupervisor .poolReady
  else s

/-- The scrubber's current block becomes absent (R36). -/
def Engine.endScrub (e : Engine) : Engine := { e with scrubber := { block := none, burstsDone := 0 } }

/-- The scrubber's block step ends (R36, R39, R42). -/
def State.endScrubStep (s : State) (b : Block) : State :=
  (((s.setPool (s.pool.freeBlock b)).setEngine s.engine.endScrub).checkReady).chooseStep

/-- The 64th zero-fill burst of a block ends (R36). -/
def execScrubBlockStepEnd (s : State) : Outcome State Fault Refusal :=
  match s.engine.step, s.engine.scrubber.block with
  | some .scrub, some b =>
    if lastBurst s.engine.scrubber.burstsDone then
      .next ((s.zeroBurst b.1 s.engine.scrubber.burstsDone).endScrubStep b).servePort
    else .next s
  | some (.cutScrub b burst), _ =>
    if lastBurst burst then .next (s.zeroBurst b.1 burst).endCutStep.servePort else .next s
  | _, _ => .next s

/-- The copy burst in flight of the mover's move (R115, R116). -/
def State.moverBurst (s : State) (r : RecordNo) : State :=
  s.copyBurst ((s.lease r).sourceBlock s.engine.mover.blocksCopied)
    ((s.lease r).targetBlock s.engine.mover.blocksCopied) s.engine.mover.burstsDone

/-- The block step in flight is the last of the move (R116). -/
def State.lastCopyStep (s : State) (r : RecordNo) : Bool :=
  decide ((s.lease r).length ≤ s.engine.mover.blocksCopied + 1)

/-- Bursts done of the mover rises by one (R116). -/
def Engine.countCopyBurst (e : Engine) : Engine :=
  { e with mover := { e.mover with burstsDone := e.mover.burstsDone + 1 } }

/-- A copy burst other than the 64th of its block step ends, or the burst of an abandoned move (R116). -/
def execCopyBurstEnd (s : State) : Outcome State Fault Refusal :=
  match s.engine.step, s.engine.mover.record with
  | some .copy, some r =>
    if lastBurst s.engine.mover.burstsDone then .next s
    else .next ((s.moverBurst r).setEngine s.engine.countCopyBurst).servePort
  | some (.cutCopy source target burst), _ => .next (s.copyBurst source target burst).endCutStep.servePort
  | _, _ => .next s

/-- Blocks copied rises by one and bursts done returns to 0 (R116). -/
def Engine.countCopyBlock (e : Engine) : Engine :=
  { e with mover := { e.mover with blocksCopied := e.mover.blocksCopied + 1, burstsDone := 0 } }

/-- The 64th burst of a copy block step other than the last ends (R116). -/
def execCopyBlockStepEnd (s : State) : Outcome State Fault Refusal :=
  match s.engine.step, s.engine.mover.record with
  | some .copy, some r =>
    if lastBurst s.engine.mover.burstsDone && !s.lastCopyStep r then
      .next (((s.moverBurst r).setEngine s.engine.countCopyBlock).chooseStep).servePort
    else .next s
  | _, _ => .next s

/-- The mover gives up a move that has completed (R114, R120). -/
def Engine.endMove (e : Engine) : Engine :=
  { e with mover := { record := none, blocksCopied := 0, burstsDone := 0 } }

/-- The target run becomes the run and the old run goes to SCRUB (R34, R120). -/
def State.swapRuns (s : State) (r : RecordNo) : State :=
  match (s.lease r).target with
  | some target =>
    (((s.setPool (s.pool.remark target (.run r))).scrubRun (s.lease r).run).setLease r
      { s.lease r with state := .held, run := some target, target := none })
  | none => s

/-- Completion of the move of a record (R120). -/
def State.completeMove (s : State) (r : RecordNo) : State :=
  ((((s.swapRuns r).addOwnedBy (s.lease r).owner 0 ((s.lease r).targetLength - (s.lease r).length)).setEngine
    s.engine.endMove).forMasters (s.lease r).holders fun s' m =>
      s'.endMove m
        { handle := s.handle r, result := some .done, reason := .none, length := (s.lease r).targetLength })

/-- The 64th burst of the last copy block step ends, which completes the move (R116, R120). -/
def execMoveCompletion (s : State) : Outcome State Fault Refusal :=
  match s.engine.step, s.engine.mover.record with
  | some .copy, some r =>
    if lastBurst s.engine.mover.burstsDone && s.lastCopyStep r then
      .next (((s.moverBurst r).completeMove r).chooseStep).servePort
    else .next s
  | _, _ => .next s

end Sys2Proof.Machine
end

