-- ==== Sys2Proof/Machine/Holding.lean ====
section
/-! DEFINITION. Machine/Holding.lean: ACQUIRE, RELEASE, CONVERT and CANCEL (chapter 5 of spec/). -/

namespace Sys2Proof.Machine

open Host (Outcome)

/-- An ACQUIRE of a mode is grantable now: the lease has no wait entries, and it is IDLE, or HELD in SHARED
mode with SHARED asked (R86). -/
def State.grantableNow (s : State) (r : RecordNo) (mode : Mode) : Bool :=
  (s.entriesFor (s.handle r)).isEmpty &&
    ((s.lease r).state == .idle ||
      ((s.lease r).state == .held && (s.lease r).mode == some .shared && mode == .shared))

/-- A lease granted to a master at once: from IDLE the mode becomes the one asked for, and a SHARED lease stays
SHARED (R86). -/
def Lease.grantedNow (l : Lease) (m : Master) (mode : Mode) : Lease :=
  { l with state := .held, holders := l.holders.insert m, mode := if l.state = .idle then some mode else l.mode }

/-- The queue with a new ACQ_SHARED or ACQ_EXCL entry behind every other (R84, R87). -/
def State.queueAcquire (s : State) (m : Master) (h : Handle) (mode : Mode) (limit : Nat) : State :=
  s.setQueue (s.queue ++ [{ master := m, handle := h, kind := kindOfAcquire mode, remaining := limit }])

/-- ACQUIRE of a record (R85, R86, R87). -/
def acquireBody (s : State) (m : Master) (r : RecordNo) : State × Answer :=
  let l := s.lease r
  let b := s.mailbox m
  if l.owner ≠ some m ∧ l.isPublic = false then (s, { code := .notPermitted })
  else if l.holders.mem m then (s, { code := .conflict })
  else
    match b.modeField with
    | none => (s, { code := .badArg })
    | some mode =>
      if s.grantableNow r mode then (s.setLease r (l.grantedNow m mode), { code := .ok })
      else if b.limitField = 0 then (s, { code := .wouldWait })
      else
        match s.entryOf m with
        | some e => (s, { code := .alreadyWaiting, word0 := handleWord e.handle })
        | none =>
          (s.queueAcquire m (s.handle r) mode b.limitField,
            { code := .queued, word0 := numberWord (s.waiterCount r) })

/-- ACQUIRE is taken (R85). -/
def execTakeAcquire (s : State) : Outcome State Fault Refusal :=
  takeRequest .acquire (withSession (withLease acquireBody)) s

/-- Stage 1 of RELEASE: the move of a MOVING lease is abandoned with reason RELEASED (R89, R123). -/
def State.releaseMove (s : State) (r : RecordNo) : State :=
  if (s.lease r).state = .moving then s.abandonMove r .released else s

/-- Stage 2 of RELEASE: the requester's UPGRADE entry on the lease is removed with a CANCELLED record; the
grant pass it calls for is the one of stage 5 (R89, R90). -/
def State.cancelUpgrade (s : State) (m : Master) (h : Handle) : State :=
  match s.entryOf m with
  | some e =>
    if e.handle = h ∧ e.kind = .upgrade then
      (s.setQueue (dropFromQueue s.queue m h)).endWait m
        { handle := h, mode := some .exclusive, result := some .cancelled }
    else s
  | none => s

/-- Stages 1 to 4 of RELEASE (R89): what the grant pass of stage 5 finds. -/
def State.releaseUpToPass (s : State) (m : Master) (r : RecordNo) : State :=
  (((s.releaseMove r).cancelUpgrade m (s.handle r)).releaseApertures m (s.handle r)).removeHolder r m

/-- The code of a fate in ANSWER1 of RELEASE (R91). -/
def Fate.code : Fate → Nat
  | .held => 0
  | .idle => 1
  | .retired => 2

/-- RELEASE of a record (R89, R91). -/
def releaseBody (s : State) (m : Master) (r : RecordNo) : State × Answer :=
  if (s.lease r).holders.mem m = false then (s, { code := .notHolder })
  else
    let left := s.releaseUpToPass m r
    let passed := left.grantPass r
    ((passed.settle r).wakeEngine,
      { code := .ok
        word0 := numberWord (left.grantable r).length
        word1 := numberWord (passed.fate r).code })

/-- RELEASE is taken (R89). -/
def execTakeRelease (s : State) : Outcome State Fault Refusal :=
  takeRequest .release (withSession (withLease releaseBody)) s

/-- The UPGRADE entry of a lease, when it has one (R84, R95). -/
def State.upgradeEntry (s : State) (h : Handle) : Option WaitEntry :=
  (s.entriesFor h).find? fun e => e.kind == .upgrade

/-- A CONVERT to EXCLUSIVE by a SHARED holder with other holders present (R95). -/
def queuedUpgrade (s : State) (m : Master) (r : RecordNo) (limit : Nat) : State × Answer :=
  match s.upgradeEntry (s.handle r) with
  | some e => (s, { code := .conflict, word0 := numberWord e.master.1 })
  | none =>
    if limit = 0 then (s, { code := .wouldWait })
    else
      match s.entryOf m with
      | some e => (s, { code := .alreadyWaiting, word0 := handleWord e.handle })
      | none =>
        (s.setQueue
            (insertUpgrade { master := m, handle := s.handle r, kind := .upgrade, remaining := limit } s.queue),
          { code := .queued })

/-- CONVERT of a record (R92 to R95). -/
def convertBody (s : State) (m : Master) (r : RecordNo) : State × Answer :=
  let l := s.lease r
  let b := s.mailbox m
  if l.holders.mem m = false then (s, { code := .notHolder })
  else
    match b.modeField with
    | none => (s, { code := .badArg })
    | some mode =>
      if l.state = .moving then (s, { code := .busy })
      else if l.mode = some mode then (s, { code := .ok })
      else
        match mode with
        | .shared => ((s.setLease r { l with mode := some .shared }).grantPass r, { code := .ok })
        | .exclusive =>
          if l.holders = MasterSet.single m then (s.setLease r { l with mode := some .exclusive }, { code := .ok })
          else queuedUpgrade s m r b.limitField

/-- CONVERT is taken (R92). -/
def execTakeConvert (s : State) : Outcome State Fault Refusal :=
  takeRequest .convert (withSession (withLease convertBody)) s

/-- CANCEL (R96). -/
def cancelBody (s : State) (m : Master) : State × Answer :=
  match s.entryOf m with
  | none => (s, { code := .notWaiting })
  | some e => (s.removeEntry e, { code := .ok, word0 := handleWord e.handle })

/-- CANCEL is taken (R96). -/
def execTakeCancel (s : State) : Outcome State Fault Refusal := takeRequest .cancel (withSession cancelBody) s

end Sys2Proof.Machine
end

