-- ==== Sys2Proof/Machine/Leases.lean ====
section
/-! DEFINITION. Machine/Leases.lean: CREATE, FIND, QUERY, MARK and RETIRE (chapter 4 of spec/). -/

namespace Sys2Proof.Machine

open Host (Outcome)

/-- A length a lease can have (R64, R106). -/
def legalLength (len : Nat) : Bool := decide (1 ≤ len) && decide (len ≤ Config.maxRun)

/-- The record of a nonzero tag, which CREATE conflicts with; a tag of 0 never conflicts (R66). -/
def State.tagConflict (s : State) (tag : BitVec 16) : Option RecordNo :=
  if tag = 0 then none else s.recordWithTag tag

/-- The lease quota refuses one more lease (R60, R68). -/
def State.leaseQuotaRefuses (s : State) (m : Master) : Bool :=
  decide ((s.policy m).leaseQuota < (s.session m).ownedLeases + 1)

/-- The record of a lease as CREATE makes it for a master from its parameters (R2, R69). -/
def Lease.created (l : Lease) (m : Master) (b : Mailbox) (run : Run) : Lease :=
  { state := .held
    generation := nextGeneration l.generation
    tag := b.parameter
    owner := some m
    keep := b.keepField
    isPublic := b.publicField
    direction := some b.directionField
    mode := some .exclusive
    holders := MasterSet.single m
    run := some run
    target := none
    written := false }

/-- CREATE makes the lease on a FREE record over a run of FREE blocks (R69). -/
def State.createLease (s : State) (m : Master) (r : RecordNo) (run : Run) : State :=
  ((s.allocate run (.run r)).setLease r ((s.lease r).created m (s.mailbox m) run)).addOwned m 1 run.len

/-- CREATE, its checks in their order (R64 to R69). -/
def createBody (s : State) (m : Master) : State × Answer :=
  let b := s.mailbox m
  match s.firstFree with
  | none => (s.raiseSupervisor .tableFull, { code := .noRecord })
  | some r =>
    match s.tagConflict b.parameter with
    | some other => (s, { code := .conflict, word0 := handleWord (s.handle other) })
    | none =>
      if legalLength b.lengthField = false then (s, { code := .badArg })
      else if s.leaseQuotaRefuses m then (s, { code := .quota, word1 := numberWord 1 })
      else if s.blockQuotaRefuses m b.lengthField then (s, { code := .quota, word1 := numberWord 2 })
      else
        match s.pool.findRun b.directionField b.lengthField with
        | none => (s, { code := .noSpace, word1 := numberWord s.pool.scrubCount })
        | some run =>
          (s.createLease m r run,
            { code := .ok, word0 := handleWord (handleOf (nextGeneration (s.lease r).generation) r) })

/-- CREATE is taken (R64). -/
def execTakeCreate (s : State) : Outcome State Fault Refusal := takeRequest .create (withSession createBody) s

/-- A record matches a pattern under a mask (R71). -/
def Lease.matchesTag (l : Lease) (pattern mask : BitVec 16) : Bool :=
  l.state != .free && (l.tag &&& mask) == (pattern &&& mask)

/-- The first matching record at or after a start record (R71, R72). -/
def State.findRecord (s : State) (pattern mask : BitVec 16) (start : Nat) : Option RecordNo :=
  allRecords.find? fun r => decide (start ≤ r.1) && (s.lease r).matchesTag pattern mask

/-- ANSWER1 of FIND: tag, owner and state (10.2.4). -/
def Lease.findWord (l : Lease) : Word := packWord [(l.tag.toNat, 0), (masterCode l.owner, 16), (l.state.code, 24)]

/-- FIND (R71, R72). -/
def findBody (s : State) (m : Master) : State × Answer :=
  let b := s.mailbox m
  if 39 < b.startField then (s, { code := .badArg })
  else
    match s.findRecord b.parameter b.maskField b.startField with
    | some r => (s, { code := .ok, word0 := handleWord (s.handle r), word1 := (s.lease r).findWord })
    | none => (s, { code := .notFound })

/-- FIND is taken (R71). -/
def execTakeFind (s : State) : Outcome State Fault Refusal := takeRequest .find (withSession findBody) s

/-- ANSWER0 of QUERY (R75, 10.2.4). -/
def Lease.queryWord0 (l : Lease) : Word :=
  packWord [(l.holders.toNat, 0), (l.state.code, 12), (modeCode l.mode, 14), (masterCode l.owner, 16),
    (l.length, 20), (directionCode l.direction, 29), (boolCode l.keep, 30), (boolCode l.isPublic, 31)]

/-- ANSWER1 of QUERY (R75, 10.2.4). -/
def Lease.queryWord1 (l : Lease) (waiters : Nat) : Word :=
  packWord [(l.tag.toNat, 0), (boolCode l.written, 16), (waiters, 20)]

/-- QUERY of a record (R74, R75). -/
def queryBody (s : State) (_m : Master) (r : RecordNo) : State × Answer :=
  (s, { code := .ok, word0 := (s.lease r).queryWord0, word1 := (s.lease r).queryWord1 (s.waiterCount r) })

/-- QUERY is taken (R74). -/
def execTakeQuery (s : State) : Outcome State Fault Refusal :=
  takeRequest .query (withSession (withLease queryBody)) s

/-- MARK of a record (R77, R78). -/
def markBody (s : State) (m : Master) (r : RecordNo) : State × Answer :=
  let l := s.lease r
  if l.heldExclusiveBy m = false then (s, { code := .notHolder })
  else if l.state = .moving then (s, { code := .busy })
  else (s.setLease r { l with written := false }, { code := .ok, word0 := numberWord (boolCode l.written) })

/-- MARK is taken (R77). -/
def execTakeMark (s : State) : Outcome State Fault Refusal :=
  takeRequest .mark (withSession (withLease markBody)) s

/-- RETIRE of a record (R79, R80). -/
def retireBody (s : State) (m : Master) (r : RecordNo) : State × Answer :=
  let l := s.lease r
  if l.owner ≠ some m then (s, { code := .notOwner })
  else if l.state = .moving then (s, { code := .busy })
  else if l.state = .idle ∨ l.holders = MasterSet.single m then
    ((s.retire r .byOwner).wakeEngine, { code := .ok })
  else (s, { code := .conflict })

/-- RETIRE is taken (R79). -/
def execTakeRetire (s : State) : Outcome State Fault Refusal :=
  takeRequest .retire (withSession (withLease retireBody)) s

end Sys2Proof.Machine
end

