-- ==== Sys2Proof/Machine/Views.lean ====
section
/-! DEFINITION. Machine/Views.lean: what the card shows: the words of the mailbox and information pages (R130, R150,
R153, R164, 10.2, 10.3), the bytes of the link's register bank (10.4), and the snapshots (R177 to R179, 10.4.1). -/

namespace Sys2Proof.Machine

/-! ### Words of the control space -/

/-- STATUS (R153, 10.2.1). -/
def statusWord (b : Mailbox) (x : Session) : Word :=
  packWord [(b.state.code, 0), (b.answer.code, 8), (x.state.code, 15), (x.remaining, 16)]

/-- The wait record as a word (10.2.5). -/
def WaitRecord.toWord (x : WaitRecord) : Word :=
  packWord [(x.handle.toNat, 0), (modeCode x.mode, 16), (waitResultCode x.result, 24)]

/-- The move record as a word (10.2.5). -/
def MoveRecord.toWord (x : MoveRecord) : Word :=
  packWord [(x.handle.toNat, 0), (x.length, 16), (moveResultCode x.result, 26), (x.reason.code, 28)]

/-- The LOST record as a word (10.2.5). -/
def LostRecord.toWord (x : LostRecord) : Word := packWord [(x.handle.toNat, 0), (x.count, 16)]

/-- The fault record as a word (10.2.5). -/
def FaultRecord.toWord (x : FaultRecord) : Word :=
  packWord [(x.offset.toNat, 0), (x.aperture.1, 20), (accessDirCode x.dir, 22), (widthCode x.width, 24),
    (faultReasonCode x.reason, 28)]

/-- The code of a lost reason (10.2.5). -/
def Aperture.lostCode : Aperture → Nat
  | .lost _ .revoked => 1
  | _ => 0

/-- An aperture view word (R130, 10.2.5). -/
def Aperture.toWord (x : Aperture) : Word := packWord [(x.handle.toNat, 0), (x.code, 16), (x.lostCode, 18)]

/-- The number of FREE records (R65, R164). -/
def State.freeRecords (s : State) : Nat := (allRecords.filter fun r => (s.lease r).state == .free).length

/-- The information page's word of the FREE and SCRUB counts (10.3). -/
def State.infoCounts (s : State) : Word := packWord [(s.pool.freeCount, 0), (s.pool.scrubCount, 16)]

/-- The information page's word of FREE records, pool-ready and tick period code (10.3). -/
def State.infoRecords (s : State) : Word :=
  packWord [(s.freeRecords, 0), (boolCode s.pool.ready, 8), (s.ticks.code.1, 16)]

/-- The word a master reads at an aligned control offset (R148, R149, R150, R164). A read changes nothing on the
card. -/
def State.controlRead (s : State) (m : Master) (offset : BitVec 22) : Word :=
  match controlWord offset with
  | .param .param1 => (s.mailbox m).param1
  | .param .param2 => (s.mailbox m).param2
  | .req => (s.mailbox m).req
  | .status => statusWord (s.mailbox m) (s.session m)
  | .answer0 => (s.mailbox m).answer0
  | .answer1 => (s.mailbox m).answer1
  | .events => (s.mailbox m).events.setWidth 32
  | .eventEnable => (s.mailbox m).enables.setWidth 32
  | .waitRecord => (s.mailbox m).waitRecord.toWord
  | .moveRecord => (s.mailbox m).moveRecord.toWord
  | .lostRecord => (s.mailbox m).lostRecord.toWord
  | .faultRecord => (s.mailbox m).faultRecord.toWord
  | .apertureView a => (s.aperture m a).toWord
  | .infoCounts => s.infoCounts
  | .infoRecords => s.infoRecords
  | .infoMaster => numberWord m.1
  | .infoRevision => Config.cardRevisionWord
  | .undefined => 0

/-- What the card answers to a transfer that it decodes into an aligned word read of the control space by a master
with a slot (R149, R189); none for any other transfer. -/
def State.controlReadAnswer (s : State) (t : Transfer) : Option BusAnswer :=
  if addressBase t.address = s.jumpers.base ∧ inControlSpace t.address = true ∧ t.dir = .read ∧
      controlRefused t.master (spaceOffset t.address) t.width = false then
    (masterOfNumber t.master).map fun m =>
      { response := .ack, lanes := s.controlRead m (spaceOffset t.address) }
  else none

/-! ### Snapshots -/

/-- A buffer whose first bytes are given and whose other positions read 0 (R177). -/
def bufferOf (bytes : List Byte) : Table Byte 62 :=
  ⟨(bytes ++ List.replicate 62 0).take 62, by simp⟩

/-- The flag byte of a lease snapshot (10.4.1). -/
def Lease.flagByte (l : Lease) : Byte :=
  BitVec.ofNat 8 (boolCode l.keep + 2 * boolCode l.isPublic + 4 * boolCode l.written + 8 * directionCode l.direction)

/-- The base of a run that may be absent; 0 when it is. -/
def runBase (run : Option Run) : Nat :=
  match run with
  | some run => run.base
  | none => 0

/-- The bytes of a lease snapshot from position 0x42 on; a FREE record shows its state, its generation and zeros
(R178, 10.4.1). -/
def leaseSnapshot (l : Lease) (waiters : Nat) : List Byte :=
  if l.state = .free then
    [0, 0, lowByte l.generation.1, highByte l.generation.1]
  else
    [BitVec.ofNat 8 l.state.code, l.flagByte,
      lowByte l.generation.1, highByte l.generation.1,
      lowByte l.tag.toNat, highByte l.tag.toNat,
      BitVec.ofNat 8 (masterCode l.owner), BitVec.ofNat 8 (modeCode l.mode),
      lowByte l.holders.toNat, highByte l.holders.toNat,
      lowByte (runBase l.run), highByte (runBase l.run),
      lowByte l.length, highByte l.length,
      lowByte (runBase l.target), highByte (runBase l.target),
      lowByte l.targetLength, highByte l.targetLength,
      BitVec.ofNat 8 waiters]

/-- The bytes of a wait entry in a session snapshot, from position 0x4C on; 0 when there is none (R179). -/
def entrySnapshot (e : Option WaitEntry) : List Byte :=
  match e with
  | some e =>
    [lowByte e.handle.toNat, highByte e.handle.toNat, BitVec.ofNat 8 e.kind.code, 0,
      lowByte e.remaining, highByte e.remaining]
  | none => [0, 0, 0, 0, 0, 0]

/-- The bytes of a session snapshot from position 0x42 on (R179, 10.4.1). -/
def sessionSnapshot (x : Session) (e : Option WaitEntry) : List Byte :=
  [BitVec.ofNat 8 x.state.code, BitVec.ofNat 8 x.endReason.code,
    lowByte (x.term.getD 0), highByte (x.term.getD 0),
    lowByte x.remaining, highByte x.remaining,
    BitVec.ofNat 8 x.ownedLeases, BitVec.ofNat 8 (boolCode e.isSome),
    lowByte x.ownedBlocks, highByte x.ownedBlocks] ++ entrySnapshot e

/-- What a value of the snapshot select register selects (R177). -/
inductive Selection where
  | lease (r : RecordNo)
  | session (m : Master)
  | none
  deriving DecidableEq, Repr

/-- The selection of a value (R177). -/
def selectionOf (value : Byte) : Selection :=
  if hl : value.toNat < 40 then .lease ⟨value.toNat, hl⟩
  else if hs : 64 ≤ value.toNat ∧ value.toNat < 76 then .session ⟨value.toNat - 64, by omega⟩
  else .none

/-- The buffer that a selection takes of the card as it stands (R177, R178, R179). -/
def State.snapshotOf (s : State) (x : Selection) : Table Byte 62 :=
  match x with
  | .lease r => bufferOf (leaseSnapshot (s.lease r) (s.waiterCount r))
  | .session m => bufferOf (sessionSnapshot (s.session m) (s.entryOf m))
  | .none => bufferOf []

/-- Positions of the low bytes of the 16-bit fields of the buffer, by the layout selected (10.4.1). -/
def Selection.wideLows : Selection → List Nat
  | .lease _ => [0x44, 0x46, 0x4A, 0x4C, 0x4E, 0x50, 0x52]
  | .session _ => [0x44, 0x46, 0x4A, 0x4C, 0x50]
  | .none => []

/-! ### Bytes of the link's register bank -/

/-- The value of a 16-bit field the supervisor may write. -/
def State.wideValue (s : State) (f : WideField) : Nat :=
  match f with
  | .watermark => s.pool.watermark
  | .commandParameter => s.slot.parameter.toNat
  | .blockQuota m => (s.policy m).blockQuota

/-- The byte at a position of the register bank (10.4). -/
def State.bankByte (s : State) (position : BitVec 7) : Byte :=
  match bankField position with
  | .supervisorFlags => s.supervisor.flags.setWidth 8
  | .supervisorEnables => s.supervisor.enables.setWidth 8
  | .wideLow f => lowByte (s.wideValue f)
  | .wideHigh f => highByte (s.wideValue f)
  | .tickPeriodCode => BitVec.ofNat 8 s.ticks.code.1
  | .command => s.slot.command
  | .slotState => BitVec.ofNat 8 s.slot.state.code
  | .slotAnswer => BitVec.ofNat 8 s.slot.answer.code
  | .leaseQuota m => BitVec.ofNat 8 (s.policy m).leaseQuota
  | .openPermission m => BitVec.ofNat 8 (boolCode (s.policy m).openAllowed)
  | .snapshotSelect => s.snapshot.select
  | .snapshotBuffer i => s.snapshot.buffer.get i
  | .none => 0

/-- A position that holds the low byte of a 16-bit field (R173, 10.4, 10.4.1). -/
def State.isWideLow (s : State) (position : BitVec 7) : Bool :=
  match bankField position with
  | .wideLow _ => true
  | .snapshotBuffer _ => (selectionOf s.snapshot.select).wideLows.contains position.toNat
  | _ => false

end Sys2Proof.Machine
end

