-- ==== Sys2Proof/WellFormed.lean ====
section
/-! DEFINITION. WellFormed.lean: the commands whose operands the row they stand for can have. Most bounds are
in the operands' types (a master number is 0 to 11, a link address has 7 bits); what is left is here. -/

namespace Sys2Proof

/-- A write that the card can ignore: on the control space, an aligned offset of a word that software may not
write (R149); on the link, any byte (R169, by the position the pointer names). -/
def IgnoredWrite.wellFormed : IgnoredWrite → Bool
  | .control _ offset _ => offset.toNat % 4 == 0 && !(controlWord offset).writable
  | .link _ => true

/-- A command whose operands fit its row. A data access addresses the lower half of a card's window (R128),
and a refused control-space access the upper half, with one of the grounds of R148 and R149. -/
def Instr.wellFormed : Instr → Bool
  | .registerWriteIgnored w => w.wellFormed
  | .controlAccessError master address _ width =>
    inControlSpace address && controlRefused master (spaceOffset address) width
  | .dataRead _ address _ => !inControlSpace address
  | .dataWrite _ address _ _ => !inControlSpace address
  | .takeOpen | .takeRenew | .takeClose | .takeCreate | .takeFind | .takeQuery | .takeMark | .takeRetire
  | .takeAcquire | .takeRelease | .takeConvert | .takeCancel | .takeResize | .takeBind | .takeUnbind
  | .takeUndefined | .reqWrite _ _ | .paramWrite _ _ _ | .eventsWrite _ _ | .eventEnableWrite _ _
  | .tick | .sessionCountdown | .sessionLapse | .waitQueueCountdown | .waitTimeout
  | .scrubBurstEnd | .scrubBlockStepEnd | .copyBurstEnd | .copyBlockStepEnd | .moveCompletion
  | .takeRevoke | .takeEvict | .takeResetAll | .takeUndefinedSupervisor | .systemReset
  | .linkStart | .linkAddress _ _ | .linkStop | .pointerByte _ | .linkReadByte _ | .stagedByte _
  | .supervisorFlagsWrite _ | .supervisorEnablesWrite _ | .watermarkCommit _ | .tickPeriodCodeWrite _
  | .blockQuotaCommit _ | .leaseQuotaWrite _ | .openPermissionWrite _ | .commandParameterCommit _
  | .commandWrite _ | .snapshotSelect _ | .linkReset => true

end Sys2Proof
end

