-- ==== Sys2Proof/Machine/LinkPort.lean ====
section
/-! DEFINITION. Machine/LinkPort.lean: the supervisor link: transactions, the pointer, staged bytes, the read latch,
and what each data byte does (R168 to R177, R180, R185, R186, R191). A command of the link that the bus cannot
bring as the link stands leaves the card as it is (log entry 3). -/

namespace Sys2Proof.Machine

open Host (Outcome)

/-- A transaction addressed to the card is in progress (R169, R170). -/
def LinkPhase.inProgress : LinkPhase → Bool
  | .address again => again
  | .idle => false
  | .pointer | .data | .sending | .silent => true

/-- The staged byte and the read latch are discarded (R172, R173). -/
def Link.discard (x : Link) : Link := { x with staged := none, latch := none }

/-- The card's link address: 0x58 plus the value of J2 as read at system reset (R168, R187). -/
def State.linkAddress (s : State) : BitVec 7 := BitVec.ofNat 7 (Config.linkBase + s.jumpers.linkSelect.toNat)

/-- A START or repeated START (R168, R170, R172, R173). -/
def execLinkStart (s : State) : Outcome State Fault Refusal :=
  .next (s.setLink { s.link.discard with phase := .address s.link.phase.inProgress, sda := .released })

/-- The phase an address byte leads to (R168, R169, R170). -/
def phaseAfterAddress (dir : AccessDir) : LinkPhase :=
  match dir with
  | .read => .sending
  | .write => .pointer

/-- The address byte after a START: the card takes part when it matches, and otherwise ignores the bus (R168,
R170). -/
def execLinkAddress (address : BitVec 7) (dir : AccessDir) (s : State) : Outcome State Fault Refusal :=
  match s.link.phase with
  | .address _ =>
    if address = s.linkAddress then
      .next (s.setLink { s.link with phase := phaseAfterAddress dir, sda := .acknowledge })
    else .next (s.setLink { s.link with phase := .idle, sda := .released })
  | _ => .next s

/-- A STOP (R170, R172, R173). -/
def execLinkStop (s : State) : Outcome State Fault Refusal :=
  .next (s.setLink { s.link.discard with phase := .idle, sda := .released })

/-- The pointer byte: the pointer takes its low seven bits (R169). -/
def execPointerByte (value : Byte) (s : State) : Outcome State Fault Refusal :=
  if s.link.phase = .pointer then
    .next (s.setLink { s.link with
      phase := .data, pointer := value.setWidth 7, latch := none, sda := .acknowledge })
  else .next s

/-- The byte the card sends: from the read latch when that holds the position's byte, else from the field
(R170, R173). -/
def State.byteToSend (s : State) : Byte :=
  match s.link.latch with
  | some x => if x.position = s.link.pointer then x.value else s.bankByte s.link.pointer
  | none => s.bankByte s.link.pointer

/-- The read latch that reading the byte at the pointer leaves: at the low byte of a 16-bit field, the field's high
byte as it stands (R173). -/
def State.latchAfterRead (s : State) : Option ReadLatch :=
  if s.isWideLow s.link.pointer then
    some { position := s.link.pointer + 1, value := s.bankByte (s.link.pointer + 1) }
  else none

/-- The card sends the byte at the pointer, and the pointer advances; without an acknowledgement the card sends
nothing more until the next START (R170, R173). -/
def execLinkReadByte (acknowledged : Bool) (s : State) : Outcome State Fault Refusal :=
  if s.link.phase = .sending then
    .next (s.setLink { s.link with
      phase := if acknowledged then .sending else .silent
      pointer := s.link.pointer + 1
      latch := s.latchAfterRead
      sda := .sent s.byteToSend })
  else .next s

/-! ### Data bytes -/

/-- A data byte is taken: it is acknowledged, the pointer advances, the read latch goes, and of a staged byte only a
new one is left (R169, R172, R173). -/
def Link.takeData (x : Link) (staged : Option Staged) : Link :=
  { x with pointer := x.pointer + 1, staged := staged, latch := none, sda := .acknowledge }

/-- A data byte of a write transaction, whose effect beyond the link is given by the field at the pointer. It is no
happening of the card unless a write transaction is past its pointer byte (log entry 3). -/
def dataByte (effect : BankField → Option (State × Option Staged)) (s : State) : Outcome State Fault Refusal :=
  if s.link.phase = .data then
    match effect (bankField s.link.pointer) with
    | some (s', staged) => .next (s'.setLink (s.link.takeData staged))
    | none => .next s
  else .next s

/-- The pair that a byte written to the high byte of a field commits, when the field has a byte staged (R172). -/
def State.committed (s : State) (f : WideField) (high : Byte) : Option Nat :=
  match s.link.staged with
  | some x => if x.field = f then some (pairValue x.value high) else none
  | none => none

/-- A write to the slot dropped while it is PENDING sets CMD_LOST (R180). -/
def State.commandLost (s : State) : State := s.raiseSupervisor .cmdLost

/-- A data byte to the low byte of a 16-bit field becomes the staged byte; one to the command parameter of a
PENDING slot is dropped with CMD_LOST (R172, R180). -/
def execStagedByte (value : Byte) (s : State) : Outcome State Fault Refusal :=
  dataByte (fun x =>
    match x with
    | .wideLow .commandParameter =>
      if s.slot.state = .pending then some (s.commandLost, none)
      else some (s, some { field := .commandParameter, value := value })
    | .wideLow f => some (s, some { field := f, value := value })
    | _ => none) s

/-- A data byte to the flags position clears each flag whose bit is 0 (R185). -/
def execSupervisorFlagsWrite (value : Byte) (s : State) : Outcome State Fault Refusal :=
  dataByte (fun x =>
    match x with
    | .supervisorFlags => some (s.setSupervisor (s.supervisor.clearFlags value), none)
    | _ => none) s

/-- A data byte to the enables position stores bits 5 to 0 (R186, R191). -/
def execSupervisorEnablesWrite (value : Byte) (s : State) : Outcome State Fault Refusal :=
  dataByte (fun x =>
    match x with
    | .supervisorEnables => some (s.setSupervisor { s.supervisor with enables := value.setWidth 6 }, none)
    | _ => none) s

/-- The watermark takes a committed value of 0 to 511 (R176). -/
def State.storeWatermark (s : State) (value : Option Nat) : State :=
  match value with
  | some w => if w ≤ 511 then s.setPool { s.pool with watermark := w } else s
  | none => s

/-- A data byte to the high byte of the watermark (R172, R176). -/
def execWatermarkCommit (value : Byte) (s : State) : Outcome State Fault Refusal :=
  dataByte (fun x =>
    match x with
    | .wideHigh .watermark => some (s.storeWatermark (s.committed .watermark value), none)
    | _ => none) s

/-- A data byte to the tick period code: one of the five codes is stored (R46, R176). -/
def execTickPeriodCodeWrite (value : Byte) (s : State) : Outcome State Fault Refusal :=
  dataByte (fun x =>
    match x with
    | .tickPeriodCode =>
      some (if h : value.toNat < 5 then s.setTicks { s.ticks with code := ⟨value.toNat, h⟩ } else s, none)
    | _ => none) s

/-- A master's block quota takes a committed value of 0 to 512 (R175). -/
def State.storeBlockQuota (s : State) (m : Master) (value : Option Nat) : State :=
  match value with
  | some q => if q ≤ 512 then s.setPolicy m { s.policy m with blockQuota := q } else s
  | none => s

/-- A data byte to the high byte of a block quota (R172, R175). -/
def execBlockQuotaCommit (value : Byte) (s : State) : Outcome State Fault Refusal :=
  dataByte (fun x =>
    match x with
    | .wideHigh (.blockQuota m) => some (s.storeBlockQuota m (s.committed (.blockQuota m) value), none)
    | _ => none) s

/-- A data byte to a lease quota: 0 to 40 is stored (R175). -/
def execLeaseQuotaWrite (value : Byte) (s : State) : Outcome State Fault Refusal :=
  dataByte (fun x =>
    match x with
    | .leaseQuota m =>
      some (if value.toNat ≤ 40 then s.setPolicy m { s.policy m with leaseQuota := value.toNat } else s, none)
    | _ => none) s

/-- A data byte to an open permission: bit 0 is stored (R175, R191). -/
def execOpenPermissionWrite (value : Byte) (s : State) : Outcome State Fault Refusal :=
  dataByte (fun x =>
    match x with
    | .openPermission m => some (s.setPolicy m { s.policy m with openAllowed := value.getLsbD 0 }, none)
    | _ => none) s

/-- The command parameter takes a committed value (R172, R180). -/
def State.storeParameter (s : State) (value : Option Nat) : State :=
  match value with
  | some p => s.setSlot { s.slot with parameter := BitVec.ofNat 16 p }
  | none => s

/-- A data byte to the high byte of the command parameter; while the slot is PENDING it is dropped with CMD_LOST
(R172, R180). -/
def execCommandParameterCommit (value : Byte) (s : State) : Outcome State Fault Refusal :=
  dataByte (fun x =>
    match x with
    | .wideHigh .commandParameter =>
      if s.slot.state = .pending then some (s.commandLost, none)
      else some (s.storeParameter (s.committed .commandParameter value), none)
    | _ => none) s

/-- A command byte posts a supervisor command; while the slot is PENDING it is dropped with CMD_LOST (R180). -/
def execCommandWrite (value : Byte) (s : State) : Outcome State Fault Refusal :=
  dataByte (fun x =>
    match x with
    | .command =>
      if s.slot.state = .pending then some (s.commandLost, none)
      else some (s.setSlot { s.slot with command := value, answer := .none, state := .pending }, none)
    | _ => none) s

/-- A byte written to the snapshot select register is stored and takes a snapshot (R177). -/
def execSnapshotSelect (value : Byte) (s : State) : Outcome State Fault Refusal :=
  dataByte (fun x =>
    match x with
    | .snapshotSelect =>
      some (s.setSnapshot { select := value, buffer := s.snapshotOf (selectionOf value) }, none)
    | _ => none) s

/-- An aligned word write of the control space to a word software may not write is answered ACK and ignored (R149);
a data byte of the link to a read-only position or to one that holds no field is acknowledged and ignored, and
discards a staged byte (R169, R172, R177). -/
def execRegisterWriteIgnored (w : IgnoredWrite) (s : State) : Outcome State Fault Refusal :=
  match w with
  | .control m offset value =>
    if (IgnoredWrite.control m offset value).wellFormed then .next (s.respond .ack 0) else .next s
  | .link _ =>
    dataByte (fun x =>
      match x with
      | .slotState | .slotAnswer | .snapshotBuffer _ | .none => some (s, none)
      | _ => none) s

/-- SCL has been low for more than 35 ms: while a transaction addressed to the card is in progress, the card
abandons it, releases SDA and discards the staged byte and the read latch; the pointer is kept (R174). -/
def execLinkReset (s : State) : Outcome State Fault Refusal :=
  if s.link.phase.inProgress then
    .next (s.setLink { s.link.discard with phase := .idle, sda := .released })
  else .next s

end Sys2Proof.Machine
end

