-- ==== Sys2Proof/Machine/Mailboxes.lean ====
section
/-! DEFINITION. Machine/Mailboxes.lean: the writes and refused accesses of the control space (R148 to R152, R161,
R162, R191). Machine/Views.lean gives what a read of it returns. -/

namespace Sys2Proof.Machine

open Host (Outcome)

/-- A post: REQ takes the value, the answer is cleared and the mailbox becomes PENDING (R151). -/
def Mailbox.post (b : Mailbox) (value : Word) : Mailbox :=
  { b with req := value, answer := .none, answer0 := 0, answer1 := 0, state := .pending }

/-- A write to REQ: a post, or while the mailbox is PENDING a dropped write with REQUEST_LOST (R151, R152). -/
def Mailbox.writeReq (b : Mailbox) (value : Word) : Mailbox :=
  if b.state = .pending then b.raise .requestLost else b.post value

/-- A parameter word stored whole (R152, R191). -/
def Mailbox.storeParam (b : Mailbox) (which : ParamWord) (value : Word) : Mailbox :=
  match which with
  | .param1 => { b with param1 := value }
  | .param2 => { b with param2 := value }

/-- A write to PARAM1 or PARAM2: stored, or dropped with REQUEST_LOST while the mailbox is PENDING (R152). -/
def Mailbox.writeParam (b : Mailbox) (which : ParamWord) (value : Word) : Mailbox :=
  if b.state = .pending then b.raise .requestLost else b.storeParam which value

/-- A master writes REQ (R151, R152). -/
def execReqWrite (m : Master) (value : Word) (s : State) : Outcome State Fault Refusal :=
  .next ((s.setMailbox m ((s.mailbox m).writeReq value)).respond .ack 0)

/-- A master writes PARAM1 or PARAM2 (R152). -/
def execParamWrite (m : Master) (which : ParamWord) (value : Word) (s : State) : Outcome State Fault Refusal :=
  .next ((s.setMailbox m ((s.mailbox m).writeParam which value)).respond .ack 0)

/-- A master writes EVENTS (R161, R163). -/
def execEventsWrite (m : Master) (value : Word) (s : State) : Outcome State Fault Refusal :=
  .next ((s.setMailbox m ((s.mailbox m).clearEvents value)).respond .ack 0)

/-- A master writes EVENT_ENABLE: bits 7 to 0 are stored (R162, R191). -/
def execEventEnableWrite (m : Master) (value : Word) (s : State) : Outcome State Fault Refusal :=
  .next ((s.setMailbox m { s.mailbox m with enables := value.setWidth 8 }).respond .ack 0)

/-- A control-space access that R148 or R149 refuses is answered ERROR, with zeros on the data lines, and
changes nothing on the card (R149, R189). -/
def execControlAccessError (master : BitVec 4) (address : BitVec 32) (_dir : AccessDir) (width : Width)
    (s : State) : Outcome State Fault Refusal :=
  if addressBase address = s.jumpers.base ∧ inControlSpace address = true ∧
      controlRefused master (spaceOffset address) width = true then
    .next (s.respond .error 0)
  else .next s

end Sys2Proof.Machine
end

