-- ==== Sys2Proof/Machine/Resizing.lean ====
section
/-! DEFINITION. Machine/Resizing.lean: RESIZE, which shrinks, grows in place, starts a move or refuses (R106 to
R113). -/

namespace Sys2Proof.Machine

open Host (Outcome)

/-- A shrink: the blocks at the growth end go to SCRUB and the owner's block count drops (R33, R109). -/
def State.shrinkLease (s : State) (r : RecordNo) (dir : Direction) (run : Run) (len : Nat) : State :=
  ((s.scrubRun (some (shrunkOff dir run len))).setLease r { s.lease r with run := some (shrunkTo dir run len) }).dropOwnedBy
    (s.lease r).owner 0 (run.len - len)

/-- Growth in place: the added blocks become RUN and the owner's block count rises (R31, R111). -/
def State.growLease (s : State) (r : RecordNo) (added grown : Run) : State :=
  ((s.allocate added (.run r)).setLease r { s.lease r with run := some grown }).addOwnedBy (s.lease r).owner 0 added.len

/-- The mover takes the move of a record, with none of its blocks copied (R114). -/
def Engine.takeMove (e : Engine) (r : RecordNo) : Engine :=
  { e with mover := { record := some r, blocksCopied := 0, burstsDone := 0 } }

/-- A move starts: its target run is marked TARGET, the record becomes MOVING and the mover takes the move
(R32, R113). -/
def State.startMove (s : State) (r : RecordNo) (target : Run) : State :=
  ((s.allocate target (.target r)).setLease r { s.lease r with state := .moving, target := some target }).setEngine
    (s.engine.takeMove r)

/-- Whether the block quota of a lease's owner refuses some more blocks (R60, R110). -/
def State.ownerQuotaRefuses (s : State) (owner : Option Master) (more : Nat) : Bool :=
  match owner with
  | some m => s.blockQuotaRefuses m more
  | none => false

/-- A growth that cannot be in place: the mover is tested and a target run is searched for (R112, R113). -/
def growByMove (s : State) (r : RecordNo) (dir : Direction) (run : Run) (len : Nat) : State × Answer :=
  match s.movingRecord with
  | some other => (s, { code := .busy, word0 := handleWord (s.handle other) })
  | none =>
    match s.pool.findRun dir len with
    | none => (s, { code := .noSpace, word1 := numberWord s.pool.scrubCount })
    | some target =>
      ((s.startMove r target).wakeEngine,
        { code := .started, word0 := numberWord run.len, word1 := numberWord len })

/-- A growth of a lease (R110 to R113). -/
def growBody (s : State) (r : RecordNo) (dir : Direction) (run : Run) (len : Nat) : State × Answer :=
  if s.ownerQuotaRefuses (s.lease r).owner (len - run.len) then (s, { code := .quota, word1 := numberWord 2 })
  else
    match s.pool.growthInPlace dir run len with
    | some (added, grown) => (s.growLease r added grown, { code := .ok, word0 := numberWord len })
    | none => growByMove s r dir run len

/-- RESIZE of a record, its checks in their order (R106 to R113). A record that is not FREE has a run and a
direction (R1); one without is left as it is. -/
def resizeBody (s : State) (m : Master) (r : RecordNo) : State × Answer :=
  let l := s.lease r
  let len := (s.mailbox m).lengthField
  if l.heldExclusiveBy m = false then (s, { code := .notHolder })
  else if l.state = .moving then (s, { code := .busy, word0 := handleWord (s.handle r) })
  else if legalLength len = false then (s, { code := .badArg })
  else
    match l.run, l.direction with
    | some run, some dir =>
      if len = run.len then (s, { code := .ok, word0 := numberWord len })
      else if len < run.len then
        ((s.shrinkLease r dir run len).wakeEngine, { code := .ok, word0 := numberWord len })
      else growBody s r dir run len
    | _, _ => (s, { code := .notHolder })

/-- RESIZE is taken (R106). -/
def execTakeResize (s : State) : Outcome State Fault Refusal :=
  takeRequest .resize (withSession (withLease resizeBody)) s

end Sys2Proof.Machine
end

