-- ==== Sys2Proof/Machine/Sessions.lean ====
section
/-! DEFINITION. Machine/Sessions.lean: OPEN, RENEW, CLOSE and undefined command codes (R48 to R52, R157). -/

namespace Sys2Proof.Machine

open Host (Outcome)

/-- A term that OPEN accepts (R48). -/
def legalTerm (term : Nat) : Bool := decide (1 ≤ term) && decide (term ≤ Config.maxTerm)

/-- The session becomes OPEN with a term, and remaining is set to it (R48). -/
def State.openSession (s : State) (m : Master) (term : Nat) : State :=
  s.setSession m { s.session m with state := .opened, term := some term, remaining := term }

/-- An OPEN that is refused renews a session that is open and leaves a closed one as it was (R48). -/
def State.renewIfOpen (s : State) (m : Master) : State := if s.isOpen m then s.renew m else s

/-- OPEN (R48), and the reopen of an open session (R49). -/
def openBody (s : State) (m : Master) : State × Answer :=
  let term := (s.mailbox m).openTerm
  if (s.policy m).openAllowed = false then (s.renewIfOpen m, { code := .denied })
  else if legalTerm term = false then (s.renewIfOpen m, { code := .badArg })
  else if s.isOpen m then
    (((s.endSession m .reopened).wakeEngine).openSession m term, { code := .reopened })
  else (s.openSession m term, { code := .ok })

/-- OPEN is taken (R48, R49). -/
def execTakeOpen (s : State) : Outcome State Fault Refusal := takeRequest .openSession openBody s

/-- RENEW renews the open session and does nothing else (R50). -/
def renewBody (s : State) (_m : Master) : State × Answer := (s, { code := .ok })

/-- RENEW is taken (R50). -/
def execTakeRenew (s : State) : Outcome State Fault Refusal := takeRequest .renew (withSession renewBody) s

/-- CLOSE ends an open session with end reason CLOSED (R52). -/
def closeBody (s : State) (m : Master) : State × Answer :=
  if s.isOpen m then ((s.endSession m .closed).wakeEngine, { code := .ok }) else (s, { code := .noSession })

/-- CLOSE is taken (R52). -/
def execTakeClose (s : State) : Outcome State Fault Refusal := takeRequest .close closeBody s

/-- A command code that names no request is answered BAD_ARG in an open session (R157). -/
def undefinedBody (s : State) (_m : Master) : State × Answer := (s, { code := .badArg })

/-- A command code that names no request is taken (R157). -/
def execTakeUndefined (s : State) : Outcome State Fault Refusal :=
  takeRequest .undefined (withSession undefinedBody) s

end Sys2Proof.Machine
end

