-- ==== Sys2Proof/Machine/Ticks.lean ====
section
/-! DEFINITION. Machine/Ticks.lean: the tick and its two countdowns (R46, R47, R100, R101). The session table's
countdown and the lapses it causes are one happening (R47), and the wait queue's countdown, its timeouts and
their grant passes are one happening (R100); each happening has two rows, one for the countdown and one for
when it ends something (log entry 4). -/

namespace Sys2Proof.Machine

open Host (Outcome)

/-- A tick: the countdowns at the session table and at the wait queue come due, and the next period has the
length of the code then held (R46). -/
def execTick (s : State) : Outcome State Fault Refusal :=
  .next (s.setTicks { s.ticks with
    running := s.ticks.code
    sessionDue := s.ticks.sessionDue + 1
    queueDue := s.ticks.queueDue + 1 })

/-- A session counted down by one tick; a CLOSED one is not (R47). -/
def Session.countdown (x : Session) : Session :=
  if x.state = .opened then { x with remaining := x.remaining - 1 } else x

/-- Every session counted down, and the tick no longer due at the session table. -/
def State.countSessions (s : State) : State :=
  { s with
    sessions := s.sessions.map Session.countdown
    ticks := { s.ticks with sessionDue := s.ticks.sessionDue - 1 } }

/-- The open sessions whose count is 0, in increasing master number (R47). -/
def State.lapsing (s : State) : List Master :=
  allMasters.filter fun m => s.isOpen m && (s.session m).remaining == 0

/-- The lapses of a countdown, one at a time, each whole, in increasing master number (R47). -/
def State.lapseAll (s : State) : State :=
  if s.lapsing = [] then s else (s.lapsing.foldl (fun s' m => s'.endSession m .lapsed) s).wakeEngine

/-- The session table's happening of a tick (R47). -/
def State.sessionTick (s : State) : State := s.countSessions.lapseAll

/-- The session table takes its countdown of a tick (R47). -/
def execSessionCountdown (s : State) : Outcome State Fault Refusal :=
  if 0 < s.ticks.sessionDue then .next s.sessionTick else .next s

/-- The session table takes a countdown in which sessions lapse (R47). -/
def execSessionLapse (s : State) : Outcome State Fault Refusal :=
  if 0 < s.ticks.sessionDue ∧ s.countSessions.lapsing ≠ [] then .next s.sessionTick else .next s

/-- A wait entry counted down by one tick (R100). -/
def WaitEntry.countdown (e : WaitEntry) : WaitEntry := { e with remaining := e.remaining - 1 }

/-- Part 1 of the wait queue's countdown (R100). -/
def State.countQueue (s : State) : State :=
  { s with
    queue := s.queue.map WaitEntry.countdown
    ticks := { s.ticks with queueDue := s.ticks.queueDue - 1 } }

/-- The entries whose count is 0, in queue order (R100). -/
def State.expired (s : State) : List WaitEntry := s.queue.filter fun e => e.remaining == 0

/-- Part 2: the expired entries are removed, each with a TIMED_OUT record (R100). -/
def State.timeOut (s : State) : State :=
  (s.expired.foldl
    (fun s' e => s'.endWait e.master
      { handle := e.handle, mode := some e.kind.mode, result := some .timedOut }) s).setQueue
    (s.queue.filter fun e => !(e.remaining == 0))

/-- The records whose head entry has expired, in increasing record number (R100). -/
def State.expiredHeads (s : State) : List RecordNo :=
  allRecords.filter fun r =>
    (s.lease r).state != .free && (s.entriesFor (s.handle r)).head?.any fun e => e.remaining == 0

/-- Parts 2 and 3: the timeouts, then a grant pass for each lease whose head was removed (R100, R101). -/
def State.timeOutAll (s : State) : State := s.expiredHeads.foldl State.grantPass s.timeOut

/-- The wait queue's happening of a tick (R100). -/
def State.queueTick (s : State) : State := s.countQueue.timeOutAll

/-- The wait queue takes its countdown of a tick (R100). -/
def execWaitQueueCountdown (s : State) : Outcome State Fault Refusal :=
  if 0 < s.ticks.queueDue then .next s.queueTick else .next s

/-- The wait queue takes a countdown in which entries time out (R100). -/
def execWaitTimeout (s : State) : Outcome State Fault Refusal :=
  if 0 < s.ticks.queueDue ∧ s.countQueue.expired ≠ [] then .next s.queueTick else .next s

end Sys2Proof.Machine
end

