-- ==== Sys2Proof/Machine/Dispatch.lean ====
section
/-! DEFINITION. Machine/Dispatch.lean: the one dispatch, one arm per command. -/

namespace Sys2Proof.Machine

def exec (i : Instr) (s : State) : Host.Outcome State Fault Refusal :=
  match i with
  | .takeOpen => Sys2Proof.Machine.execTakeOpen s
  | .takeRenew => Sys2Proof.Machine.execTakeRenew s
  | .takeClose => Sys2Proof.Machine.execTakeClose s
  | .takeCreate => Sys2Proof.Machine.execTakeCreate s
  | .takeFind => Sys2Proof.Machine.execTakeFind s
  | .takeQuery => Sys2Proof.Machine.execTakeQuery s
  | .takeMark => Sys2Proof.Machine.execTakeMark s
  | .takeRetire => Sys2Proof.Machine.execTakeRetire s
  | .takeAcquire => Sys2Proof.Machine.execTakeAcquire s
  | .takeRelease => Sys2Proof.Machine.execTakeRelease s
  | .takeConvert => Sys2Proof.Machine.execTakeConvert s
  | .takeCancel => Sys2Proof.Machine.execTakeCancel s
  | .takeResize => Sys2Proof.Machine.execTakeResize s
  | .takeBind => Sys2Proof.Machine.execTakeBind s
  | .takeUnbind => Sys2Proof.Machine.execTakeUnbind s
  | .takeUndefined => Sys2Proof.Machine.execTakeUndefined s
  | .reqWrite m value => Sys2Proof.Machine.execReqWrite m value s
  | .paramWrite m which value => Sys2Proof.Machine.execParamWrite m which value s
  | .eventsWrite m value => Sys2Proof.Machine.execEventsWrite m value s
  | .eventEnableWrite m value => Sys2Proof.Machine.execEventEnableWrite m value s
  | .registerWriteIgnored w => Sys2Proof.Machine.execRegisterWriteIgnored w s
  | .controlAccessError master address dir width => Sys2Proof.Machine.execControlAccessError master address dir width s
  | .dataRead master address width => Sys2Proof.Machine.execDataRead master address width s
  | .dataWrite master address width lanes => Sys2Proof.Machine.execDataWrite master address width lanes s
  | .tick => Sys2Proof.Machine.execTick s
  | .sessionCountdown => Sys2Proof.Machine.execSessionCountdown s
  | .sessionLapse => Sys2Proof.Machine.execSessionLapse s
  | .waitQueueCountdown => Sys2Proof.Machine.execWaitQueueCountdown s
  | .waitTimeout => Sys2Proof.Machine.execWaitTimeout s
  | .scrubBurstEnd => Sys2Proof.Machine.execScrubBurstEnd s
  | .scrubBlockStepEnd => Sys2Proof.Machine.execScrubBlockStepEnd s
  | .copyBurstEnd => Sys2Proof.Machine.execCopyBurstEnd s
  | .copyBlockStepEnd => Sys2Proof.Machine.execCopyBlockStepEnd s
  | .moveCompletion => Sys2Proof.Machine.execMoveCompletion s
  | .takeRevoke => Sys2Proof.Machine.execTakeRevoke s
  | .takeEvict => Sys2Proof.Machine.execTakeEvict s
  | .takeResetAll => Sys2Proof.Machine.execTakeResetAll s
  | .takeUndefinedSupervisor => Sys2Proof.Machine.execTakeUndefinedSupervisor s
  | .systemReset => Sys2Proof.Machine.execSystemReset s
  | .linkStart => Sys2Proof.Machine.execLinkStart s
  | .linkAddress address dir => Sys2Proof.Machine.execLinkAddress address dir s
  | .linkStop => Sys2Proof.Machine.execLinkStop s
  | .pointerByte value => Sys2Proof.Machine.execPointerByte value s
  | .linkReadByte acknowledged => Sys2Proof.Machine.execLinkReadByte acknowledged s
  | .stagedByte value => Sys2Proof.Machine.execStagedByte value s
  | .supervisorFlagsWrite value => Sys2Proof.Machine.execSupervisorFlagsWrite value s
  | .supervisorEnablesWrite value => Sys2Proof.Machine.execSupervisorEnablesWrite value s
  | .watermarkCommit value => Sys2Proof.Machine.execWatermarkCommit value s
  | .tickPeriodCodeWrite value => Sys2Proof.Machine.execTickPeriodCodeWrite value s
  | .blockQuotaCommit value => Sys2Proof.Machine.execBlockQuotaCommit value s
  | .leaseQuotaWrite value => Sys2Proof.Machine.execLeaseQuotaWrite value s
  | .openPermissionWrite value => Sys2Proof.Machine.execOpenPermissionWrite value s
  | .commandParameterCommit value => Sys2Proof.Machine.execCommandParameterCommit value s
  | .commandWrite value => Sys2Proof.Machine.execCommandWrite value s
  | .snapshotSelect value => Sys2Proof.Machine.execSnapshotSelect value s
  | .linkReset => Sys2Proof.Machine.execLinkReset s

end Sys2Proof.Machine
end

