-- ==== Sys2Proof/Safety.lean ====
section
/-! DEFINITION. Safety.lean: the words the statements about the card are written in: which request the engine takes,
what a handle names, what the end of a take leaves, and the laws of the card that every happening keeps. Each law
is closed by itself: a happening keeps it in every state that has it, not only in states a run reaches. -/

namespace Sys2Proof.Machine

/-! ### Takes -/

/-- How far the request engine counts from the last-served master to reach a master: 0 for the one after it
(R155). -/
def State.place (s : State) (m : Master) : Nat := (m - s.lastServed - 1).val

/-- The request engine takes a master's mailbox next: no supervisor command is pending, the mailbox is, and none
that is pending comes sooner in the count (R155). -/
structure State.Serves (s : State) (m : Master) : Prop where
  slot : s.slot.state ≠ .pending
  posted : (s.mailbox m).state = .pending
  first : ∀ m', (s.mailbox m').state = .pending → s.place m ≤ s.place m'

/-- The request engine takes a request of a master next; REQ bits 7 to 0 name it (R191). -/
structure State.Takes (s : State) (m : Master) (q : Request) : Prop extends s.Serves m where
  request : requestOfCode ((s.mailbox m).req.extractLsb' 0 8) = q

/-- The request engine takes a supervisor command next (R155, R181). -/
structure State.TakesCommand (s : State) (c : SupervisorCommand) : Prop where
  posted : s.slot.state = .pending
  command : supervisorCommandOfCode s.slot.command = c

/-- The 16-bit parameter of the request in a master's mailbox, REQ bits 31 to 16 (10.2.1). -/
def State.parameter (s : State) (m : Master) : BitVec 16 := (s.mailbox m).req.extractLsb' 16 16

/-- A master's session is OPEN. -/
def State.Open (s : State) (m : Master) : Prop := (s.session m).state = .opened

/-- A handle is valid and names a record (R5). -/
structure State.Names (s : State) (h : Handle) (r : RecordNo) : Prop where
  number : h.toNat % 64 = r.val
  live : (s.lease r).state ≠ .free
  generation : (s.lease r).generation.val = h.toNat / 64

/-- A request of an open session that names a record is taken next. -/
structure State.TakesOn (s : State) (m : Master) (q : Request) (r : RecordNo) : Prop extends s.Takes m q where
  opened : s.Open m
  names : s.Names (s.parameter m) r

/-- The session of a master as a renewal leaves it (R50). -/
def State.renewedSession (s : State) (m : Master) : Session :=
  { s.session m with remaining := (s.session m).term.getD 0 }

/-- The card with the session of a master renewed (R50). -/
def State.renewed (s : State) (m : Master) : State :=
  { s with sessions := s.sessions.set m (s.renewedSession m) }

/-- The card at the end of a take: the answer is written, the mailbox is DONE, the DONE flag is set, and the master is
the last served (R154, R155). -/
def State.done (s : State) (m : Master) (code : AnswerCode) (word0 word1 : Word) : State :=
  { s with
    mailboxes := s.mailboxes.set m { s.mailbox m with
      state := .done, answer := code, answer0 := word0, answer1 := word1
      events := (s.mailbox m).events ||| 0x01#8 }
    lastServed := m }

/-- The card at the end of the take of a supervisor command: the answer is written, the slot is DONE and CMD_DONE is
set (R181). -/
def State.commandDone (s : State) (code : AnswerCode) : State :=
  { s with
    slot := { s.slot with state := .done, answer := code }
    supervisor := { s.supervisor with flags := s.supervisor.flags ||| 0x10#6 } }

/-- A run fits at a base: its blocks lie in the pool and are FREE (R28). -/
def State.Fits (s : State) (base len : Nat) : Prop :=
  base + len ≤ 512 ∧ ∀ b, base ≤ b → b < base + len → s.block b = some .free

/-- The base the first-fit search chooses for a direction and length (R28). -/
def State.Chosen (s : State) (dir : Direction) (len base : Nat) : Prop :=
  s.Fits base len ∧
    match dir with
    | .up => ∀ b, s.Fits b len → base ≤ b
    | .down => ∀ b, s.Fits b len → b ≤ base

/-- A byte of SRAM lies in a run. -/
def Run.Holds (run : Run) (address : Nat) : Prop :=
  run.base * 4096 ≤ address ∧ address < (run.base + run.len) * 4096

/-- The byte at an SRAM address. -/
def State.byteAt (s : State) (address : Nat) : Byte := s.sram.read address

/-- A master waits for nothing, holds nothing and has every aperture UNBOUND (R53). -/
structure State.Without (s : State) (m : Master) : Prop where
  waits : ∀ e ∈ s.queue, e.master ≠ m
  holds : ∀ r, (s.lease r).holders.mem m = false
  apertures : ∀ a, s.aperture m a = .unbound

/-- No wait entry names a handle. -/
def State.NoWaiters (s : State) (h : Handle) : Prop := ∀ e ∈ s.queue, e.handle ≠ h

/-- A mailbox holds the answer of a request just taken (R154). -/
structure Mailbox.Answered (b : Mailbox) (code : AnswerCode) (word0 word1 : Word) : Prop where
  state : b.state = .done
  code : b.answer = code
  word0 : b.answer0 = word0
  word1 : b.answer1 = word1
  done : b.events.getLsbD 0 = true

/-- Every master but one has the mailbox it had. -/
def State.OtherMailboxes (t s : State) (m : Master) : Prop := ∀ m', m' ≠ m → t.mailbox m' = s.mailbox m'

/-- A lease with its move, if it is on one, abandoned: HELD on its old run (R122). -/
def Lease.unmoved (l : Lease) : Lease :=
  if l.state = .moving then { l with state := .held, target := none } else l

/-- A lease that its only holder has left, with its move, if it was on one, abandoned (R11, R122). -/
def Lease.emptied (l : Lease) : Lease := { l.unmoved with holders := 0, mode := none }

/-- The entries a grant pass grants on a lease whose entries are given: an UPGRADE head whose master holds alone, an
ACQ_EXCL head of an empty holder set, or an ACQ_SHARED head of an empty or SHARED lease with every ACQ_SHARED entry
that follows it without a break (R98). -/
def Lease.grants (l : Lease) : List WaitEntry → List WaitEntry
  | [] => []
  | e :: rest =>
    if e.kind = .upgrade ∧ l.holders = MasterSet.single e.master ∨ e.kind = .acqExcl ∧ l.holders = 0 then [e]
    else if e.kind = .acqShared ∧ (l.holders = 0 ∨ l.mode = some .shared) then
      e :: rest.takeWhile (fun x => x.kind == .acqShared)
    else []

/-- What the grant pass leaves of a record, found as a HELD lease of a handle with its entries: the masters of the
entries it grants have joined the holders in the mode they asked for, each with a GRANTED record and WAIT_END and no
longer in the queue, and the other entries still wait (R98, R99). -/
structure State.Passed (t : State) (r : RecordNo) (h : Handle) (l : Lease) (entries : List WaitEntry) : Prop where
  lease : t.lease r =
    { l with
      holders := (t.lease r).holders
      mode := match l.grants entries with
        | [] => l.mode
        | e :: _ => some e.kind.mode }
  holders : ∀ m, (t.lease r).holders.mem m = true ↔ l.holders.mem m = true ∨ ∃ x ∈ l.grants entries, x.master = m
  left : ∀ x ∈ l.grants entries, ∀ y ∈ t.queue, y.master ≠ x.master
  stay : ∀ x ∈ entries, x ∉ l.grants entries → x ∈ t.queue
  told : ∀ x ∈ l.grants entries,
    (t.mailbox x.master).waitRecord = { handle := h, mode := some x.kind.mode, result := some .granted } ∧
      (t.mailbox x.master).events.getLsbD 1 = true

/-- A lease that its only holder has left has passed to the entries that waited for it, `e :: rest` (R56, R89, R123). -/
def State.HandedOn (t s : State) (r : RecordNo) (e : WaitEntry) (rest : List WaitEntry) : Prop :=
  t.Passed r (s.handle r) (s.lease r).emptied (e :: rest)

/-- At most one record is MOVING (R114). -/
def State.MovingLaw (s : State) : Prop :=
  ∀ r r', (s.lease r).state = .moving → (s.lease r').state = .moving → r = r'

/-- A lease is held by one master alone: it is HELD, or it is MOVING and is the only one that is (R114). -/
structure State.HoldsAlone (s : State) (m : Master) (r : RecordNo) : Prop where
  held : (s.lease r).state = .held ∨ (s.lease r).state = .moving ∧ s.MovingLaw
  alone : (s.lease r).holders = MasterSet.single m

/-- A lease is held by one master alone, and others wait to acquire it: its entries are `e :: rest`, none of that master
and none an UPGRADE at the head. -/
structure State.AwaitedFrom (s : State) (m : Master) (r : RecordNo) (e : WaitEntry) (rest : List WaitEntry) : Prop
    extends s.HoldsAlone m r where
  entries : s.queue.filter (fun x => x.handle == s.handle r) = e :: rest
  acquire : e.kind ≠ .upgrade
  others : ∀ x ∈ e :: rest, x.master ≠ m

/-! ### Moves -/

/-- The block of the target run that block `i` of a run is paired with (R115). -/
def pairedBlock (dir : Direction) (run target : Run) (i : Nat) : Nat :=
  match dir with
  | .up => target.base + i
  | .down => target.base + (target.len - run.len) + i

/-- The move of a lease that one master holds has been abandoned for a reason: the whole target run is in SCRUB, the
holder has its ABANDONED record with the length of the old run and MOVE_END, and the mover has given up the move; a
copy burst in flight keeps its block step until it ends, on the blocks it was on, and any other step goes on
(R43, R122, R127). -/
structure State.MoveAbandoned (t s : State) (m : Master) (r : RecordNo) (reason : MoveReason) : Prop where
  target : ∀ target b, (s.lease r).target = some target → target.base ≤ b → b < target.base + target.len → b < 512 →
    t.block b = some .scrub
  record : (t.mailbox m).moveRecord =
    { handle := s.handle r, result := some .abandoned, reason := reason, length := (s.lease r).length }
  told : (t.mailbox m).events.getLsbD 2 = true
  mover : t.engine.mover.record = none
  burst : ∀ dir run target, (s.lease r).direction = some dir → (s.lease r).run = some run →
    (s.lease r).target = some target → s.engine.step = some .copy →
    t.engine.step = some (.cutCopy (run.base + s.engine.mover.blocksCopied)
      (pairedBlock dir run target s.engine.mover.blocksCopied) s.engine.mover.burstsDone)
  step : ∀ x, s.engine.step = some x → x ≠ .copy → t.engine.step = some x

/-- What the ending of a master's session leaves of what it had: it waits for nothing, holds nothing and has every
aperture UNBOUND (R53); the move of a MOVING lease it held is abandoned with reason SESSION_ENDED (R55, R124); a lease it
held alone, with no waiters, is IDLE when it is kept, and otherwise FREE with its run in SCRUB (R17, R56). -/
structure State.Ended (t s : State) (m : Master) : Prop extends t.Without m where
  moved : ∀ r, s.HoldsAlone m r → (s.lease r).state = .moving → t.MoveAbandoned s m r .sessionEnded
  idle : ∀ r, s.HoldsAlone m r → s.NoWaiters (s.handle r) → (s.lease r).keep = true →
    t.lease r = { (s.lease r).emptied with state := .idle }
  freed : ∀ r, s.HoldsAlone m r → s.NoWaiters (s.handle r) → (s.lease r).keep = false →
    t.lease r = Lease.freed (s.lease r).generation ∧
      ∀ run b, (s.lease r).run = some run → run.base ≤ b → b < run.base + run.len → b < 512 →
        t.block b = some .scrub

/-- What the ending of a master's session does to a record that others hold too or wait for. A lease it held SHARED with
others stays with them, and the grant pass has run without it and without its entry (R54, R56); one it held alone has
passed to those that wait to acquire it (R56, R123). A lease it did not hold but whose head entry was its own has had the
grant pass on the entries behind (R54); any other record, and a MOVING one, is as it was, with its other entries. The
master's own entry on the record goes without a wait record and without WAIT_END (R54). -/
structure State.PassedOn (t s : State) (m : Master) (r : RecordNo) : Prop where
  shared : (s.lease r).state = .held → (s.lease r).holders.mem m = true → (s.lease r).holders ≠ MasterSet.single m →
    t.Passed r (s.handle r) { s.lease r with holders := (s.lease r).holders.erase m }
      ((s.queue.filter fun x => x.handle == s.handle r).filter fun x => x.master != m)
  handed : ∀ e rest, s.AwaitedFrom m r e rest → t.HandedOn s r e rest
  headed : ∀ e rest, (s.lease r).state = .held → (s.lease r).holders.mem m = false →
    s.queue.filter (fun x => x.handle == s.handle r) = e :: rest → e.master = m →
    t.Passed r (s.handle r) (s.lease r) rest
  untouched : (s.lease r).holders.mem m = false →
    ((s.lease r).state = .free ∨ (s.lease r).state = .moving ∨
      ∀ e, s.queue.find? (fun x => x.handle == s.handle r) = some e → e.master ≠ m) →
    t.lease r = s.lease r ∧ ∀ x ∈ s.queue, x.handle = s.handle r → x.master ≠ m → x ∈ t.queue
  quiet : ∀ x ∈ s.queue, x.master = m → x.handle = s.handle r →
    (t.mailbox m).waitRecord = (s.mailbox m).waitRecord ∧
      (t.mailbox m).events.getLsbD 1 = (s.mailbox m).events.getLsbD 1

/-! ### Data accesses -/

/-- The command a data access is (R44, R138). -/
def dataCommand (x : Transfer) : Instr :=
  match x.dir with
  | .read => .dataRead x.master x.address x.width
  | .write => .dataWrite x.master x.address x.width x.lanes

/-- The ends of the memory engine's bursts. -/
def burstEnds : List Instr :=
  [.scrubBurstEnd, .scrubBlockStepEnd, .copyBurstEnd, .copyBlockStepEnd, .moveCompletion]

/-- The aperture offset of an address in the data window (R128). -/
def offsetOf (address : BitVec 32) : Nat := (address.extractLsb' 0 20).toNat

/-- A transfer lies in the data window of the card as its base jumpers were read (R128, R187). -/
structure State.InDataWindow (s : State) (address : BitVec 32) : Prop where
  window : address.extractLsb' 23 9 = s.jumpers.base
  half : address.getLsbD 22 = false

/-- A transfer of a master into the data window meets an aperture in a given state (R128, R138). -/
structure State.Meets (s : State) (master : BitVec 4) (address : BitVec 32) (m : Master) (x : Aperture) : Prop
    extends s.InDataWindow address where
  number : master.toNat = m.val
  aperture : ∀ a : ApertureNo, (address.extractLsb' 20 2).toNat = a.val → s.aperture m a = x

/-- An offset reaches an SRAM address of a lease: it is valid for the lease's direction and length (R10, R140). -/
def Lease.Reaches (l : Lease) (offset address : Nat) : Prop :=
  ∃ run, l.run = some run ∧
    ((l.direction = some .up ∧ offset < run.len * 4096 ∧
        address = (run.base + offset / 4096) * 4096 + offset % 4096) ∨
      (l.direction = some .down ∧ 1048576 - run.len * 4096 ≤ offset ∧ offset < 1048576 ∧
        address = (run.base + run.len + offset / 4096 - 256) * 4096 + offset % 4096))

/-- A transfer passes checks 1 to 4 of R138 and reaches an SRAM address of the lease of a record. -/
structure State.Reaches (s : State) (master : BitVec 4) (address : BitVec 32) (width : Width) (m : Master)
    (r : RecordNo) (a : Nat) : Prop where
  bound : ∃ h, s.Meets master address m (.bound h) ∧ s.Names h r
  aligned : offsetOf address % widthBytes width = 0
  place : (s.lease r).Reaches (offsetOf address) a

/-- The card as a refused access with a fault reason leaves it (R145). -/
def State.faulted (s : State) (m : Master) (record : FaultRecord) : State :=
  { s with
    mailboxes := s.mailboxes.set m
      (if (s.mailbox m).events.getLsbD 5 then { s.mailbox m with events := (s.mailbox m).events ||| 0x40#8 }
       else { s.mailbox m with faultRecord := record, events := (s.mailbox m).events ||| 0x20#8 })
    busAnswer := some { response := .error, lanes := 0 } }

/-- The fault record of an access (R145). -/
def faultOf (address : BitVec 32) (dir : AccessDir) (width : Width) (reason : FaultReason) : FaultRecord :=
  { aperture := apertureOf address, offset := address.extractLsb' 0 20, dir := dir, width := width,
    reason := some reason }

/-! ### The memory engine and the link -/

/-- The mover has a move in flight with blocks left to copy (R42). -/
def State.MoverHasWork (s : State) : Prop :=
  ∃ r, s.engine.mover.record = some r ∧ s.engine.mover.blocksCopied < (s.lease r).length

/-- A block is the lowest-numbered SCRUB block (R35). -/
def State.LowestScrub (s : State) (b : Block) : Prop :=
  s.block b.val = some .scrub ∧ ∀ b' : Block, b'.val < b.val → s.block b'.val ≠ some .scrub

/-- The bytes of SRAM after a burst that fills 64 bytes from an address on with zeros (R35). -/
def State.Zeroed (t s : State) (base : Nat) : Prop :=
  ∀ x, t.byteAt x = if base ≤ x ∧ x < base + 64 then 0 else s.byteAt x

/-- The bytes of SRAM after a burst that copies 64 bytes from one address on to another (R116). -/
def State.Copied (t s : State) (source target : Nat) : Prop :=
  ∀ x, t.byteAt x = if target ≤ x ∧ x < target + 64 then s.byteAt (source + (x - target)) else s.byteAt x

/-- A write transaction is past its pointer byte, and the pointer names a field (R169). -/
structure State.AtField (s : State) (f : BankField) : Prop where
  phase : s.link.phase = .data
  field : bankField s.link.pointer = f

/-- The link after a data byte: it is acknowledged, the pointer advances, the read latch is absent, and the staged byte
is as given (R169, R172, R173). -/
def Link.afterByte (x : Link) (staged : Option Staged) : Link :=
  { x with pointer := x.pointer + 1, staged := staged, latch := none, sda := .acknowledge }

/-! ### The laws of the card -/

/-- At most one wait entry per master (R83). -/
def State.QueueLaw (s : State) : Prop := (s.queue.map fun e => e.master).Nodup

/-- No two live records carry the same nonzero tag, and a FREE record has tag 0 (R6). -/
def State.TagLaw (s : State) : Prop :=
  (∀ r, (s.lease r).state = .free → (s.lease r).tag = 0) ∧
    ∀ r r', (s.lease r).state ≠ .free → (s.lease r').state ≠ .free →
      (s.lease r).tag = (s.lease r').tag → (s.lease r).tag ≠ 0 → r = r'

/-- The stored policy and watermark are in their ranges (R175, R176). -/
def State.PolicyLaw (s : State) : Prop :=
  s.pool.watermark ≤ 511 ∧ ∀ m, (s.policy m).leaseQuota ≤ 40 ∧ (s.policy m).blockQuota ≤ 512

/-- A PENDING mailbox shows answer code NONE and answer words 0, and the LOST record counts at most 15 and is empty
while LOST is clear (R151, R158, R163). -/
def State.MailboxLaw (s : State) : Prop :=
  ∀ m, ((s.mailbox m).state = .pending →
      (s.mailbox m).answer = .none ∧ (s.mailbox m).answer0 = 0 ∧ (s.mailbox m).answer1 = 0) ∧
    (s.mailbox m).lostRecord.count ≤ 15 ∧
    ((s.mailbox m).events.getLsbD 3 = false →
      (s.mailbox m).lostRecord.handle = 0 ∧ (s.mailbox m).lostRecord.count = 0)

/-- No data access waits at the SRAM port while the memory engine has no block step (R44). -/
def State.PortLaw (s : State) : Prop := s.engine.step = none → s.portWait = none

/-- SRAM is in its one canonical form. -/
def State.SramLaw (s : State) : Prop := Memory.wf s.sram = true

/-- Holder sets and modes (R11, R19), with at most one record MOVING and a target run only on that (R1). -/
structure State.HoldLaw (s : State) : Prop where
  unheld : ∀ r, (s.lease r).state = .free ∨ (s.lease r).state = .idle →
    (s.lease r).holders = 0 ∧ (s.lease r).mode = none
  held : ∀ r, (s.lease r).state = .held ∨ (s.lease r).state = .moving →
    (s.lease r).holders ≠ 0 ∧ (s.lease r).mode ≠ none
  exclusive : ∀ r, (s.lease r).mode = some .exclusive → ∃ m, (s.lease r).holders = MasterSet.single m
  moving : ∀ r, (s.lease r).state = .moving → (s.lease r).mode = some .exclusive
  still : ∀ r, (s.lease r).state ≠ .moving → (s.lease r).target = none
  oneMoving : s.MovingLaw

/-- The records a master owns, in increasing number. -/
def State.ownedRecords (s : State) (m : Master) : List RecordNo :=
  allRecords.filter fun r => (s.lease r).state != .free && (s.lease r).owner == some m

/-- The owned counts of every master (R59), with no owner on a FREE record, and a target run only on a MOVING record
and never shorter than its run. -/
structure State.OwnerLaw (s : State) : Prop where
  free : ∀ r, (s.lease r).state = .free → (s.lease r).owner = none
  still : ∀ r, (s.lease r).state ≠ .moving → (s.lease r).target = none
  leases : ∀ m, (s.session m).ownedLeases = (s.ownedRecords m).length
  blocks : ∀ m, (s.session m).ownedBlocks = ((s.ownedRecords m).map fun r => (s.lease r).length).sum
  target : ∀ r target, (s.lease r).target = some target → (s.lease r).length ≤ target.len

/-- A master whose session is CLOSED waits for nothing, holds nothing and has no aperture bound or LOST
(R53, R129), with at most one wait entry per master. -/
structure State.SessionLaw (s : State) : Prop where
  queue : s.QueueLaw
  waits : ∀ m, ¬ s.Open m → ∀ e ∈ s.queue, e.master ≠ m
  holds : ∀ m, ¬ s.Open m → ∀ r, (s.lease r).holders.mem m = false
  apertures : ∀ m, ¬ s.Open m → ∀ a, s.aperture m a = .unbound

/-- A BOUND aperture names the current handle of a record its master holds (R129), with the law of holders. -/
structure State.BoundLaw (s : State) : Prop where
  hold : s.HoldLaw
  bound : ∀ m a h, s.aperture m a = .bound h → ∃ r, s.Names h r ∧ (s.lease r).holders.mem m = true

/-- The wait queue (R83, R84, R95), with the law of holders: entries name leases with a holder; an ACQ_SHARED or
ACQ_EXCL entry is of no holder; an UPGRADE entry is of a SHARED holder that does not hold alone, and it is the
head of its lease; and of no lease could a grant pass grant an entry, since each pass that was due has run (R86, R87,
R97, R98). -/
structure State.WaitLaw (s : State) : Prop where
  hold : s.HoldLaw
  queue : s.QueueLaw
  named : ∀ e ∈ s.queue, ∃ r, s.Names e.handle r ∧ ((s.lease r).state = .held ∨ (s.lease r).state = .moving)
  acquire : ∀ e ∈ s.queue, e.kind ≠ .upgrade → ∀ r, s.Names e.handle r → (s.lease r).holders.mem e.master = false
  upgrade : ∀ e ∈ s.queue, e.kind = .upgrade → ∀ r, s.Names e.handle r →
    (s.lease r).mode = some .shared ∧ (s.lease r).holders.mem e.master = true ∧
      (s.lease r).holders ≠ MasterSet.single e.master
  head : ∀ r e, e ∈ (s.entriesFor (s.handle r)).tail → e.kind ≠ .upgrade
  passed : ∀ r, (s.lease r).grants (s.entriesFor (s.handle r)) = []

/-- The block map, its counts and the records agree (R13, R25, R26), and the block being scrubbed is SCRUB (R35). -/
structure State.PoolLaw (s : State) : Prop where
  free : ∀ r, (s.lease r).state = .free →
    (s.lease r).run = none ∧ (s.lease r).target = none ∧ (s.lease r).holders = 0
  live : ∀ r, (s.lease r).state ≠ .free →
    ∃ run, (s.lease r).run = some run ∧ 1 ≤ run.len ∧ run.len ≤ 256 ∧ run.base + run.len ≤ 512
  moving : ∀ r, (s.lease r).state = .moving →
    ∃ target, (s.lease r).target = some target ∧ (s.lease r).length < target.len ∧ target.len ≤ 256 ∧
      target.base + target.len ≤ 512
  still : ∀ r, (s.lease r).state ≠ .moving → (s.lease r).target = none
  runBlocks : ∀ r b, s.block b = some (.run r) ↔
    ∃ run, (s.lease r).run = some run ∧ run.base ≤ b ∧ b < run.base + run.len
  targetBlocks : ∀ r b, s.block b = some (.target r) ↔
    ∃ target, (s.lease r).target = some target ∧ target.base ≤ b ∧ b < target.base + target.len
  freeCount : s.pool.freeCount = s.pool.map.list.count .free
  scrubCount : s.pool.scrubCount = s.pool.map.list.count .scrub
  scrubbing : ∀ b, s.engine.step = some .scrub → s.engine.scrubber.block = some b → s.block b.val = some .scrub

/-- The memory engine keeps to its blocks, and every FREE block holds all zeros (R27, R36, R114, R116). -/
structure State.ZeroLaw (s : State) : Prop where
  pool : s.PoolLaw
  sram : s.SramLaw
  zero : ∀ b i, s.block b = some .free → i < 4096 → s.byteAt (b * 4096 + i) = 0
  filled : ∀ b i, s.engine.step = some .scrub → s.engine.scrubber.block = some b →
    i < s.engine.scrubber.burstsDone * 64 → s.byteAt (b.val * 4096 + i) = 0
  scrubBursts : s.engine.step = some .scrub → s.engine.scrubber.burstsDone < 64
  mover : ∀ r, s.engine.mover.record = some r → (s.lease r).state = .moving
  copying : s.engine.step = some .copy →
    ∃ r, s.engine.mover.record = some r ∧ s.engine.mover.blocksCopied < (s.lease r).length ∧
      s.engine.mover.burstsDone < 64
  cutCopy : ∀ source target burst, s.engine.step = some (.cutCopy source target burst) →
    s.block target = some .scrub ∧ burst < 64
  cutScrub : ∀ b burst, s.engine.step = some (.cutScrub b burst) → s.block b.val = some .scrub ∧ burst < 64
  oneMoving : s.MovingLaw

/-- What the mover has copied stands in the target run, and the blocks the move adds hold zeros (R115, R116). -/
structure State.MoveLaw (s : State) : Prop where
  zero : s.ZeroLaw
  copied : ∀ r i j, s.engine.mover.record = some r → i < s.engine.mover.blocksCopied → j < 4096 →
    s.byteAt ((s.lease r).targetBlock i * 4096 + j) = s.byteAt ((s.lease r).sourceBlock i * 4096 + j)
  copying : ∀ r j, s.engine.mover.record = some r → s.engine.step = some .copy →
    j < s.engine.mover.burstsDone * 64 →
    s.byteAt ((s.lease r).targetBlock s.engine.mover.blocksCopied * 4096 + j) =
      s.byteAt ((s.lease r).sourceBlock s.engine.mover.blocksCopied * 4096 + j)
  fits : ∀ r, s.engine.mover.record = some r → s.engine.mover.blocksCopied < (s.lease r).length
  added : ∀ r target b j, s.engine.mover.record = some r → (s.lease r).target = some target →
    target.base ≤ b → b < target.base + target.len → j < 4096 →
    (∀ i, i < (s.lease r).length → b ≠ (s.lease r).targetBlock i) → s.byteAt (b * 4096 + j) = 0

end Sys2Proof.Machine
end

