-- ==== Sys2Proof/Certificates/Slice0/Obligations.lean ====
section
/-! DEFINITION. Certificates/Slice0/Obligations.lean: the statements about the card, in the words of Safety.lean. The
first part is about the requests of the masters, in the order of the opcode table; then come the backplane, the
ticks, the memory engine, the supervisor, the link, and the laws every step keeps. -/

section Statements

open Sys2Proof Sys2Proof.Machine

/-! ### Steps and checks -/

/-- A step carries out the command at the front of the queue on the card with the queue's rest. On an empty queue
the card idles, which is the model's choice (log entry 6). -/
def Obligations.StepCarriesOutFrontCommand : Prop :=
  (∀ (s : State) (c : Instr) (rest : List Instr), s.pending = c :: rest →
    step s = exec c { s with pending := rest }) ∧
  ∀ s : State, s.pending = [] → step s = .next s

/-- R50, R157: a request other than OPEN of a CLOSED session is answered NO_SESSION and changes nothing; RENEW of an
open one renews it and is answered OK; an undefined code renews it and is answered BAD_ARG. -/
def Obligations.SessionCheckComesFirst : Prop :=
  (∀ (s : State) (m : Master) (q : Request), q ≠ .openSession → s.Takes m q → ¬ s.Open m →
    exec (takeOfRequest q) s = .next (s.done m .noSession 0 0)) ∧
  (∀ (s : State) (m : Master), s.Takes m .renew → s.Open m →
    exec .takeRenew s = .next ((s.renewed m).done m .ok 0 0)) ∧
  (∀ (s : State) (m : Master), s.Takes m .undefined → s.Open m →
    exec .takeUndefined s = .next ((s.renewed m).done m .badArg 0 0)) ∧
  requestOfCode 0 = .undefined

/-- R5: a handle that names no record is answered BAD_HANDLE, with the renewal of the session as its only effect;
for REVOKE it changes nothing. The handle of a live record, its generation times 64 plus its number (R4), names it. -/
def Obligations.StaleHandleIsRefused : Prop :=
  (∀ (s : State) (m : Master) (q : Request),
    q ∈ [Request.query, .mark, .retire, .acquire, .release, .convert, .resize, .bind] → s.Takes m q → s.Open m →
    (∀ r, ¬ s.Names (s.parameter m) r) →
    exec (takeOfRequest q) s = .next ((s.renewed m).done m .badHandle 0 0)) ∧
  (∀ s : State, s.TakesCommand .revoke → (∀ r, ¬ s.Names s.slot.parameter r) →
    exec .takeRevoke s = .next (s.commandDone .badHandle)) ∧
  ∀ (s : State) (r : RecordNo), (s.lease r).state ≠ .free →
    s.Names (s.handle r) r ∧ (s.handle r).toNat = (s.lease r).generation.val * 64 + r.val

/-- R156: a take from one master brings every other waiting master strictly nearer in the count, and leaves its
post as it was. -/
def Obligations.EveryTakeBringsAWaitingMasterNearer : Prop :=
  ∀ (s t : State) (m m' : Master) (q : Request), s.Takes m' q → m ≠ m' → (s.mailbox m).state = .pending →
    exec (takeOfRequest q) s = .next t →
    t.place m < s.place m ∧ (t.mailbox m).state = .pending ∧ (t.mailbox m).req = (s.mailbox m).req

/-! ### Sessions -/

/-- R48: OPEN checks the permission and then the term; a refused OPEN leaves a closed session as it was and renews an
open one; an OPEN that passes on a closed session opens it. R49: one that passes on an open session ends it with end
reason REOPENED, which takes away all its master's waits, holds and apertures, and opens it again with the new term;
it is answered REOPENED and sets neither SESSION_END nor LAPSE. A move of a lease its master held is abandoned with
reason SESSION_ENDED (R55, R124); a lease it held alone, HELD or MOVING, passes to the masters that wait to acquire it
(R56, R98), and with no waiters goes IDLE when kept and is FREE when not (R17); a lease it held SHARED with others, and
one whose head entry was its own, has the grant pass without it, and every other record is as it was (R54, R56). -/
def Obligations.OpenOpensOrReopens : Prop :=
  (∀ (s : State) (m : Master), s.Takes m .openSession →
    ((s.policy m).openAllowed = false → ¬ s.Open m → exec .takeOpen s = .next (s.done m .denied 0 0)) ∧
    ((s.policy m).openAllowed = false → s.Open m → exec .takeOpen s = .next ((s.renewed m).done m .denied 0 0)) ∧
    ((s.policy m).openAllowed = true → ((s.parameter m).toNat = 0 ∨ 4095 < (s.parameter m).toNat) → ¬ s.Open m →
      exec .takeOpen s = .next (s.done m .badArg 0 0)) ∧
    ((s.policy m).openAllowed = true → ((s.parameter m).toNat = 0 ∨ 4095 < (s.parameter m).toNat) → s.Open m →
      exec .takeOpen s = .next ((s.renewed m).done m .badArg 0 0)) ∧
    ((s.policy m).openAllowed = true → 1 ≤ (s.parameter m).toNat → (s.parameter m).toNat ≤ 4095 → ¬ s.Open m →
      exec .takeOpen s = .next
        (({ s with
            sessions := s.sessions.set m { s.session m with
              state := .opened, term := some (s.parameter m).toNat, remaining := (s.parameter m).toNat } } :
          State).done m .ok 0 0))) ∧
  ∀ (s : State) (m : Master), s.Takes m .openSession → s.Open m → (s.policy m).openAllowed = true →
    1 ≤ (s.parameter m).toNat → (s.parameter m).toNat ≤ 4095 → s.QueueLaw →
    ∃ t, exec .takeOpen s = .next t ∧ t.Ended s m ∧
      (t.session m).state = .opened ∧ (t.session m).term = some (s.parameter m).toNat ∧
      (t.session m).remaining = (s.parameter m).toNat ∧ (t.session m).endReason = .reopened ∧
      (t.mailbox m).Answered .reopened 0 0 ∧
      (t.mailbox m).events.getLsbD 4 = (s.mailbox m).events.getLsbD 4 ∧
      t.supervisor = s.supervisor ∧
      (∀ m', m' ≠ m →
        (t.session m').state = (s.session m').state ∧ (t.session m').remaining = (s.session m').remaining) ∧
      ∀ r, t.PassedOn s m r

/-- R52, R53, R57: CLOSE ends the session with end reason CLOSED: its master is left without waits, holds and apertures,
the term is kept, and no SESSION_END and no LAPSE is set. R55, R122, R124: the move of a MOVING lease it holds is
abandoned: the target run goes to SCRUB, the mover gives up the move, and the master gets an ABANDONED record with reason
SESSION_ENDED and the length of the old run, and MOVE_END. A lease it held alone, HELD or, now on its old run, MOVING,
passes to the masters that wait to acquire it (R56, R98, R99); with no waiters it goes IDLE when kept, and is FREE again
with its run in SCRUB when not (R17, R56). A lease it held SHARED with others stays with them, and the grant pass runs
without it, which may grant another's UPGRADE (R56). Its own wait entry goes without a record and without WAIT_END, and
when that was the head of its lease the grant pass runs on those behind (R54). Every other record is as it was. -/
def Obligations.CloseEndsTheSession : Prop :=
  ∀ (s : State) (m : Master), s.Takes m .close → s.Open m → s.QueueLaw →
    ∃ t, exec .takeClose s = .next t ∧ t.Ended s m ∧
      (t.session m).state = .closed ∧ (t.session m).remaining = 0 ∧ (t.session m).endReason = .closed ∧
      (t.session m).term = (s.session m).term ∧
      (t.mailbox m).Answered .ok 0 0 ∧
      (t.mailbox m).events.getLsbD 4 = (s.mailbox m).events.getLsbD 4 ∧
      t.supervisor = s.supervisor ∧
      ∀ r, t.PassedOn s m r

/-! ### Creating, finding and retiring -/

/-- R69, with R2, R3, R4 and R28: a CREATE that passes its checks takes the lowest-numbered FREE record and the run the
first-fit search chooses, and changes nothing else than R69 lists. -/
def Obligations.CreateMakesTheLease : Prop :=
  ∀ (s : State) (m : Master) (r : RecordNo) (g : Fin 1024) (dir : Direction) (base len : Nat),
    s.Takes m .create → s.Open m →
    (s.lease r).state = .free → (∀ r' : RecordNo, r'.val < r.val → (s.lease r').state ≠ .free) →
    (s.parameter m = 0 ∨ ∀ r', (s.lease r').state ≠ .free → (s.lease r').tag ≠ s.parameter m) →
    len = ((s.mailbox m).param1.extractLsb' 0 9).toNat → 1 ≤ len → len ≤ 256 →
    dir = (if (s.mailbox m).param1.getLsbD 16 then .down else .up) →
    (s.session m).ownedLeases + 1 ≤ (s.policy m).leaseQuota →
    s.committedBlocks m + len ≤ (s.policy m).blockQuota →
    s.Chosen dir len base →
    g.val = (if (s.lease r).generation.val = 0 ∨ (s.lease r).generation.val = 1023 then 1
      else (s.lease r).generation.val + 1) →
    exec .takeCreate s = .next
      (({ s with
          leases := s.leases.set r
            { state := .held, generation := g, tag := s.parameter m, owner := some m
              keep := (s.mailbox m).param1.getLsbD 17, isPublic := (s.mailbox m).param1.getLsbD 18
              direction := some dir, mode := some .exclusive, holders := MasterSet.single m
              run := some { base := base, len := len }, target := none, written := false }
          sessions := s.sessions.set m { s.renewedSession m with
            ownedLeases := (s.session m).ownedLeases + 1, ownedBlocks := (s.session m).ownedBlocks + len }
          pool := { s.pool with
            map := s.pool.map.setRun base len (.run r), freeCount := s.pool.freeCount - len }
          supervisor :=
            if s.pool.watermark ≤ s.pool.freeCount ∧ s.pool.freeCount - len < s.pool.watermark then
              { s.supervisor with flags := s.supervisor.flags ||| 0x02#6 }
            else s.supervisor } : State).done m .ok (BitVec.ofNat 32 (g.val * 64 + r.val)) 0)

/-- R64 to R68 and R30: the five checks of CREATE in their order, each with its answer; a refused CREATE changes nothing
but the session's renewal and, for NO_RECORD, TABLE_FULL. -/
def Obligations.CreateChecksInOrder : Prop :=
  ∀ (s : State) (m : Master) (len : Nat), s.Takes m .create → s.Open m →
    len = ((s.mailbox m).param1.extractLsb' 0 9).toNat →
    ((∀ r, (s.lease r).state ≠ .free) →
      exec .takeCreate s = .next
        (({ s.renewed m with
            supervisor := { s.supervisor with flags := s.supervisor.flags ||| 0x04#6 } } : State).done m .noRecord 0 0)) ∧
    ((∃ r, (s.lease r).state = .free) →
      (∀ r, s.parameter m ≠ 0 → (s.lease r).state ≠ .free → (s.lease r).tag = s.parameter m → s.TagLaw →
        exec .takeCreate s = .next ((s.renewed m).done m .conflict ((s.handle r).setWidth 32) 0)) ∧
      ((s.parameter m = 0 ∨ ∀ r', (s.lease r').state ≠ .free → (s.lease r').tag ≠ s.parameter m) →
        ((len = 0 ∨ 256 < len) → exec .takeCreate s = .next ((s.renewed m).done m .badArg 0 0)) ∧
        (1 ≤ len → len ≤ 256 →
          ((s.policy m).leaseQuota < (s.session m).ownedLeases + 1 →
            exec .takeCreate s = .next ((s.renewed m).done m .quota 0 1)) ∧
          ((s.session m).ownedLeases + 1 ≤ (s.policy m).leaseQuota →
            ((s.policy m).blockQuota < s.committedBlocks m + len →
              exec .takeCreate s = .next ((s.renewed m).done m .quota 0 2)) ∧
            (s.committedBlocks m + len ≤ (s.policy m).blockQuota → (∀ base, ¬ s.Fits base len) →
              exec .takeCreate s = .next
                ((s.renewed m).done m .noSpace 0 (BitVec.ofNat 32 s.pool.scrubCount)))))))

/-- R71, R72: FIND answers with the first record, from the start record on, that is not FREE and whose tag agrees with
the pattern under the mask; a start record above 39 is answered BAD_ARG, and no match NOT_FOUND. -/
def Obligations.FindAnswersTheFirstMatch : Prop :=
  ∀ (s : State) (m : Master) (start : Nat) (mask : BitVec 16), s.Takes m .find → s.Open m →
    start = ((s.mailbox m).param2.extractLsb' 0 8).toNat → mask = (s.mailbox m).param1.extractLsb' 0 16 →
    (39 < start → exec .takeFind s = .next ((s.renewed m).done m .badArg 0 0)) ∧
    (start ≤ 39 →
      (∀ r : RecordNo, start ≤ r.val → (s.lease r).state ≠ .free →
        (s.lease r).tag &&& mask = s.parameter m &&& mask →
        (∀ r' : RecordNo, start ≤ r'.val → r'.val < r.val → (s.lease r').state ≠ .free →
          (s.lease r').tag &&& mask ≠ s.parameter m &&& mask) →
        ∀ owner, (s.lease r).owner = some owner →
        exec .takeFind s = .next ((s.renewed m).done m .ok ((s.handle r).setWidth 32)
          (BitVec.ofNat 32 ((s.lease r).tag.toNat + owner.val * 2 ^ 16 + (s.lease r).state.code * 2 ^ 24)))) ∧
      ((∀ r' : RecordNo, start ≤ r'.val → (s.lease r').state ≠ .free →
          (s.lease r').tag &&& mask ≠ s.parameter m &&& mask) →
        exec .takeFind s = .next ((s.renewed m).done m .notFound 0 0)))

/-- R74, R75 with the layout of 10.2.4: QUERY reports the record and its waiter count, field by field, and changes
nothing but the session's renewal. -/
def Obligations.QueryReportsTheRecord : Prop :=
  ∀ (s : State) (m : Master) (r : RecordNo) (run : Run) (owner : Master) (dir : Direction),
    s.TakesOn m .query r → (s.lease r).run = some run → run.len ≤ 256 → (s.lease r).owner = some owner →
    (s.lease r).direction = some dir → (s.queue.filter fun e => e.handle == s.parameter m).length ≤ 11 →
    exec .takeQuery s = .next ((s.renewed m).done m .ok
      (BitVec.ofNat 32 ((s.lease r).holders.toNat + (s.lease r).state.code * 2 ^ 12 +
        modeCode (s.lease r).mode * 2 ^ 14 + owner.val * 2 ^ 16 + run.len * 2 ^ 20 +
        (if dir = .down then 2 ^ 29 else 0) + (if (s.lease r).keep then 2 ^ 30 else 0) +
        (if (s.lease r).isPublic then 2 ^ 31 else 0)))
      (BitVec.ofNat 32 ((s.lease r).tag.toNat + (if (s.lease r).written then 2 ^ 16 else 0) +
        (s.queue.filter fun e => e.handle == s.parameter m).length * 2 ^ 20)))

/-- R77, R78: MARK by the EXCLUSIVE holder of a lease that is not MOVING reports the written flag and clears it; any
other master is answered NOT_HOLDER, and the holder of a MOVING lease BUSY. -/
def Obligations.MarkReportsAndClearsWritten : Prop :=
  ∀ (s : State) (m : Master) (r : RecordNo), s.TakesOn m .mark r →
    (¬ ((s.lease r).holders.mem m = true ∧ (s.lease r).mode = some .exclusive) →
      exec .takeMark s = .next ((s.renewed m).done m .notHolder 0 0)) ∧
    ((s.lease r).holders.mem m = true → (s.lease r).mode = some .exclusive →
      ((s.lease r).state = .moving → exec .takeMark s = .next ((s.renewed m).done m .busy 0 0)) ∧
      ((s.lease r).state ≠ .moving →
        exec .takeMark s = .next
          (({ s.renewed m with leases := s.leases.set r { s.lease r with written := false } } : State).done m .ok
            (if (s.lease r).written then 1 else 0) 0)))

/-- R79: RETIRE is for the owner of a lease that is not MOVING and that no other master holds. R80, R20 to R22: it then
frees the record with its generation kept, sends the run to SCRUB, lowers the owner's counts, withdraws the waiters
with their records and unbinds the owner's apertures on the lease; no master gets a LOST notice. -/
def Obligations.RetireEndsTheLease : Prop :=
  ∀ (s : State) (m : Master) (r : RecordNo), s.TakesOn m .retire r →
    ((s.lease r).owner ≠ some m → exec .takeRetire s = .next ((s.renewed m).done m .notOwner 0 0)) ∧
    ((s.lease r).owner = some m →
      ((s.lease r).state = .moving → exec .takeRetire s = .next ((s.renewed m).done m .busy 0 0)) ∧
      ((s.lease r).state ≠ .moving → (s.lease r).state ≠ .idle → (s.lease r).holders ≠ MasterSet.single m →
        exec .takeRetire s = .next ((s.renewed m).done m .conflict 0 0)) ∧
      ∀ run, (s.lease r).state ≠ .moving → ((s.lease r).state = .idle ∨ (s.lease r).holders = MasterSet.single m) →
        (s.lease r).run = some run → s.QueueLaw →
        ∃ t, exec .takeRetire s = .next t ∧
          t.leases = s.leases.set r (Lease.freed (s.lease r).generation) ∧
          t.queue = s.queue.filter (fun e => e.handle != s.parameter m) ∧
          t.sessions = s.sessions.set m { s.renewedSession m with
            ownedLeases := (s.session m).ownedLeases - 1, ownedBlocks := (s.session m).ownedBlocks - run.len } ∧
          t.pool = { s.pool with
            map := s.pool.map.setRun run.base run.len .scrub, scrubCount := s.pool.scrubCount + run.len } ∧
          (∀ m' a, t.aperture m' a =
            if m' = m ∧ s.aperture m' a = .bound (s.parameter m) then .unbound else s.aperture m' a) ∧
          (t.mailbox m).Answered .ok 0 0 ∧
          (∀ m', (t.mailbox m').events.getLsbD 3 = (s.mailbox m').events.getLsbD 3) ∧
          (∀ e ∈ s.queue, e.handle = s.parameter m →
            (t.mailbox e.master).waitRecord =
                { handle := s.parameter m, mode := some e.kind.mode, result := some .withdrawn } ∧
              (t.mailbox e.master).events.getLsbD 1 = true) ∧
          (∀ m', m' ≠ m → (∀ e ∈ s.queue, e.handle = s.parameter m → e.master ≠ m') → t.mailbox m' = s.mailbox m'))

/-! ### Holding and waiting -/

/-- R86: an ACQUIRE that passes its checks is granted at once when the lease has no wait entries and is IDLE, or is HELD
SHARED with SHARED asked. R85: the checks of ACQUIRE after the handle. R87: an ACQUIRE that cannot be granted now is
answered WOULD_WAIT with wait limit 0, ALREADY_WAITING when its master has an entry, and otherwise queues behind every
entry. -/
def Obligations.AcquireGrantsQueuesOrRefuses : Prop :=
  (∀ (s : State) (m : Master) (r : RecordNo) (mode : Mode), s.TakesOn m .acquire r →
    ((s.lease r).owner = some m ∨ (s.lease r).isPublic = true) → (s.lease r).holders.mem m = false →
    ((s.mailbox m).param1.extractLsb' 0 2).toNat = modeCode (some mode) → s.NoWaiters (s.parameter m) →
    ((s.lease r).state = .idle →
      exec .takeAcquire s = .next
        (({ s.renewed m with
            leases := s.leases.set r { s.lease r with
              state := .held, holders := (s.lease r).holders.insert m, mode := some mode } } : State).done m .ok 0 0)) ∧
    ((s.lease r).state = .held → (s.lease r).mode = some .shared → mode = .shared →
      exec .takeAcquire s = .next
        (({ s.renewed m with
            leases := s.leases.set r { s.lease r with holders := (s.lease r).holders.insert m } } : State).done m .ok 0 0))) ∧
  ∀ (s : State) (m : Master) (r : RecordNo), s.TakesOn m .acquire r →
    ((s.lease r).owner ≠ some m → (s.lease r).isPublic = false →
      exec .takeAcquire s = .next ((s.renewed m).done m .notPermitted 0 0)) ∧
    (((s.lease r).owner = some m ∨ (s.lease r).isPublic = true) →
      ((s.lease r).holders.mem m = true → exec .takeAcquire s = .next ((s.renewed m).done m .conflict 0 0)) ∧
      ((s.lease r).holders.mem m = false →
        ((((s.mailbox m).param1.extractLsb' 0 2).toNat = 0 ∨ ((s.mailbox m).param1.extractLsb' 0 2).toNat = 3) →
          exec .takeAcquire s = .next ((s.renewed m).done m .badArg 0 0)) ∧
        ∀ mode limit, ((s.mailbox m).param1.extractLsb' 0 2).toNat = modeCode (some mode) →
          limit = ((s.mailbox m).param1.extractLsb' 16 12).toNat →
          (s.NoWaiters (s.parameter m) → (s.lease r).state ≠ .idle ∧
            ¬ ((s.lease r).state = .held ∧ (s.lease r).mode = some .shared ∧ mode = .shared)) →
          (limit = 0 → exec .takeAcquire s = .next ((s.renewed m).done m .wouldWait 0 0)) ∧
          (0 < limit →
            (∀ e ∈ s.queue, e.master = m → s.QueueLaw →
              exec .takeAcquire s = .next ((s.renewed m).done m .alreadyWaiting (e.handle.setWidth 32) 0)) ∧
            ((∀ e ∈ s.queue, e.master ≠ m) →
              exec .takeAcquire s = .next
                (({ s.renewed m with
                    queue := s.queue ++
                      [{ master := m, handle := s.parameter m
                         kind := (if mode = .exclusive then .acqExcl else .acqShared), remaining := limit }] } :
                  State).done m .queued
                  (BitVec.ofNat 32 (s.queue.filter fun e => e.handle == s.parameter m).length) 0)))))

/-- R89, R91, R17: RELEASE by a master that is no holder is refused. The last holder of a HELD lease with no waiters
leaves it IDLE when it is kept (ANSWER1 = 1) and FREE when it is not (ANSWER1 = 2); a sharer leaves it to the others
(ANSWER1 = 0). In each case the releaser's apertures on the lease become UNBOUND. R98, R99: with waiters, of whom the
releaser is none, the grant pass runs on the lease the releaser has left, and ANSWER0 is the number of entries it grants;
so a lease the releaser held alone passes to the masters that wait to acquire it. -/
def Obligations.ReleaseGivesUpTheHold : Prop :=
  (∀ (s : State) (m : Master) (r : RecordNo), s.TakesOn m .release r →
    ((s.lease r).holders.mem m = false → exec .takeRelease s = .next ((s.renewed m).done m .notHolder 0 0)) ∧
    ((s.lease r).holders.mem m = true → (s.lease r).state = .held → s.NoWaiters (s.parameter m) →
      ((s.lease r).holders ≠ MasterSet.single m →
        ∃ t, exec .takeRelease s = .next t ∧
          t.leases = s.leases.set r { s.lease r with holders := (s.lease r).holders.erase m } ∧
          (t.mailbox m).Answered .ok 0 0 ∧ t.queue = s.queue ∧ t.pool = s.pool ∧ t.OtherMailboxes s m ∧
          (∀ m' a, t.aperture m' a =
            if m' = m ∧ s.aperture m' a = .bound (s.parameter m) then .unbound else s.aperture m' a)) ∧
      ((s.lease r).holders = MasterSet.single m → (s.lease r).keep = true →
        ∃ t, exec .takeRelease s = .next t ∧
          t.leases = s.leases.set r { s.lease r with state := .idle, mode := none, holders := 0 } ∧
          (t.mailbox m).Answered .ok 0 1 ∧ t.queue = s.queue ∧ t.pool = s.pool ∧ t.OtherMailboxes s m ∧
          t.sessions = (s.renewed m).sessions ∧
          (∀ m' a, t.aperture m' a =
            if m' = m ∧ s.aperture m' a = .bound (s.parameter m) then .unbound else s.aperture m' a)) ∧
      (∀ run, (s.lease r).holders = MasterSet.single m → (s.lease r).keep = false → (s.lease r).run = some run →
        ∃ t, exec .takeRelease s = .next t ∧
          t.leases = s.leases.set r (Lease.freed (s.lease r).generation) ∧
          (t.mailbox m).Answered .ok 0 2 ∧ t.queue = s.queue ∧ t.OtherMailboxes s m ∧
          t.pool = { s.pool with
            map := s.pool.map.setRun run.base run.len .scrub, scrubCount := s.pool.scrubCount + run.len } ∧
          (∀ a, s.aperture m a = .bound (s.parameter m) → t.aperture m a = .unbound)))) ∧
  ∀ (s left : State) (m : Master) (r : RecordNo), s.TakesOn m .release r →
    (s.lease r).holders.mem m = true → (s.lease r).state = .held → s.QueueLaw →
    (∀ x ∈ s.queue, x.handle = s.parameter m → x.master ≠ m) →
    left = { s.renewed m with
      leases := s.leases.set r { s.lease r with
        holders := (s.lease r).holders.erase m
        mode := if (s.lease r).holders = MasterSet.single m then none else (s.lease r).mode }
      apertures := s.apertures.set m
        ((s.apertures.get m).map fun a => if a = .bound (s.parameter m) then .unbound else a) } →
    (((left.grantPass r).lease r).holders ≠ 0 →
      ∃ t, exec .takeRelease s = .next t ∧ (s.engine.step ≠ none → t.engine = s.engine) ∧
        t = { (left.grantPass r).done m .ok
                (BitVec.ofNat 32 (s.queue.length - (left.grantPass r).queue.length)) 0 with engine := t.engine }) ∧
    ∀ e rest, s.AwaitedFrom m r e rest →
      ∃ t, exec .takeRelease s = .next t ∧ t.HandedOn s r e rest ∧
        (t.mailbox m).Answered .ok (BitVec.ofNat 32 ((s.lease r).emptied.grants (e :: rest)).length) 0 ∧
        t.pool = s.pool ∧ t.sessions = (s.renewed m).sessions ∧
        (∀ r', r' ≠ r → t.lease r' = s.lease r') ∧
        (∀ m' a, t.aperture m' a =
          if m' = m ∧ s.aperture m' a = .bound (s.parameter m) then .unbound else s.aperture m' a)

/-- R89, R90, R91: a RELEASE of a SHARED lease that others hold too, with an UPGRADE entry at its head and any entries
behind. When the UPGRADE is the releaser's own, it is removed with a CANCELLED record and WAIT_END, and the one grant pass
finds the releaser and its entry gone: it grants the ACQ_SHARED entries that then head the lease, and none to an ACQ_EXCL
head (R98, R99). When it is another master's, that master becomes the EXCLUSIVE holder with a GRANTED record if it is the
only one left, and else nothing is granted. The lease stays HELD (ANSWER1 = 0), and ANSWER0 counts those granted. -/
def Obligations.ReleaseMeetsAnUpgrade : Prop :=
  ∀ (s : State) (m : Master) (r : RecordNo) (e : WaitEntry) (rest : List WaitEntry) (others : MasterSet),
    s.TakesOn m .release r → s.QueueLaw →
    (s.lease r).state = .held → (s.lease r).mode = some .shared → (s.lease r).holders.mem m = true →
    others = (s.lease r).holders.erase m → others ≠ 0 →
    s.queue.filter (fun x => x.handle == s.parameter m) = e :: rest → e.kind = .upgrade →
    (∀ x ∈ rest, x.master ≠ m) →
    ∃ t, exec .takeRelease s = .next t ∧
      (∀ r', r' ≠ r → t.lease r' = s.lease r') ∧ t.pool = s.pool ∧ t.sessions = (s.renewed m).sessions ∧
      (∀ m' a, t.aperture m' a =
        if m' = m ∧ s.aperture m' a = .bound (s.parameter m) then .unbound else s.aperture m' a) ∧
      (∀ x ∈ s.queue, x.handle ≠ s.parameter m → x ∈ t.queue) ∧
      (e.master = m →
        t.Passed r (s.parameter m) { s.lease r with holders := others } rest ∧ (∀ x ∈ t.queue, x.master ≠ m) ∧
        (t.mailbox m).Answered .ok
          (BitVec.ofNat 32 (Lease.grants { s.lease r with holders := others } rest).length) 0 ∧
        (t.mailbox m).waitRecord =
          { handle := s.parameter m, mode := some .exclusive, result := some .cancelled } ∧
        (t.mailbox m).events.getLsbD 1 = true ∧
        ∀ m', m' ≠ m → (∀ x ∈ Lease.grants { s.lease r with holders := others } rest, x.master ≠ m') →
          t.mailbox m' = s.mailbox m') ∧
      (e.master ≠ m →
        (others = MasterSet.single e.master →
          t.lease r = { s.lease r with holders := others, mode := some .exclusive } ∧
          t.queue = s.queue.filter (fun x => x.master != e.master) ∧ (t.mailbox m).Answered .ok 1 0 ∧
          (t.mailbox e.master).waitRecord =
            { handle := s.parameter m, mode := some .exclusive, result := some .granted } ∧
          (t.mailbox e.master).events.getLsbD 1 = true ∧
          ∀ m', m' ≠ m → m' ≠ e.master → t.mailbox m' = s.mailbox m') ∧
        (others ≠ MasterSet.single e.master →
          t.lease r = { s.lease r with holders := others } ∧ t.queue = s.queue ∧
          (t.mailbox m).Answered .ok 0 0 ∧ t.OtherMailboxes s m))

/-- R98, R99: what the grant pass of a lease grants: an UPGRADE head whose master holds alone, an ACQ_EXCL head of an
empty holder set, or an ACQ_SHARED head of a lease that is empty or SHARED with every ACQ_SHARED entry that follows it
without a break. It looks past no entry it does not grant, and each master granted gets its record. -/
def Obligations.GrantPassGrantsFromTheHead : Prop :=
  ∀ (s : State) (r : RecordNo) (e : WaitEntry) (rest : List WaitEntry), (s.lease r).state ≠ .moving → s.QueueLaw →
    s.queue.filter (fun x => x.handle == s.handle r) = e :: rest →
    (e.kind = .upgrade → (s.lease r).holders = MasterSet.single e.master →
      (s.grantPass r).leases = s.leases.set r { s.lease r with mode := some .exclusive } ∧
      (s.grantPass r).queue = s.queue.filter (fun x => x.master != e.master) ∧
      ((s.grantPass r).mailbox e.master).waitRecord =
        { handle := s.handle r, mode := some .exclusive, result := some .granted }) ∧
    (e.kind = .acqExcl → (s.lease r).holders = 0 →
      (s.grantPass r).leases = s.leases.set r { s.lease r with
        state := .held, holders := MasterSet.single e.master, mode := some .exclusive } ∧
      (s.grantPass r).queue = s.queue.filter (fun x => x.master != e.master) ∧
      ((s.grantPass r).mailbox e.master).waitRecord =
        { handle := s.handle r, mode := some .exclusive, result := some .granted }) ∧
    (e.kind = .acqShared → ((s.lease r).holders = 0 ∨ (s.lease r).mode = some .shared) →
      (∀ m, ((s.grantPass r).lease r).holders.mem m = true ↔
        (s.lease r).holders.mem m = true ∨
          ∃ x ∈ e :: rest.takeWhile (fun x => x.kind == .acqShared), x.master = m) ∧
      ((s.grantPass r).lease r).mode = some .shared ∧ ((s.grantPass r).lease r).state = .held ∧
      (s.grantPass r).queue = s.queue.filter
        (fun x => !((e :: rest.takeWhile fun x => x.kind == .acqShared).map fun x => x.master).contains x.master) ∧
      (∀ x ∈ e :: rest.takeWhile (fun x => x.kind == .acqShared),
        ((s.grantPass r).mailbox x.master).waitRecord =
            { handle := s.handle r, mode := some .shared, result := some .granted } ∧
          ((s.grantPass r).mailbox x.master).events.getLsbD 1 = true)) ∧
    ((e.kind = .upgrade ∧ (s.lease r).holders ≠ MasterSet.single e.master) ∨
        (e.kind = .acqExcl ∧ (s.lease r).holders ≠ 0) ∨
        (e.kind = .acqShared ∧ (s.lease r).holders ≠ 0 ∧ (s.lease r).mode ≠ some .shared) →
      s.grantPass r = s)

/-- R92 to R95: CONVERT by a master that is no holder, with an illegal mode code or on a MOVING lease is refused in that
order; to the mode held it changes nothing; to EXCLUSIVE by the sole SHARED holder it upgrades at once; with other
holders it is refused with CONFLICT, WOULD_WAIT or ALREADY_WAITING, or makes an UPGRADE entry immediately before the
first entry of the lease. -/
def Obligations.ConvertKeepsUpgradesOrQueues : Prop :=
  ∀ (s : State) (m : Master) (r : RecordNo) (code limit : Nat), s.TakesOn m .convert r →
    code = ((s.mailbox m).param1.extractLsb' 0 2).toNat → limit = ((s.mailbox m).param1.extractLsb' 16 12).toNat →
    ((s.lease r).holders.mem m = false → exec .takeConvert s = .next ((s.renewed m).done m .notHolder 0 0)) ∧
    ((s.lease r).holders.mem m = true →
      ((code = 0 ∨ code = 3) → exec .takeConvert s = .next ((s.renewed m).done m .badArg 0 0)) ∧
      ((code = 1 ∨ code = 2) → (s.lease r).state = .moving →
        exec .takeConvert s = .next ((s.renewed m).done m .busy 0 0)) ∧
      ((code = 1 ∨ code = 2) → (s.lease r).state ≠ .moving → modeCode (s.lease r).mode = code →
        exec .takeConvert s = .next ((s.renewed m).done m .ok 0 0)) ∧
      (code = 2 → (s.lease r).state ≠ .moving → (s.lease r).mode = some .shared →
        ((s.lease r).holders = MasterSet.single m →
          exec .takeConvert s = .next
            (({ s.renewed m with
                leases := s.leases.set r { s.lease r with mode := some .exclusive } } : State).done m .ok 0 0)) ∧
        ((s.lease r).holders ≠ MasterSet.single m →
          (∀ e rest, s.queue.filter (fun x => x.handle == s.parameter m && x.kind == .upgrade) = e :: rest →
            exec .takeConvert s = .next ((s.renewed m).done m .conflict (BitVec.ofNat 32 e.master.val) 0)) ∧
          ((∀ e ∈ s.queue, e.handle = s.parameter m → e.kind ≠ .upgrade) →
            (limit = 0 → exec .takeConvert s = .next ((s.renewed m).done m .wouldWait 0 0)) ∧
            (0 < limit →
              (∀ e ∈ s.queue, e.master = m → s.QueueLaw →
                exec .takeConvert s = .next ((s.renewed m).done m .alreadyWaiting (e.handle.setWidth 32) 0)) ∧
              (∀ before after, (∀ e ∈ s.queue, e.master ≠ m) → s.queue = before ++ after →
                (∀ e ∈ before, e.handle ≠ s.parameter m) →
                (∀ e, after.head? = some e → e.handle = s.parameter m) →
                exec .takeConvert s = .next
                  (({ s.renewed m with
                      queue := before ++
                        { master := m, handle := s.parameter m, kind := .upgrade, remaining := limit } :: after } :
                    State).done m .queued 0 0)))))))

/-- R93: a CONVERT to SHARED by the EXCLUSIVE holder makes the mode SHARED and runs the grant pass for the lease. -/
def Obligations.DowngradeRunsTheGrantPass : Prop :=
  ∀ (s : State) (m : Master) (r : RecordNo), s.TakesOn m .convert r →
    ((s.mailbox m).param1.extractLsb' 0 2).toNat = 1 → (s.lease r).state = .held →
    (s.lease r).mode = some .exclusive → (s.lease r).holders = MasterSet.single m → s.QueueLaw →
    (∀ e ∈ s.queue, e.handle = s.parameter m → e.kind ≠ .upgrade) →
    ∃ t, exec .takeConvert s = .next t ∧ (t.mailbox m).Answered .ok 0 0 ∧
      (t.lease r).mode = some .shared ∧ (t.lease r).state = .held ∧ (t.lease r).written = (s.lease r).written ∧
      (∀ m', (t.lease r).holders.mem m' = true ↔ m' = m ∨
        ∃ x ∈ (s.queue.filter fun x => x.handle == s.parameter m).takeWhile (fun x => x.kind == .acqShared),
          x.master = m') ∧
      (∀ r', r' ≠ r → t.lease r' = s.lease r') ∧ t.pool = s.pool ∧ t.apertures = s.apertures ∧
      t.sessions = (s.renewed m).sessions

/-- R96: CANCEL with no entry is answered NOT_WAITING and changes nothing; otherwise the entry goes without a record,
and the grant pass runs for its lease exactly when it was the head. -/
def Obligations.CancelWithdrawsTheEntry : Prop :=
  ∀ (s : State) (m : Master), s.Takes m .cancel → s.Open m → s.QueueLaw →
    ((∀ e ∈ s.queue, e.master ≠ m) → exec .takeCancel s = .next ((s.renewed m).done m .notWaiting 0 0)) ∧
    (∀ e r, e ∈ s.queue → e.master = m → s.Names e.handle r →
      ((s.queue.find? fun x => x.handle == e.handle) ≠ some e →
        exec .takeCancel s = .next
          (({ s.renewed m with queue := s.queue.filter fun x => x.master != m } : State).done m .ok
            (e.handle.setWidth 32) 0)) ∧
      ((s.queue.find? fun x => x.handle == e.handle) = some e →
        exec .takeCancel s = .next
          ((({ s.renewed m with queue := s.queue.filter fun x => x.master != m } : State).grantPass r).done m .ok
            (e.handle.setWidth 32) 0)))

/-! ### Resizing -/

/-- The engine after a happening that gave the scrubber work: a block step in flight goes on, and an idle engine with no
move in flight starts the scrubber on the lowest-numbered SCRUB block (R42, R43). -/
def ScrubWork (s t : State) : Prop :=
  (s.engine.step ≠ none → t.engine = s.engine) ∧
  (s.engine.step = none → s.engine.mover.record = none → ∀ b : Block, t.block b.val = some .scrub →
    (∀ b' : Block, b'.val < b.val → t.block b'.val ≠ some .scrub) → 0 < t.pool.scrubCount →
    t.engine = { s.engine with
      step := some .scrub, last := .scrubber, scrubber := { block := some b, burstsDone := 0 } })

/-- R108, R109, R33: a RESIZE to the present length changes nothing; a shrink sends the blocks at the growth end to SCRUB
and lowers the owner's block count, and leaves the written flag, mode, holders, waiters and apertures. -/
def Obligations.ResizeKeepsOrShrinks : Prop :=
  ∀ (s : State) (m owner : Master) (r : RecordNo) (dir : Direction) (run : Run) (len : Nat), s.TakesOn m .resize r →
    (s.lease r).holders.mem m = true → (s.lease r).mode = some .exclusive → (s.lease r).state ≠ .moving →
    len = ((s.mailbox m).param1.extractLsb' 0 9).toNat → 1 ≤ len → len ≤ 256 →
    (s.lease r).run = some run → (s.lease r).direction = some dir → (s.lease r).owner = some owner →
    (len = run.len → exec .takeResize s = .next ((s.renewed m).done m .ok (BitVec.ofNat 32 len) 0)) ∧
    (len < run.len →
      ∃ t, exec .takeResize s = .next t ∧ ScrubWork s t ∧
        t.leases = s.leases.set r { s.lease r with
          run := some { base := (if dir = .up then run.base else run.base + (run.len - len)), len := len } } ∧
        t.pool = { s.pool with
          map := s.pool.map.setRun (if dir = .up then run.base + len else run.base) (run.len - len) .scrub
          scrubCount := s.pool.scrubCount + (run.len - len) } ∧
        (t.session owner).ownedBlocks = (s.session owner).ownedBlocks - (run.len - len) ∧
        (t.session owner).ownedLeases = (s.session owner).ownedLeases ∧
        (∀ m', m' ≠ m → m' ≠ owner → t.session m' = s.session m') ∧
        (t.mailbox m).Answered .ok (BitVec.ofNat 32 len) 0 ∧ t.OtherMailboxes s m ∧
        t.queue = s.queue ∧ t.apertures = s.apertures ∧ t.sram = s.sram ∧ t.supervisor = s.supervisor)

/-- R111, R31, R110: a growth that the owner's quota allows and whose added blocks, beyond the growth end, lie in the
pool and are all FREE is made in place; POOL_LOW is set when the FREE count so falls below the watermark. -/
def Obligations.ResizeGrowsInPlace : Prop :=
  ∀ (s : State) (m owner : Master) (r : RecordNo) (dir : Direction) (run : Run) (len base : Nat),
    s.TakesOn m .resize r →
    (s.lease r).holders.mem m = true → (s.lease r).mode = some .exclusive → (s.lease r).state ≠ .moving →
    len = ((s.mailbox m).param1.extractLsb' 0 9).toNat → len ≤ 256 →
    (s.lease r).run = some run → (s.lease r).direction = some dir → (s.lease r).owner = some owner →
    run.len < len → s.committedBlocks owner + (len - run.len) ≤ (s.policy owner).blockQuota →
    (match dir with
      | .up => base = run.base + run.len
      | .down => base + (len - run.len) = run.base) →
    s.Fits base (len - run.len) →
    exec .takeResize s = .next
      (({ s.renewed m with
          leases := s.leases.set r { s.lease r with
            run := some { base := (if dir = .up then run.base else base), len := len } }
          sessions := (s.renewed m).sessions.set owner { (s.renewed m).session owner with
            ownedBlocks := (s.session owner).ownedBlocks + (len - run.len) }
          pool := { s.pool with
            map := s.pool.map.setRun base (len - run.len) (.run r)
            freeCount := s.pool.freeCount - (len - run.len) }
          supervisor :=
            if s.pool.watermark ≤ s.pool.freeCount ∧ s.pool.freeCount - (len - run.len) < s.pool.watermark then
              { s.supervisor with flags := s.supervisor.flags ||| 0x02#6 }
            else s.supervisor } : State).done m .ok (BitVec.ofNat 32 len) 0)

/-- R113, R32: a growth that cannot be in place, with the mover idle and a target run found, starts a move: the target
run becomes TARGET, the record MOVING, the mover takes the move and an idle engine with nothing to scrub starts its
first block step; the answer is STARTED with the old and the new length. -/
def Obligations.ResizeStartsAMove : Prop :=
  ∀ (s : State) (m owner : Master) (r : RecordNo) (dir : Direction) (run : Run) (len base : Nat),
    s.TakesOn m .resize r →
    (s.lease r).holders.mem m = true → (s.lease r).mode = some .exclusive →
    (∀ r', (s.lease r').state ≠ .moving) →
    len = ((s.mailbox m).param1.extractLsb' 0 9).toNat → len ≤ 256 →
    (s.lease r).run = some run → (s.lease r).direction = some dir → (s.lease r).owner = some owner →
    1 ≤ run.len → run.len < len → s.committedBlocks owner + (len - run.len) ≤ (s.policy owner).blockQuota →
    (match dir with
      | .up => ¬ s.Fits (run.base + run.len) (len - run.len)
      | .down => ∀ b, b + (len - run.len) = run.base → ¬ s.Fits b (len - run.len)) →
    s.Chosen dir len base →
    ∃ t, exec .takeResize s = .next t ∧
      t.leases = s.leases.set r { s.lease r with
        state := .moving, target := some { base := base, len := len } } ∧
      t.pool = { s.pool with
        map := s.pool.map.setRun base len (.target r), freeCount := s.pool.freeCount - len } ∧
      t.supervisor =
        (if s.pool.watermark ≤ s.pool.freeCount ∧ s.pool.freeCount - len < s.pool.watermark then
          { s.supervisor with flags := s.supervisor.flags ||| 0x02#6 }
        else s.supervisor) ∧
      t.engine.mover = { record := some r, blocksCopied := 0, burstsDone := 0 } ∧
      (s.engine.step ≠ none → t.engine.step = s.engine.step ∧ t.engine.last = s.engine.last) ∧
      (s.engine.step = none → s.pool.scrubCount = 0 → t.engine.step = some .copy ∧ t.engine.last = .mover) ∧
      t.engine.scrubber.block = (if s.engine.step = none ∧ 0 < s.pool.scrubCount ∧ s.engine.last = .mover then
        t.pool.lowestScrub.or s.engine.scrubber.block else s.engine.scrubber.block) ∧
      (t.mailbox m).Answered .started (BitVec.ofNat 32 run.len) (BitVec.ofNat 32 len) ∧ t.OtherMailboxes s m ∧
      t.sessions = (s.renewed m).sessions ∧ t.queue = s.queue ∧ t.apertures = s.apertures ∧ t.sram = s.sram

/-- R106, R107, R110, R112: the checks of RESIZE after the handle, each with its answer words. -/
def Obligations.ResizeChecksInOrder : Prop :=
  ∀ (s : State) (m owner : Master) (r : RecordNo) (dir : Direction) (run : Run) (len : Nat), s.TakesOn m .resize r →
    len = ((s.mailbox m).param1.extractLsb' 0 9).toNat →
    (s.lease r).run = some run → (s.lease r).direction = some dir → (s.lease r).owner = some owner →
    (¬ ((s.lease r).holders.mem m = true ∧ (s.lease r).mode = some .exclusive) →
      exec .takeResize s = .next ((s.renewed m).done m .notHolder 0 0)) ∧
    ((s.lease r).holders.mem m = true → (s.lease r).mode = some .exclusive →
      ((s.lease r).state = .moving →
        exec .takeResize s = .next ((s.renewed m).done m .busy ((s.parameter m).setWidth 32) 0)) ∧
      ((s.lease r).state ≠ .moving →
        ((len = 0 ∨ 256 < len) → exec .takeResize s = .next ((s.renewed m).done m .badArg 0 0)) ∧
        (len ≤ 256 → run.len < len →
          ((s.policy owner).blockQuota < s.committedBlocks owner + (len - run.len) →
            exec .takeResize s = .next ((s.renewed m).done m .quota 0 2)) ∧
          (s.committedBlocks owner + (len - run.len) ≤ (s.policy owner).blockQuota →
            (match dir with
              | .up => ¬ s.Fits (run.base + run.len) (len - run.len)
              | .down => ∀ b, b + (len - run.len) = run.base → ¬ s.Fits b (len - run.len)) →
            (∀ other, (s.lease other).state = .moving → s.MovingLaw →
              exec .takeResize s = .next ((s.renewed m).done m .busy ((s.handle other).setWidth 32) 0)) ∧
            ((∀ other, (s.lease other).state ≠ .moving) → (∀ base, ¬ s.Fits base len) →
              exec .takeResize s = .next
                ((s.renewed m).done m .noSpace 0 (BitVec.ofNat 32 s.pool.scrubCount)))))))

/-! ### Apertures -/

/-- R131, R132, R133: BIND by a holder replaces what the aperture held, UNBIND empties it, and both answer what it held
before; BIND by any other master is answered NOT_HOLDER. -/
def Obligations.BindAndUnbindReplaceTheAperture : Prop :=
  ∀ (s : State) (m : Master) (a : ApertureNo) (word0 word1 : Word),
    ((s.mailbox m).param1.extractLsb' 0 2).toNat = a.val →
    (match s.aperture m a with
      | .unbound => word0 = 0 ∧ word1 = 0
      | .bound h => word0 = h.setWidth 32 ∧ word1 = 1
      | .lost h _ => word0 = h.setWidth 32 ∧ word1 = 2) →
    (∀ r, s.TakesOn m .bind r → (s.lease r).holders.mem m = false →
      exec .takeBind s = .next ((s.renewed m).done m .notHolder 0 0)) ∧
    (∀ r, s.TakesOn m .bind r → (s.lease r).holders.mem m = true →
      exec .takeBind s = .next
        (({ s.renewed m with
            apertures := s.apertures.set m ((s.apertures.get m).set a (.bound (s.parameter m))) } : State).done m .ok
          word0 word1)) ∧
    (s.Takes m .unbind → s.Open m →
      exec .takeUnbind s = .next
        (({ s.renewed m with
            apertures := s.apertures.set m ((s.apertures.get m).set a .unbound) } : State).done m .ok word0 word1))

/-! ### The control space -/

/-- R151, R152, R191: a write to REQ posts a request, and a write to PARAM1 or PARAM2 is stored whole, while the mailbox
is IDLE or DONE; while it is PENDING each is dropped and sets REQUEST_LOST. That the field for the data lines holds zeros
after a write is the model's choice (log entry 14). -/
def Obligations.MailboxWritesPostOrAreDropped : Prop :=
  ∀ (s : State) (m : Master) (value : Word),
    ((s.mailbox m).state ≠ .pending →
      exec (.reqWrite m value) s = .next
        { s with
          mailboxes := s.mailboxes.set m { s.mailbox m with
            req := value, answer0 := 0, answer1 := 0, answer := .none, state := .pending }
          busAnswer := some { response := .ack, lanes := 0 } } ∧
      exec (.paramWrite m .param1 value) s = .next
        { s with
          mailboxes := s.mailboxes.set m { s.mailbox m with param1 := value }
          busAnswer := some { response := .ack, lanes := 0 } } ∧
      exec (.paramWrite m .param2 value) s = .next
        { s with
          mailboxes := s.mailboxes.set m { s.mailbox m with param2 := value }
          busAnswer := some { response := .ack, lanes := 0 } }) ∧
    ((s.mailbox m).state = .pending →
      ∀ c ∈ [Instr.reqWrite m value, .paramWrite m .param1 value, .paramWrite m .param2 value],
        exec c s = .next
          { s with
            mailboxes := s.mailboxes.set m { s.mailbox m with events := (s.mailbox m).events ||| 0x80#8 }
            busAnswer := some { response := .ack, lanes := 0 } })

/-- R161, R162, R163, R191: a write to EVENTS keeps exactly the flags that are set and written 1, and one that clears
LOST empties the LOST record; a write to EVENT_ENABLE stores its low byte. ATN of the master then follows whether a
flag is set with its enable; the other masters' mailboxes and lines are as they were. That the field for the data lines
holds zeros after a write is the model's choice (log entry 14). -/
def Obligations.EventWritesDriveAttention : Prop :=
  ∀ (s : State) (m : Master) (value : Word),
    (∃ t, exec (.eventsWrite m value) s = .next t ∧
      (∀ k, k < 8 → (t.mailbox m).events.getLsbD k = ((s.mailbox m).events.getLsbD k && value.getLsbD k)) ∧
      (t.mailbox m).lostRecord =
        (if value.getLsbD 3 then (s.mailbox m).lostRecord else { handle := 0, count := 0 }) ∧
      t = { s with
        mailboxes := s.mailboxes.set m { s.mailbox m with
          events := (t.mailbox m).events, lostRecord := (t.mailbox m).lostRecord }
        busAnswer := some { response := .ack, lanes := 0 } } ∧
      (t.atn m = true ↔ ∃ k, k < 8 ∧ (t.mailbox m).events.getLsbD k = true ∧ (t.mailbox m).enables.getLsbD k = true) ∧
      ∀ m', m' ≠ m → t.atn m' = s.atn m') ∧
    (∃ t, exec (.eventEnableWrite m value) s = .next t ∧
      (∀ k, k < 8 → (t.mailbox m).enables.getLsbD k = value.getLsbD k) ∧
      t = { s with
        mailboxes := s.mailboxes.set m { s.mailbox m with enables := (t.mailbox m).enables }
        busAnswer := some { response := .ack, lanes := 0 } } ∧
      (t.atn m = true ↔ ∃ k, k < 8 ∧ (s.mailbox m).events.getLsbD k = true ∧ value.getLsbD k = true) ∧
      ∀ m', m' ≠ m → t.atn m' = s.atn m')

/-- R148, R149: an aligned word write to a word of the control space that software may not write is answered ACK and
changes nothing; a control-space access of a master number of 12 to 15, of a byte or halfword, or misaligned is answered
ERROR and changes nothing. R189 gives zeros on the lines to a read answered ERROR; that the field for the data lines
holds zeros after a write, ACK or ERROR, is the model's choice (log entry 14). -/
def Obligations.ControlSpaceIgnoresOrRefuses : Prop :=
  (∀ (s : State) (m : Master) (offset : BitVec 22) (value : Word), offset.toNat % 4 = 0 →
    offset.toNat ∉ [0x000, 0x004, 0x008, 0x018, 0x01C] →
    exec (.registerWriteIgnored (.control m offset value)) s = .next
      { s with busAnswer := some { response := .ack, lanes := 0 } }) ∧
  ∀ (s : State) (master : BitVec 4) (address : BitVec 32) (dir : AccessDir) (width : Width),
    address.extractLsb' 23 9 = s.jumpers.base → address.getLsbD 22 = true →
    (12 ≤ master.toNat ∨ width ≠ .word ∨ address.toNat % 4 ≠ 0) →
    exec (.controlAccessError master address dir width) s = .next
      { s with busAnswer := some { response := .error, lanes := 0 } }

/-! ### The data window -/

/-- R143, R188, R10: a read that passes its checks when the SRAM port serves it, at once with no burst in flight (R44),
is answered ACK with the bytes of the lease at its offset, each in the lane of its offset and zeros in the other lanes,
and changes nothing. -/
def Obligations.DataReadReturnsTheLease : Prop :=
  ∀ (s : State) (master : BitVec 4) (address : BitVec 32) (width : Width) (m : Master) (r : RecordNo) (a : Nat),
    s.Reaches master address width m r a →
    ∃ lanes,
      s.serve { master := master, address := address, dir := .read, width := width, lanes := 0 } =
        { s with busAnswer := some { response := .ack, lanes := lanes } } ∧
      (s.engine.step = none → exec (.dataRead master address width) s = .next
        { s with busAnswer := some { response := .ack, lanes := lanes } }) ∧
      ∀ j, j < 4 → (lanes.extractLsb' (8 * j) 8 : Byte) =
        if offsetOf address % 4 ≤ j ∧ j < offsetOf address % 4 + widthBytes width then
          s.byteAt (a + (j - offsetOf address % 4)) else 0

/-- R143, R144, R188: a write that passes its checks when the SRAM port serves it, at once with no burst in flight (R44),
of the EXCLUSIVE holder of a lease that is not MOVING, stores the bytes of its lanes, leaves every other byte, sets the
written flag and is answered ACK (with zeros in the field for the data lines, which is the model's choice, log entry
14). -/
def Obligations.DataWriteStoresInTheLease : Prop :=
  ∀ (s : State) (master : BitVec 4) (address : BitVec 32) (width : Width) (lanes : Word) (m : Master) (r : RecordNo)
    (a : Nat), s.Reaches master address width m r a → (s.lease r).mode = some .exclusive →
    (s.lease r).state ≠ .moving → s.SramLaw →
    ∃ t, s.serve { master := master, address := address, dir := .write, width := width, lanes := lanes } = t ∧
      (s.engine.step = none → exec (.dataWrite master address width lanes) s = .next t) ∧
      t = { s with
        sram := t.sram
        leases := s.leases.set r { s.lease r with written := true }
        busAnswer := some { response := .ack, lanes := 0 } } ∧
      ∀ x, t.byteAt x =
        if a ≤ x ∧ x < a + widthBytes width then lanes.extractLsb' (8 * (offsetOf address % 4 + (x - a))) 8
        else s.byteAt x

/-- R138 to R142, R145, R189: the checks of a data access in their order. A master number of 12 to 15 is answered ERROR
and nothing else happens; an UNBOUND or LOST aperture, a misaligned or invalid offset, and a write to a SHARED lease
are answered ERROR with the fault recorded; a write to a MOVING lease is answered RETRY and changes nothing. Each holds
of the access as the SRAM port serves it, and of the command with no burst in flight (R44). That the field for the data
lines holds zeros after a write is the model's choice (log entry 14). -/
def Obligations.DataAccessIsRefusedInOrder : Prop :=
  ∀ (s t : State) (x : Transfer),
    ((s.InDataWindow x.address ∧ 12 ≤ x.master.toNat ∧
        t = { s with busAnswer := some { response := .error, lanes := 0 } }) ∨
      (∃ m, s.Meets x.master x.address m .unbound ∧ t = s.faulted m (faultOf x.address x.dir x.width .unbound)) ∨
      (∃ m h reason, s.Meets x.master x.address m (.lost h reason) ∧
        t = s.faulted m (faultOf x.address x.dir x.width .lost)) ∨
      (∃ m h r, s.Meets x.master x.address m (.bound h) ∧ s.Names h r ∧
        (offsetOf x.address % widthBytes x.width ≠ 0 ∨ ∀ a, ¬ (s.lease r).Reaches (offsetOf x.address) a) ∧
        t = s.faulted m (faultOf x.address x.dir x.width .range)) ∨
      (∃ m r a, s.Reaches x.master x.address x.width m r a ∧ x.dir = .write ∧ (s.lease r).mode ≠ some .exclusive ∧
        t = s.faulted m (faultOf x.address x.dir x.width .rights)) ∨
      ∃ m r a, s.Reaches x.master x.address x.width m r a ∧ x.dir = .write ∧ (s.lease r).mode = some .exclusive ∧
        (s.lease r).state = .moving ∧ t = { s with busAnswer := some { response := .retry, lanes := 0 } }) →
    s.serve x = t ∧ (s.engine.step = none → exec (dataCommand x) s = .next t)

/-! ### Ticks -/

/-- R46, R47, R100: a tick makes the countdown of the session table and that of the wait queue come due, and the next
period has the length of the code held (that the two stay due until they are taken is the model's reading, log entry
4). A countdown that takes no session to 0 lowers the open ones by one, and a countdown that takes no entry to 0 lowers
every entry by one; nothing else changes. -/
def Obligations.TickCountsDown : Prop :=
  (∀ s : State, exec .tick s = .next
    { s with ticks := { s.ticks with
        running := s.ticks.code, sessionDue := s.ticks.sessionDue + 1, queueDue := s.ticks.queueDue + 1 } }) ∧
  (∀ s : State, 0 < s.ticks.sessionDue → (∀ m, s.Open m → 2 ≤ (s.session m).remaining) →
    ∃ t, exec .sessionCountdown s = .next t ∧
      (∀ m, s.Open m → t.session m = { s.session m with remaining := (s.session m).remaining - 1 }) ∧
      (∀ m, ¬ s.Open m → t.session m = s.session m) ∧
      t = { s with
        sessions := t.sessions, ticks := { s.ticks with sessionDue := s.ticks.sessionDue - 1 } }) ∧
  ∀ s : State, 0 < s.ticks.queueDue → (∀ e ∈ s.queue, 2 ≤ e.remaining) →
    exec .waitQueueCountdown s = .next
      { s with
        queue := s.queue.map fun e => { e with remaining := e.remaining - 1 }
        ticks := { s.ticks with queueDue := s.ticks.queueDue - 1 } }

/-- R47, R57: every open session whose count reaches 0 at a tick lapses in that happening: its master is left without
waits, holds and apertures, the end reason is LAPSED, and SESSION_END and LAPSE are set; every other open session
stays open with its count one lower. A move of a lease that a lapsing master held is abandoned with reason SESSION_ENDED
(R55, R124); a lease it held alone, HELD or MOVING, with no waiters goes IDLE when kept and is FREE when not (R17). A
record that no other lapsing master holds or waits for passes on as at any ending: to those that wait to acquire a lease
held alone, and to the others that hold a SHARED one or stand behind its entry, by the grant pass (R54, R56, R98). That the two rows SESSION_LAPSE and SESSION_COUNTDOWN carry out this one happening, with
the same next state, and the count of countdowns due, are the model's reading (log entry 4). -/
def Obligations.LapseEndsTheSession : Prop :=
  ∀ (s : State), 0 < s.ticks.sessionDue → s.QueueLaw → (∃ m, s.Open m ∧ (s.session m).remaining = 1) →
    ∃ t, exec .sessionLapse s = .next t ∧ exec .sessionCountdown s = .next t ∧
      (∀ m, s.Open m → (s.session m).remaining = 1 →
        t.Ended s m ∧ (t.session m).state = .closed ∧ (t.session m).remaining = 0 ∧
        (t.session m).endReason = .lapsed ∧ (t.session m).term = (s.session m).term ∧
        (t.mailbox m).events.getLsbD 4 = true) ∧
      (∀ m, s.Open m → 2 ≤ (s.session m).remaining →
        (t.session m).state = .opened ∧ (t.session m).remaining = (s.session m).remaining - 1 ∧
        (t.session m).endReason = (s.session m).endReason) ∧
      (∀ m r, s.Open m → (s.session m).remaining = 1 →
        (∀ m', m' ≠ m → s.Open m' →
          ((s.lease r).holders.mem m' = true ∨ ∃ x ∈ s.queue, x.handle = s.handle r ∧ x.master = m') →
          2 ≤ (s.session m').remaining) →
        t.PassedOn s m r) ∧
      t.supervisor.flags = s.supervisor.flags ||| 0x01#6 ∧ t.ticks.sessionDue = s.ticks.sessionDue - 1

/-- R100, R101: every entry whose count reaches 0 at a tick is timed out before any grant pass runs: it leaves the queue,
its master gets a TIMED_OUT record with the mode asked for and WAIT_END, and it is granted nothing; no holder leaves
a lease. The grant pass then runs for each lease whose head was so removed: of the entries that still count, each one
lower, it grants what R98 gives, with the records of R99, and the others keep waiting. A lease whose head still counts,
and one that is MOVING (R97), keeps its holders and its entries. That the two rows WAIT_TIMEOUT and WAIT_QUEUE_COUNTDOWN
carry out this one happening, with the same next state, and the count of countdowns due, are the model's reading (log
entry 4). -/
def Obligations.TimeoutEndsTheWait : Prop :=
  ∀ (s : State), 0 < s.ticks.queueDue → s.QueueLaw → (∃ e ∈ s.queue, e.remaining = 1) →
    ∃ t, exec .waitTimeout s = .next t ∧ exec .waitQueueCountdown s = .next t ∧
      (∀ e ∈ s.queue, e.remaining = 1 →
        (∀ x ∈ t.queue, x.master ≠ e.master) ∧
        (t.mailbox e.master).waitRecord =
          { handle := e.handle, mode := some e.kind.mode, result := some .timedOut } ∧
        (t.mailbox e.master).events.getLsbD 1 = true ∧
        ∀ r, (t.lease r).holders.mem e.master = (s.lease r).holders.mem e.master) ∧
      (∀ e ∈ s.queue, 2 ≤ e.remaining →
        { e with remaining := e.remaining - 1 } ∈ t.queue ∨
          (t.mailbox e.master).waitRecord =
            { handle := e.handle, mode := some e.kind.mode, result := some .granted }) ∧
      (∀ r head others, (s.lease r).state = .held →
        s.queue.filter (fun x => x.handle == s.handle r) = head :: others → head.remaining ≤ 1 →
        t.Passed r (s.handle r) (s.lease r)
          ((others.filter fun x => 2 ≤ x.remaining).map fun x => { x with remaining := x.remaining - 1 })) ∧
      (∀ r, (s.lease r).state = .moving ∨ (s.lease r).state = .free ∨
          (∀ head, s.queue.find? (fun x => x.handle == s.handle r) = some head → 2 ≤ head.remaining) →
        t.lease r = s.lease r ∧
          ∀ e ∈ s.queue, e.handle = s.handle r → 2 ≤ e.remaining → { e with remaining := e.remaining - 1 } ∈ t.queue) ∧
      (∀ r m, (s.lease r).holders.mem m = true → (t.lease r).holders.mem m = true) ∧
      t = { s with
        leases := t.leases, queue := t.queue, mailboxes := t.mailboxes
        ticks := { s.ticks with queueDue := s.ticks.queueDue - 1 } }

/-! ### The memory engine -/

/-- R42: when a block step ends the engine chooses the next: with work for both clients the one that did not have the
last, with work for one that one, and with none it goes idle; the scrubber takes the lowest-numbered SCRUB block
(R35). R44, R137: a data access that reaches the SRAM port with no block step current is served at once; with a burst in
flight (log entry 8) it waits and changes nothing else; and the end of a burst serves the access that waits, in the card
as that end leaves it and before the next burst, so that the next access waits for the end of a further burst. -/
def Obligations.EngineAndPortTakeTurns : Prop :=
  (∀ s : State,
    (s.MoverHasWork → (s.pool.scrubCount = 0 ∨ s.engine.last = .scrubber) →
      s.chooseStep = { s with engine := { s.engine with
        step := some .copy, last := .mover, mover := { s.engine.mover with burstsDone := 0 } } }) ∧
    (0 < s.pool.scrubCount → (¬ s.MoverHasWork ∨ s.engine.last = .mover) → ∀ b, s.LowestScrub b →
      s.chooseStep = { s with engine := { s.engine with
        step := some .scrub, last := .scrubber, scrubber := { block := some b, burstsDone := 0 } } }) ∧
    (¬ s.MoverHasWork → s.pool.scrubCount = 0 →
      s.chooseStep = { s with engine := { s.engine with step := none } })) ∧
  (∀ (s : State) (x : Transfer), s.InDataWindow x.address → (x.dir = .read → x.lanes = 0) →
    (s.engine.step = none → exec (dataCommand x) s = .next (s.serve x)) ∧
    (s.engine.step ≠ none → s.portWait = none → exec (dataCommand x) s = .next { s with portWait := some x })) ∧
  ∀ (s t : State) (x : Transfer), s.portWait = some x → ∀ c ∈ burstEnds,
    exec c { s with portWait := none } = .next t → t ≠ { s with portWait := none } →
    exec c s = .next (t.serve x) ∧ (t.serve x).portWait = none ∧ (t.serve x).engine = t.engine

/-- R35, R36, R39: burst k of the scrubber's block fills its 64 bytes with zeros; the 64th makes the block FREE and sets
pool-ready and POOL_READY the first time the SCRUB count is 0, and the engine chooses its next step. A burst of a step
that RESET-ALL cut short ends without making a block FREE (R40). R36 makes the current block absent after the 64th burst;
that bursts done is then 0 is the model's choice (log entry 11), and that a burst's 64 bytes change together at its end is
its reading (log entry 5). With a data access waiting at the port, EngineAndPortTakeTurns gives the rest. -/
def Obligations.ScrubberFillsAndFreesItsBlock : Prop :=
  ∀ (s : State) (b : Block) (k : Nat), k < 64 → s.portWait = none →
    (s.engine.step = some .scrub → s.engine.scrubber.block = some b → s.engine.scrubber.burstsDone = k →
      (k < 63 → ∃ t, exec .scrubBurstEnd s = .next t ∧ t.Zeroed s (b.val * 4096 + k * 64) ∧
        t = { s with
          sram := t.sram
          engine := { s.engine with scrubber := { block := some b, burstsDone := k + 1 } } }) ∧
      (k = 63 → ∃ t, exec .scrubBlockStepEnd s = .next t ∧ t.Zeroed s (b.val * 4096 + 4032) ∧
        t = { s with
          sram := t.sram
          pool := { s.pool with
            map := s.pool.map.set b .free, freeCount := s.pool.freeCount + 1, scrubCount := s.pool.scrubCount - 1
            ready := s.pool.ready || decide (s.pool.scrubCount ≤ 1) }
          supervisor :=
            if s.pool.ready = false ∧ s.pool.scrubCount ≤ 1 then
              { s.supervisor with flags := s.supervisor.flags ||| 0x08#6 }
            else s.supervisor
          engine := t.engine } ∧
        t.engine = (State.chooseStep { t with
          engine := { s.engine with scrubber := { block := none, burstsDone := 0 } } }).engine)) ∧
    (s.engine.step = some (.cutScrub b k) →
      ∃ t, exec (if k < 63 then .scrubBurstEnd else .scrubBlockStepEnd) s = .next t ∧
        t.Zeroed s (b.val * 4096 + k * 64) ∧
        t = { s with sram := t.sram, engine := s.chooseStep.engine })

/-- R115, R116: copy burst k of block step i + 1 copies bytes k × 64 to k × 64 + 63 of block B + i of the run to the same
bytes of the paired block of the target run; the 64th of a step other than the last ends the step, and the engine
chooses. The burst of an abandoned move, whose record is MOVING no longer, copies its 64 bytes, changes no item of the
mover and ends the step, and the engine chooses (R43). That a burst's 64 bytes change together at its end is the model's
reading (log entry 5). With a data access waiting at the port, EngineAndPortTakeTurns gives the rest. -/
def Obligations.MoverCopiesPairedBlocks : Prop :=
  (∀ (s : State) (r : RecordNo) (run target : Run) (dir : Direction) (i k pair : Nat), s.SramLaw → s.portWait = none →
    (s.lease r).run = some run → (s.lease r).target = some target → (s.lease r).direction = some dir →
    pair = pairedBlock dir run target i →
    s.engine.step = some .copy → s.engine.mover = { record := some r, blocksCopied := i, burstsDone := k } →
      (k < 63 → ∃ t, exec .copyBurstEnd s = .next t ∧
        t.Copied s ((run.base + i) * 4096 + k * 64) (pair * 4096 + k * 64) ∧
        t = { s with
          sram := t.sram
          engine := { s.engine with mover := { record := some r, blocksCopied := i, burstsDone := k + 1 } } }) ∧
      (k = 63 → i + 1 < run.len → ∃ t, exec .copyBlockStepEnd s = .next t ∧
        t.Copied s ((run.base + i) * 4096 + 4032) (pair * 4096 + 4032) ∧
        t = { s with sram := t.sram, engine := t.engine } ∧
        t.engine = (State.chooseStep { s with
          engine := { s.engine with
            mover := { record := some r, blocksCopied := i + 1, burstsDone := 0 } } }).engine)) ∧
  ∀ (s : State) (src tgt k : Nat), s.SramLaw → s.portWait = none → s.engine.step = some (.cutCopy src tgt k) →
    ∃ t, exec .copyBurstEnd s = .next t ∧ t.Copied s (src * 4096 + k * 64) (tgt * 4096 + k * 64) ∧
      t = { s with sram := t.sram, engine := s.chooseStep.engine }

/-- R120, R34, R127: the 64th burst of the last block step completes the move: the target run becomes the run, the old
run goes to SCRUB, the record is HELD again, the owner's block count rises, the mover gives up the move and the holder
gets a DONE record with MOVE_END. R114 has the mover give the move up; that blocks copied and bursts done are then 0 is
the model's choice (log entry 11). With a data access waiting at the port, EngineAndPortTakeTurns gives the rest. -/
def Obligations.CompletionPutsTheLeaseOnItsNewRun : Prop :=
  ∀ (s : State) (r : RecordNo) (holder owner : Master) (run target : Run), s.portWait = none →
    s.engine.step = some .copy → s.engine.mover.record = some r → s.engine.mover.burstsDone = 63 →
    s.engine.mover.blocksCopied + 1 = run.len → (s.lease r).run = some run → (s.lease r).target = some target →
    (s.lease r).holders = MasterSet.single holder → (s.lease r).owner = some owner →
    ∃ t, exec .moveCompletion s = .next t ∧
      t.leases = s.leases.set r { s.lease r with state := .held, run := some target, target := none } ∧
      t.pool = { s.pool with
        map := (s.pool.map.setRun target.base target.len (.run r)).setRun run.base run.len .scrub
        scrubCount := s.pool.scrubCount + run.len } ∧
      t.sessions = s.sessions.set owner { s.session owner with
        ownedBlocks := (s.session owner).ownedBlocks + (target.len - run.len) } ∧
      t.mailboxes = s.mailboxes.set holder { s.mailbox holder with
        moveRecord := { handle := s.handle r, result := some .done, reason := .none, length := target.len }
        events := (s.mailbox holder).events ||| 0x04#8 } ∧
      t.engine = (State.chooseStep { t with
        engine := { s.engine with mover := { record := none, blocksCopied := 0, burstsDone := 0 } } }).engine ∧
      t = { s with
        leases := t.leases, pool := t.pool, sessions := t.sessions, mailboxes := t.mailboxes
        engine := t.engine, sram := t.sram }

/-- R10, R115, R116, R117: in a card that keeps its laws, every offset that was valid before a move completes reaches the
same data on the new run, and every offset that becomes valid reads as zero. With a data access waiting at the port,
EngineAndPortTakeTurns gives the rest. -/
def Obligations.MoveKeepsEveryOffsetsData : Prop :=
  ∀ (s t : State) (r : RecordNo), s.MoveLaw → s.portWait = none → s.engine.mover.record = some r →
    exec .moveCompletion s = .next t → t ≠ s →
    (∀ offset a, (s.lease r).Reaches offset a →
      ∃ a', (t.lease r).Reaches offset a' ∧ t.byteAt a' = s.byteAt a) ∧
    ∀ offset a', (t.lease r).Reaches offset a' → (∀ a, ¬ (s.lease r).Reaches offset a) → t.byteAt a' = 0

/-- R27, R44, R117, R141: in a card that keeps its laws, nothing but a data write of its EXCLUSIVE holder, served while
the lease is not MOVING, changes a byte of a lease's run (system reset apart, after which SRAM is unknown): the write is
the command itself, or the access that waits at the SRAM port for the end of a burst. -/
def Obligations.OnlyTheHolderWritesALease : Prop :=
  ∀ (s t : State) (c : Instr), s.ZeroLaw → s.BoundLaw → c ≠ .systemReset → exec c s = .next t →
    ∀ (r : RecordNo) (run : Run) (x : Nat), (s.lease r).run = some run → run.Holds x → t.byteAt x ≠ s.byteAt x →
      ∃ (w : Transfer) (m : Master),
        (c = dataCommand w ∨ c ∈ burstEnds ∧ s.portWait = some w) ∧ w.dir = .write ∧ w.master.toNat = m.val ∧
        (s.lease r).holders = MasterSet.single m ∧ (s.lease r).mode = some .exclusive ∧ (s.lease r).state = .held

/-! ### Supervisor commands and resets -/

/-- R182, R20 to R22, R135, R163: REVOKE retires the lease whatever its state: a move is abandoned first with reason
REVOKED, waiters are withdrawn, every bound aperture becomes LOST, every holder gets its LOST notice, the run goes to
SCRUB and the owner's counts fall. -/
def Obligations.RevokeRetiresTheLease : Prop :=
  ∀ (s : State) (r : RecordNo) (run : Run) (owner : Master) (h : Handle), s.TakesCommand .revoke →
    h = s.slot.parameter → s.Names h r → (s.lease r).run = some run → (s.lease r).owner = some owner → s.QueueLaw →
    ∃ t, exec .takeRevoke s = .next t ∧
      t.leases = s.leases.set r (Lease.freed (s.lease r).generation) ∧
      t.queue = s.queue.filter (fun e => e.handle != h) ∧
      t.sessions = s.sessions.set owner { s.session owner with
        ownedLeases := (s.session owner).ownedLeases - 1, ownedBlocks := (s.session owner).ownedBlocks - run.len } ∧
      ((s.lease r).state ≠ .moving → t.pool = { s.pool with
        map := s.pool.map.setRun run.base run.len .scrub, scrubCount := s.pool.scrubCount + run.len }) ∧
      (∀ target, (s.lease r).state = .moving → (s.lease r).target = some target → t.pool = { s.pool with
        map := (s.pool.map.setRun target.base target.len .scrub).setRun run.base run.len .scrub
        scrubCount := s.pool.scrubCount + target.len + run.len }) ∧
      (∀ m a, t.aperture m a = if s.aperture m a = .bound h then .lost h .revoked else s.aperture m a) ∧
      (∀ m, (s.lease r).holders.mem m = true →
        (t.mailbox m).lostRecord = { handle := h, count := min ((s.mailbox m).lostRecord.count + 1) 15 } ∧
          (t.mailbox m).events.getLsbD 3 = true ∧
          ((s.lease r).state = .moving →
            (t.mailbox m).moveRecord =
                { handle := h, result := some .abandoned, reason := .revoked, length := run.len } ∧
              (t.mailbox m).events.getLsbD 2 = true)) ∧
      (∀ m, (s.lease r).holders.mem m = false → (t.mailbox m).lostRecord = (s.mailbox m).lostRecord ∧
        (t.mailbox m).events.getLsbD 3 = (s.mailbox m).events.getLsbD 3) ∧
      (∀ e ∈ s.queue, e.handle = h →
        (t.mailbox e.master).waitRecord = { handle := h, mode := some e.kind.mode, result := some .withdrawn } ∧
          (t.mailbox e.master).events.getLsbD 1 = true) ∧
      t.slot = { s.slot with state := .done, answer := .ok } ∧
      t.supervisor = { s.supervisor with flags := s.supervisor.flags ||| 0x10#6 } ∧
      t.lastServed = s.lastServed

/-- R123, R122, R127: a RELEASE by the holder of a MOVING lease abandons the move first: the target run goes to SCRUB,
the mover gives up the move, with a burst in flight ended as R43 gives, UP and DOWN, and the holder gets an ABANDONED
record with reason RELEASED and the length of the old run, and MOVE_END. The RELEASE then goes on with the lease on its
old run, which the owner's counts have kept: its apertures on the lease become UNBOUND (R89); with no waiters a kept
lease goes IDLE (ANSWER1 = 1), and any other retires, with both runs in SCRUB and the owner's counts lower by one lease
and the old length (ANSWER1 = 2, R17, R20, R91); and a lease that others wait to acquire passes to them, ANSWER0 being
their number (R98, R99). -/
def Obligations.ReleaseAbandonsTheMove : Prop :=
  ∀ (s : State) (m : Master) (r : RecordNo) (run target : Run), s.TakesOn m .release r → s.QueueLaw →
    (s.lease r).state = .moving → (s.lease r).holders = MasterSet.single m →
    (s.lease r).run = some run → (s.lease r).target = some target →
    ∃ t, exec .takeRelease s = .next t ∧ t.MoveAbandoned s m r .released ∧
      (∀ r', r' ≠ r → t.lease r' = s.lease r') ∧
      (∀ a, t.aperture m a = if s.aperture m a = .bound (s.parameter m) then .unbound else s.aperture m a) ∧
      (s.NoWaiters (s.parameter m) →
        t.queue = s.queue ∧ t.OtherMailboxes s m ∧
        ((s.lease r).keep = true →
          t.lease r = { s.lease r with state := .idle, mode := none, holders := 0, target := none } ∧
          t.pool = { s.pool with
            map := s.pool.map.setRun target.base target.len .scrub
            scrubCount := s.pool.scrubCount + target.len } ∧
          t.sessions = (s.renewed m).sessions ∧ (t.mailbox m).Answered .ok 0 1 ∧
          (∀ m', m' ≠ m → ∀ a, t.aperture m' a = s.aperture m' a)) ∧
        ((s.lease r).keep = false →
          t.lease r = Lease.freed (s.lease r).generation ∧
          t.pool = { s.pool with
            map := (s.pool.map.setRun target.base target.len .scrub).setRun run.base run.len .scrub
            scrubCount := s.pool.scrubCount + target.len + run.len } ∧
          (∀ owner, (s.lease r).owner = some owner →
            t.sessions = (s.renewed m).sessions.set owner { (s.renewed m).session owner with
              ownedLeases := (s.session owner).ownedLeases - 1
              ownedBlocks := (s.session owner).ownedBlocks - run.len }) ∧
          (t.mailbox m).Answered .ok 0 2 ∧
          (∀ m' a, t.aperture m' a =
            if s.aperture m' a = .bound (s.parameter m) then .unbound else s.aperture m' a))) ∧
      ∀ e rest, s.AwaitedFrom m r e rest →
        t.HandedOn s r e rest ∧
        t.pool = { s.pool with
          map := s.pool.map.setRun target.base target.len .scrub, scrubCount := s.pool.scrubCount + target.len } ∧
        t.sessions = (s.renewed m).sessions ∧
        (t.mailbox m).Answered .ok (BitVec.ofNat 32 ((s.lease r).emptied.grants (e :: rest)).length) 0 ∧
        (∀ m', m' ≠ m → ∀ a, t.aperture m' a = s.aperture m' a)

/-- R183, R58: EVICT of a parameter of 12 or more is answered BAD_ARG and of a closed session NO_SESSION, with no other
effect; EVICT of an open session ends it with end reason EVICTED and sets SESSION_END. A move of a lease its master held
is abandoned with reason SESSION_ENDED (R55, R124); a lease it held alone, HELD or MOVING, passes to the masters that wait
to acquire it (R56, R98), and with no waiters goes IDLE when kept and is FREE when not (R17); a lease it held SHARED with
others, and one whose head entry was its own, has the grant pass without it, and every other record is as it was (R54,
R56). -/
def Obligations.EvictEndsTheSession : Prop :=
  ∀ (s : State), s.TakesCommand .evict →
    (12 ≤ s.slot.parameter.toNat → exec .takeEvict s = .next (s.commandDone .badArg)) ∧
    ∀ m : Master, s.slot.parameter.toNat = m.val →
      (¬ s.Open m → exec .takeEvict s = .next (s.commandDone .noSession)) ∧
      (s.Open m → s.QueueLaw →
        ∃ t, exec .takeEvict s = .next t ∧ t.Ended s m ∧
          (t.session m).state = .closed ∧ (t.session m).remaining = 0 ∧ (t.session m).endReason = .evicted ∧
          (t.session m).term = (s.session m).term ∧ (t.mailbox m).events.getLsbD 4 = true ∧
          (t.mailbox m).state = (s.mailbox m).state ∧ (t.mailbox m).req = (s.mailbox m).req ∧
          t.slot = { s.slot with state := .done, answer := .ok } ∧
          t.supervisor = { s.supervisor with flags := s.supervisor.flags ||| 0x10#6 } ∧
          t.lastServed = s.lastServed ∧
          ∀ r, t.PassedOn s m r)

/-- R184 with R24, R40, R42, R62, R166: what RESET-ALL leaves in every block of the card, and what it keeps; a burst in
flight, of either client, keeps its block step until it ends. Of what it keeps, three things are the model's own: the
countdowns that are due stay due (log entry 22, on the fields of log entry 4), a data access at the SRAM port goes on
waiting for the end of the burst (log entry 24), and a step that is current always has a burst in flight (log entry 8).
R181: an undefined command byte is answered BAD_ARG with no other effect than CMD_DONE. -/
def Obligations.ResetAllClearsTheCard : Prop :=
  (∀ s : State, s.TakesCommand .undefined → exec .takeUndefinedSupervisor s = .next (s.commandDone .badArg)) ∧
  ∀ s : State, s.TakesCommand .resetAll →
    ∃ t, exec .takeResetAll s = .next t ∧
      (∀ r, t.lease r = Lease.freed (s.lease r).generation) ∧ t.queue = [] ∧
      (∀ m, (t.session m).state = .closed ∧ (t.session m).term = (s.session m).term ∧
        (t.session m).ownedLeases = 0 ∧ (t.session m).ownedBlocks = 0 ∧
        (s.Open m → (t.session m).remaining = 0 ∧ (t.session m).endReason = .reset) ∧
        (¬ s.Open m → (t.session m).endReason = (s.session m).endReason)) ∧
      (∀ m, t.mailbox m = { Mailbox.cleared (s.mailbox m).enables with
        events := (t.mailbox m).events }) ∧
      (∀ m, (s.Open m → (t.mailbox m).events = 0x10#8) ∧ (¬ s.Open m → (t.mailbox m).events = 0)) ∧
      (∀ m a, t.aperture m a = .unbound) ∧
      (∀ b, b < 512 → t.block b = some .scrub) ∧ t.pool.freeCount = 0 ∧ t.pool.scrubCount = 512 ∧
      t.pool.ready = false ∧ t.pool.watermark = s.pool.watermark ∧
      t.engine.mover = { record := none, blocksCopied := 0, burstsDone := 0 } ∧
      (s.engine.step = none → t.engine.step = some .scrub ∧
        t.engine.scrubber = { block := some 0, burstsDone := 0 }) ∧
      (∀ b, s.engine.step = some .scrub → s.engine.scrubber.block = some b →
        t.engine.step = some (.cutScrub b s.engine.scrubber.burstsDone) ∧ t.engine.last = .mover ∧
          t.engine.scrubber = { block := none, burstsDone := 0 }) ∧
      (∀ r run target dir i, s.engine.step = some .copy → s.engine.mover.record = some r →
        (s.lease r).run = some run → (s.lease r).target = some target → (s.lease r).direction = some dir →
        s.engine.mover.blocksCopied = i →
        t.engine.step = some (.cutCopy (run.base + i) (pairedBlock dir run target i) s.engine.mover.burstsDone) ∧
          t.engine.last = .mover ∧ t.engine.scrubber = { block := none, burstsDone := 0 }) ∧
      (∀ cut, ((∃ b k, cut = .cutScrub b k) ∨ ∃ src tgt k, cut = .cutCopy src tgt k) → s.engine.step = some cut →
        t.engine.step = some cut ∧ t.engine.last = .mover ∧
          t.engine.scrubber = { block := none, burstsDone := 0 }) ∧
      t.portWait = s.portWait ∧
      (∀ i, (t.snapshot.buffer.get i) = 0) ∧ t.snapshot.select = 0xFF#8 ∧ t.lastServed = 11 ∧
      t.slot = { s.slot with state := .done, answer := .ok } ∧
      t.supervisor = { s.supervisor with flags := 0x10#6 } ∧
      t.policies = s.policies ∧ t.ticks = s.ticks ∧ t.link = s.link ∧ t.jumpers = s.jumpers ∧ t.sram = s.sram

/-- The card after system reset, from any state: R1, R25, R26, R35, R39, R41, R42, R45, R46, R83, R114, R129, R150, R155, R165,
R169, R175 to R177, R180, R185 to R187 give the values, but for these, which are the model's: the scrubber's first block
step, which R42 starts at once, has started, with SCRUBBER the last client (log entry 7); no data access waits at the SRAM
port (log entry 24); no countdown of a tick is due (log entry 4); the link's phase and SDA are at rest (log entry 20); the jumpers stay as fitted (log entry 16); the
queue of commands to come stays (log entry 18). What SRAM then holds is left open: nothing is said of it but that it is in
its canonical form (log entry 2). -/
def Obligations.SystemResetLeavesTheResetCondition : Prop :=
  ∀ s : State, ∃ t, exec .systemReset s = .next t ∧ t.SramLaw ∧
    (∀ r, t.lease r = Lease.freed 0) ∧ t.queue = [] ∧
    (∀ m, t.session m =
      { state := .closed, term := none, remaining := 0, ownedLeases := 0, ownedBlocks := 0, endReason := .none }) ∧
    (∀ m, t.policy m = { openAllowed := true, leaseQuota := 6, blockQuota := 96 }) ∧
    (∀ m, t.mailbox m = Mailbox.cleared 0) ∧ (∀ m a, t.aperture m a = .unbound) ∧
    (∀ b, b < 512 → t.block b = some .scrub) ∧ t.pool.freeCount = 0 ∧ t.pool.scrubCount = 512 ∧
    t.pool.ready = false ∧ t.pool.watermark = 32 ∧
    t.engine.step = some .scrub ∧ t.engine.last = .scrubber ∧
    t.engine.scrubber = { block := some 0, burstsDone := 0 } ∧
    t.engine.mover = { record := none, blocksCopied := 0, burstsDone := 0 } ∧ t.portWait = none ∧
    t.ticks = { code := 1, running := 1, sessionDue := 0, queueDue := 0 } ∧ t.lastServed = 11 ∧
    t.slot = { state := .idle, command := 0, parameter := 0, answer := .none } ∧
    t.supervisor = { flags := 0, enables := 0 } ∧ t.snapshot.select = 0xFF#8 ∧
    (∀ i, (t.snapshot.buffer.get i) = 0) ∧
    t.link = { phase := .idle, pointer := 0, staged := none, latch := none, sda := .released } ∧
    t.jumpers = { j1 := s.jumpers.j1, j2 := s.jumpers.j2, base := s.jumpers.j1, linkSelect := s.jumpers.j2 } ∧
    t.pending = s.pending

/-! ### The supervisor link -/

/-- R168, R170, R172, R174: a START makes the address byte next, and inside a transaction addressed to the card it is a
repeated START, which keeps that transaction in progress (the flag of the phase, log entry 20); a matching address byte is acknowledged and starts a
read or a write transaction, any other leaves the card out of the transaction, a STOP ends it, and a link reset abandons
a transaction in progress; all but the address byte discard the staged byte and the read latch, and the pointer stays. -/
def Obligations.LinkTransactionsStartAndEnd : Prop :=
  ∀ s : State,
    exec .linkStart s = .next { s with link := { s.link with
      phase := .address (decide (s.link.phase ∈ [LinkPhase.pointer, .data, .sending, .silent, .address true]))
      staged := none, latch := none, sda := .released } } ∧
    exec .linkStop s = .next { s with link := { s.link with
      phase := .idle, staged := none, latch := none, sda := .released } } ∧
    (∀ (again : Bool) (address : BitVec 7) (dir : AccessDir), s.link.phase = .address again →
      (address.toNat = 0x58 + s.jumpers.linkSelect.toNat →
        exec (.linkAddress address dir) s = .next { s with link := { s.link with
          phase := (if dir = .read then .sending else .pointer), sda := .acknowledge } }) ∧
      (address.toNat ≠ 0x58 + s.jumpers.linkSelect.toNat →
        exec (.linkAddress address dir) s = .next { s with link := { s.link with
          phase := .idle, sda := .released } })) ∧
    (s.link.phase ∈ [LinkPhase.pointer, .data, .sending, .silent, .address true] →
      exec .linkReset s = .next { s with link := { s.link with
        phase := .idle, staged := none, latch := none, sda := .released } }) ∧
    (s.link.phase ∈ [LinkPhase.idle, .address false] → exec .linkReset s = .next s)

/-- R169, R170: the pointer byte sets the pointer to its low seven bits; a byte read is the one at the pointer, and the
pointer advances whether or not it is acknowledged; a byte written to a read-only position or to one that holds no field
is acknowledged and ignored, and discards a staged byte (R172). R173: the low byte of a 16-bit field read, then, in the
same transaction and whatever happens to the card between, its high byte: the two bytes sent are those the field had at
the first. The 16-bit fields are the watermark, the command parameter, the block quotas, and those of the layout the
snapshot select register selects (10.4, 10.4.1). -/
def Obligations.LinkBytesMoveThePointer : Prop :=
  (∀ (s : State),
    (∀ value : Byte, s.link.phase = .pointer →
      exec (.pointerByte value) s = .next { s with link := { s.link with
        phase := .data, pointer := BitVec.ofNat 7 (value.toNat % 128), latch := none, sda := .acknowledge } }) ∧
    (∀ acknowledged, s.link.phase = .sending → s.link.latch = none →
      ∃ t, exec (.linkReadByte acknowledged) s = .next t ∧
        t = { s with link := t.link } ∧ t.link.sda = .sent (s.bankByte s.link.pointer) ∧
        t.link.pointer = s.link.pointer + 1 ∧ t.link.phase = (if acknowledged then .sending else .silent) ∧
        t.link.staged = s.link.staged) ∧
    (∀ (value : Byte) (f : BankField), s.AtField f →
      (f = .slotState ∨ f = .slotAnswer ∨ f = .none ∨ ∃ i, f = .snapshotBuffer i) →
      exec (.registerWriteIgnored (.link value)) s = .next { s with link := s.link.afterByte none })) ∧
  (∀ (s t u : State) (acknowledged : Bool), s.link.phase = .sending → s.link.latch = none →
    s.isWideLow s.link.pointer = true → exec (.linkReadByte true) s = .next t → u.link = t.link →
    ∃ v, exec (.linkReadByte acknowledged) u = .next v ∧
      t.link.sda = .sent (s.bankByte s.link.pointer) ∧
      v.link.sda = .sent (s.bankByte (s.link.pointer + 1)) ∧ v.link.latch = none) ∧
  ∀ (s : State) (position : BitVec 7),
    (s.isWideLow position = true ↔
      position.toNat ∈ [0x02, 0x06] ∨ (∃ m : Master, position.toNat = 0x10 + 4 * m.val) ∨
      (s.snapshot.select.toNat < 40 ∧ position.toNat ∈ [0x44, 0x46, 0x4A, 0x4C, 0x4E, 0x50, 0x52]) ∨
      (64 ≤ s.snapshot.select.toNat ∧ s.snapshot.select.toNat < 76 ∧
        position.toNat ∈ [0x44, 0x46, 0x4A, 0x4C, 0x50])) ∧
    (∀ f, bankField position = .wideLow f →
      s.bankByte position = BitVec.ofNat 8 (s.wideValue f) ∧
      s.bankByte (position + 1) = BitVec.ofNat 8 (s.wideValue f / 256)) ∧
    ∀ i, bankField position = .snapshotBuffer i → s.bankByte position = s.snapshot.buffer.get i

/-- R172, R175, R176, R180: a low byte is staged and changes no field; the high byte after it commits the pair, which is
stored when it lies in the field's range; a high byte with no byte staged for its field is ignored. -/
def Obligations.StagedPairIsOneChange : Prop :=
  ∀ (s : State) (f : WideField) (low high : Byte), s.AtField (.wideLow f) →
    (f = .commandParameter → s.slot.state ≠ .pending) →
    ∃ t, exec (.stagedByte low) s = .next t ∧
      t = { s with link := s.link.afterByte (some { field := f, value := low }) } ∧ t.AtField (.wideHigh f) ∧
      (∀ m, f = .blockQuota m →
        exec (.blockQuotaCommit high) t = .next { t with
          policies :=
            if high.toNat * 256 + low.toNat ≤ 512 then
              s.policies.set m { s.policy m with blockQuota := high.toNat * 256 + low.toNat }
            else s.policies
          link := t.link.afterByte none } ∧
        exec (.blockQuotaCommit high) { t with link := { t.link with staged := none } } =
          .next { t with link := t.link.afterByte none }) ∧
      (f = .watermark →
        exec (.watermarkCommit high) t = .next { t with
          pool :=
            if high.toNat * 256 + low.toNat ≤ 511 then
              { s.pool with watermark := high.toNat * 256 + low.toNat }
            else s.pool
          link := t.link.afterByte none } ∧
        exec (.watermarkCommit high) { t with link := { t.link with staged := none } } =
          .next { t with link := t.link.afterByte none }) ∧
      (f = .commandParameter →
        exec (.commandParameterCommit high) t = .next { t with
          slot := { s.slot with parameter := BitVec.ofNat 16 (high.toNat * 256 + low.toNat) }
          link := t.link.afterByte none } ∧
        exec (.commandParameterCommit high) { t with link := { t.link with staged := none } } =
          .next { t with link := t.link.afterByte none })

/-- R175, R176, R185, R186, R191: what a byte written to each byte field of the bank stores; a value outside the field's
range is not stored, and ALERT follows the flags and enables. R180: a byte written to the command field posts a command
while the slot is IDLE or DONE; while it is PENDING, a byte written to the command field or to either byte of the
parameter is dropped with CMD_LOST, and a dropped low byte is not staged; that a dropped byte of the parameter leaves no
staged byte is the model's reading (log entry 21). -/
def Obligations.ByteFieldsStoreTheirValues : Prop :=
  ∀ (s : State) (value : Byte),
    (s.AtField .supervisorFlags →
      ∃ t, exec (.supervisorFlagsWrite value) s = .next t ∧
        (∀ k, k < 6 → t.supervisor.flags.getLsbD k = (s.supervisor.flags.getLsbD k && value.getLsbD k)) ∧
        t = { s with
          supervisor := { s.supervisor with flags := t.supervisor.flags }, link := s.link.afterByte none } ∧
        (t.alert = true ↔
          ∃ k, k < 6 ∧ t.supervisor.flags.getLsbD k = true ∧ s.supervisor.enables.getLsbD k = true)) ∧
    (s.AtField .supervisorEnables →
      ∃ t, exec (.supervisorEnablesWrite value) s = .next t ∧
        (∀ k, k < 6 → t.supervisor.enables.getLsbD k = value.getLsbD k) ∧
        t = { s with
          supervisor := { s.supervisor with enables := t.supervisor.enables }, link := s.link.afterByte none } ∧
        (t.alert = true ↔ ∃ k, k < 6 ∧ s.supervisor.flags.getLsbD k = true ∧ value.getLsbD k = true)) ∧
    (s.AtField .tickPeriodCode →
      (∀ code : Fin 5, value.toNat = code.val →
        exec (.tickPeriodCodeWrite value) s = .next
          { s with ticks := { s.ticks with code := code }, link := s.link.afterByte none }) ∧
      (5 ≤ value.toNat → exec (.tickPeriodCodeWrite value) s = .next { s with link := s.link.afterByte none })) ∧
    (∀ m, s.AtField (.leaseQuota m) →
      (value.toNat ≤ 40 → exec (.leaseQuotaWrite value) s = .next
        { s with
          policies := s.policies.set m { s.policy m with leaseQuota := value.toNat }
          link := s.link.afterByte none }) ∧
      (40 < value.toNat → exec (.leaseQuotaWrite value) s = .next { s with link := s.link.afterByte none })) ∧
    (∀ m, s.AtField (.openPermission m) →
      exec (.openPermissionWrite value) s = .next
        { s with
          policies := s.policies.set m { s.policy m with openAllowed := decide (value.toNat % 2 = 1) }
          link := s.link.afterByte none }) ∧
    (s.AtField .command → s.slot.state ≠ .pending →
      exec (.commandWrite value) s = .next
        { s with
          slot := { s.slot with command := value, answer := .none, state := .pending }
          link := s.link.afterByte none }) ∧
    (∀ (c : Instr) (f : BankField),
      (c, f) ∈ [(Instr.commandWrite value, BankField.command), (.stagedByte value, .wideLow .commandParameter),
        (.commandParameterCommit value, .wideHigh .commandParameter)] →
      s.AtField f → s.slot.state = .pending →
      exec c s = .next
        { s with
          supervisor := { s.supervisor with flags := s.supervisor.flags ||| 0x20#6 }
          link := s.link.afterByte none })

/-- R177, R178, R179 with the layouts of 10.4.1: a byte written to the select register is stored and copies the record it
names into the buffer as the record stands, a FREE record as its generation alone; any other value clears the buffer. -/
def Obligations.SelectionTakesASnapshot : Prop :=
  ∀ (s : State) (value : Byte), s.AtField .snapshotSelect →
    ∃ t, exec (.snapshotSelect value) s = .next t ∧
      t = { s with snapshot := t.snapshot, link := s.link.afterByte none } ∧ t.snapshot.select = value ∧
      (∀ r : RecordNo, value.toNat = r.val → (s.lease r).state = .free →
        t.snapshot.buffer.list = [0, 0, BitVec.ofNat 8 (s.lease r).generation.val,
          BitVec.ofNat 8 ((s.lease r).generation.val / 256)] ++ List.replicate 58 0) ∧
      (∀ (r : RecordNo) (run : Run) (owner : Master), value.toNat = r.val → (s.lease r).state ≠ .free →
        (s.lease r).run = some run → (s.lease r).owner = some owner →
        t.snapshot.buffer.list =
          [BitVec.ofNat 8 (s.lease r).state.code,
            BitVec.ofNat 8 ((if (s.lease r).keep then 1 else 0) + (if (s.lease r).isPublic then 2 else 0) +
              (if (s.lease r).written then 4 else 0) + (if (s.lease r).direction = some .down then 8 else 0)),
            BitVec.ofNat 8 (s.lease r).generation.val, BitVec.ofNat 8 ((s.lease r).generation.val / 256),
            BitVec.ofNat 8 (s.lease r).tag.toNat, BitVec.ofNat 8 ((s.lease r).tag.toNat / 256),
            BitVec.ofNat 8 owner.val, BitVec.ofNat 8 (modeCode (s.lease r).mode),
            BitVec.ofNat 8 (s.lease r).holders.toNat, BitVec.ofNat 8 ((s.lease r).holders.toNat / 256),
            BitVec.ofNat 8 run.base, BitVec.ofNat 8 (run.base / 256),
            BitVec.ofNat 8 run.len, BitVec.ofNat 8 (run.len / 256),
            BitVec.ofNat 8 (((s.lease r).target.map Run.base).getD 0),
            BitVec.ofNat 8 (((s.lease r).target.map Run.base).getD 0 / 256),
            BitVec.ofNat 8 (((s.lease r).target.map Run.len).getD 0),
            BitVec.ofNat 8 (((s.lease r).target.map Run.len).getD 0 / 256),
            BitVec.ofNat 8 (s.queue.filter fun e => e.handle == s.handle r).length] ++ List.replicate 43 0) ∧
      (∀ m : Master, value.toNat = 64 + m.val →
        t.snapshot.buffer.list =
          [BitVec.ofNat 8 (s.session m).state.code, BitVec.ofNat 8 (s.session m).endReason.code,
            BitVec.ofNat 8 ((s.session m).term.getD 0), BitVec.ofNat 8 ((s.session m).term.getD 0 / 256),
            BitVec.ofNat 8 (s.session m).remaining, BitVec.ofNat 8 ((s.session m).remaining / 256),
            BitVec.ofNat 8 (s.session m).ownedLeases, (if (s.entryOf m).isSome then 1 else 0),
            BitVec.ofNat 8 (s.session m).ownedBlocks, BitVec.ofNat 8 ((s.session m).ownedBlocks / 256)] ++
          (match s.queue.find? (fun e => e.master == m) with
            | some e => [BitVec.ofNat 8 e.handle.toNat, BitVec.ofNat 8 (e.handle.toNat / 256),
                BitVec.ofNat 8 e.kind.code, 0, BitVec.ofNat 8 e.remaining, BitVec.ofNat 8 (e.remaining / 256)]
            | none => [0, 0, 0, 0, 0, 0]) ++ List.replicate 46 0) ∧
      ((40 ≤ value.toNat ∧ value.toNat < 64 ∨ 76 ≤ value.toNat) →
        t.snapshot.buffer.list = List.replicate 62 0)

/-! ### The laws every step keeps -/

/-- State.reset has every law of the card. -/
def Obligations.ResetHasEveryLaw : Prop :=
  State.reset.SramLaw ∧ State.reset.PortLaw ∧ State.reset.MailboxLaw ∧ State.reset.PolicyLaw ∧ State.reset.TagLaw ∧
    State.reset.HoldLaw ∧ State.reset.OwnerLaw ∧ State.reset.SessionLaw ∧ State.reset.BoundLaw ∧ State.reset.WaitLaw ∧
    State.reset.PoolLaw ∧ State.reset.ZeroLaw ∧ State.reset.MoveLaw

/-- Every step keeps SRAM in its one canonical form, no access waiting at the SRAM port while the engine has no block
step (R44), the mailboxes to R151, R158 and R163, and the stored policy and watermark in the ranges of R175 and R176. -/
def Obligations.StepKeepsSramPortMailboxesAndPolicy : Prop :=
  ∀ s t : State, step s = .next t →
    (s.SramLaw → t.SramLaw) ∧ (s.PortLaw → t.PortLaw) ∧ (s.MailboxLaw → t.MailboxLaw) ∧ (s.PolicyLaw → t.PolicyLaw)

/-- R6, R3: every step keeps nonzero tags unique among the live records; a record's generation changes only when CREATE
takes it from FREE, to the next one, and at system reset, and no step but a system reset brings it back to 0. -/
def Obligations.StepKeepsTagsAndGenerations : Prop :=
  (∀ s t : State, step s = .next t → s.TagLaw → t.TagLaw) ∧
  ∀ (s t : State) (c : Instr) (r : RecordNo), exec c s = .next t → c ≠ .systemReset →
    ((t.lease r).generation = (s.lease r).generation ∨
      (c = .takeCreate ∧ (s.lease r).state = .free ∧
        (t.lease r).generation.val =
          if (s.lease r).generation.val = 0 ∨ (s.lease r).generation.val = 1023 then 1
          else (s.lease r).generation.val + 1)) ∧
    ((s.lease r).generation ≠ 0 → (t.lease r).generation ≠ 0)

/-- R1, R11, R19, R114: every step keeps the law of holder sets and modes, with at most one record MOVING and a target
run on no other. -/
def Obligations.StepKeepsHolders : Prop := ∀ s t : State, step s = .next t → s.HoldLaw → t.HoldLaw

/-- R59: every step keeps each master's owned counts equal to the number and the blocks of the records it owns. -/
def Obligations.StepKeepsOwnedCounts : Prop := ∀ s t : State, step s = .next t → s.OwnerLaw → t.OwnerLaw

/-- R53, R129: every step keeps a master whose session is CLOSED without waits, holds and bound or LOST apertures. -/
def Obligations.StepKeepsClosedSessionsBare : Prop := ∀ s t : State, step s = .next t → s.SessionLaw → t.SessionLaw

/-- R129: every step keeps each BOUND aperture on the current handle of a record its master holds. -/
def Obligations.StepKeepsBoundApertures : Prop := ∀ s t : State, step s = .next t → s.BoundLaw → t.BoundLaw

/-- R83, R84, R95, R17, R97, R98: every step keeps the laws of the wait queue; in particular no step leaves an entry that
the grant pass of its lease could grant. -/
def Obligations.StepKeepsTheWaitQueue : Prop := ∀ s t : State, step s = .next t → s.WaitLaw → t.WaitLaw

/-- R13, R25, R26: every step keeps the block map, its counts and the records in agreement. -/
def Obligations.StepKeepsThePool : Prop := ∀ s t : State, step s = .next t → s.PoolLaw → t.PoolLaw

/-- R27: every step keeps every FREE block all zeros. -/
def Obligations.StepKeepsFreeBlocksZero : Prop := ∀ s t : State, step s = .next t → s.ZeroLaw → t.ZeroLaw

/-- R115, R116: every step keeps what the mover has copied equal to the run it copies, and the added blocks zero. -/
def Obligations.StepKeepsTheCopy : Prop := ∀ s t : State, step s = .next t → s.MoveLaw → t.MoveLaw

end Statements
end

