-- ==== Sys2Proof/Laws/State.lean ====
section
/-! SUPPORT. Laws/State.lean: what each update of State leaves in each field, so that no proof unfolds an update. -/

namespace Sys2Proof.Machine

variable (s : State)

section setLeaseFields
variable (r : RecordNo) (l : Lease)
@[simp] theorem State.setLease_leases : (s.setLease r l).leases = s.leases.set r l := rfl
@[simp] theorem State.setLease_queue : (s.setLease r l).queue = s.queue := rfl
@[simp] theorem State.setLease_sessions : (s.setLease r l).sessions = s.sessions := rfl
@[simp] theorem State.setLease_policies : (s.setLease r l).policies = s.policies := rfl
@[simp] theorem State.setLease_mailboxes : (s.setLease r l).mailboxes = s.mailboxes := rfl
@[simp] theorem State.setLease_apertures : (s.setLease r l).apertures = s.apertures := rfl
@[simp] theorem State.setLease_pool : (s.setLease r l).pool = s.pool := rfl
@[simp] theorem State.setLease_engine : (s.setLease r l).engine = s.engine := rfl
@[simp] theorem State.setLease_portWait : (s.setLease r l).portWait = s.portWait := rfl
@[simp] theorem State.setLease_sram : (s.setLease r l).sram = s.sram := rfl
@[simp] theorem State.setLease_ticks : (s.setLease r l).ticks = s.ticks := rfl
@[simp] theorem State.setLease_lastServed : (s.setLease r l).lastServed = s.lastServed := rfl
@[simp] theorem State.setLease_slot : (s.setLease r l).slot = s.slot := rfl
@[simp] theorem State.setLease_supervisor : (s.setLease r l).supervisor = s.supervisor := rfl
@[simp] theorem State.setLease_snapshot : (s.setLease r l).snapshot = s.snapshot := rfl
@[simp] theorem State.setLease_link : (s.setLease r l).link = s.link := rfl
@[simp] theorem State.setLease_jumpers : (s.setLease r l).jumpers = s.jumpers := rfl
@[simp] theorem State.setLease_busAnswer : (s.setLease r l).busAnswer = s.busAnswer := rfl
@[simp] theorem State.setLease_resets : (s.setLease r l).resets = s.resets := rfl
@[simp] theorem State.setLease_pending : (s.setLease r l).pending = s.pending := rfl
end setLeaseFields

section setQueueFields
variable (q : List WaitEntry)
@[simp] theorem State.setQueue_leases : (s.setQueue q).leases = s.leases := rfl
@[simp] theorem State.setQueue_queue : (s.setQueue q).queue = q := rfl
@[simp] theorem State.setQueue_sessions : (s.setQueue q).sessions = s.sessions := rfl
@[simp] theorem State.setQueue_policies : (s.setQueue q).policies = s.policies := rfl
@[simp] theorem State.setQueue_mailboxes : (s.setQueue q).mailboxes = s.mailboxes := rfl
@[simp] theorem State.setQueue_apertures : (s.setQueue q).apertures = s.apertures := rfl
@[simp] theorem State.setQueue_pool : (s.setQueue q).pool = s.pool := rfl
@[simp] theorem State.setQueue_engine : (s.setQueue q).engine = s.engine := rfl
@[simp] theorem State.setQueue_portWait : (s.setQueue q).portWait = s.portWait := rfl
@[simp] theorem State.setQueue_sram : (s.setQueue q).sram = s.sram := rfl
@[simp] theorem State.setQueue_ticks : (s.setQueue q).ticks = s.ticks := rfl
@[simp] theorem State.setQueue_lastServed : (s.setQueue q).lastServed = s.lastServed := rfl
@[simp] theorem State.setQueue_slot : (s.setQueue q).slot = s.slot := rfl
@[simp] theorem State.setQueue_supervisor : (s.setQueue q).supervisor = s.supervisor := rfl
@[simp] theorem State.setQueue_snapshot : (s.setQueue q).snapshot = s.snapshot := rfl
@[simp] theorem State.setQueue_link : (s.setQueue q).link = s.link := rfl
@[simp] theorem State.setQueue_jumpers : (s.setQueue q).jumpers = s.jumpers := rfl
@[simp] theorem State.setQueue_busAnswer : (s.setQueue q).busAnswer = s.busAnswer := rfl
@[simp] theorem State.setQueue_resets : (s.setQueue q).resets = s.resets := rfl
@[simp] theorem State.setQueue_pending : (s.setQueue q).pending = s.pending := rfl
end setQueueFields

section setSessionFields
variable (m : Master) (x : Session)
@[simp] theorem State.setSession_leases : (s.setSession m x).leases = s.leases := rfl
@[simp] theorem State.setSession_queue : (s.setSession m x).queue = s.queue := rfl
@[simp] theorem State.setSession_sessions : (s.setSession m x).sessions = s.sessions.set m x := rfl
@[simp] theorem State.setSession_policies : (s.setSession m x).policies = s.policies := rfl
@[simp] theorem State.setSession_mailboxes : (s.setSession m x).mailboxes = s.mailboxes := rfl
@[simp] theorem State.setSession_apertures : (s.setSession m x).apertures = s.apertures := rfl
@[simp] theorem State.setSession_pool : (s.setSession m x).pool = s.pool := rfl
@[simp] theorem State.setSession_engine : (s.setSession m x).engine = s.engine := rfl
@[simp] theorem State.setSession_portWait : (s.setSession m x).portWait = s.portWait := rfl
@[simp] theorem State.setSession_sram : (s.setSession m x).sram = s.sram := rfl
@[simp] theorem State.setSession_ticks : (s.setSession m x).ticks = s.ticks := rfl
@[simp] theorem State.setSession_lastServed : (s.setSession m x).lastServed = s.lastServed := rfl
@[simp] theorem State.setSession_slot : (s.setSession m x).slot = s.slot := rfl
@[simp] theorem State.setSession_supervisor : (s.setSession m x).supervisor = s.supervisor := rfl
@[simp] theorem State.setSession_snapshot : (s.setSession m x).snapshot = s.snapshot := rfl
@[simp] theorem State.setSession_link : (s.setSession m x).link = s.link := rfl
@[simp] theorem State.setSession_jumpers : (s.setSession m x).jumpers = s.jumpers := rfl
@[simp] theorem State.setSession_busAnswer : (s.setSession m x).busAnswer = s.busAnswer := rfl
@[simp] theorem State.setSession_resets : (s.setSession m x).resets = s.resets := rfl
@[simp] theorem State.setSession_pending : (s.setSession m x).pending = s.pending := rfl
end setSessionFields

section setPolicyFields
variable (m : Master) (p : Policy)
@[simp] theorem State.setPolicy_leases : (s.setPolicy m p).leases = s.leases := rfl
@[simp] theorem State.setPolicy_queue : (s.setPolicy m p).queue = s.queue := rfl
@[simp] theorem State.setPolicy_sessions : (s.setPolicy m p).sessions = s.sessions := rfl
@[simp] theorem State.setPolicy_policies : (s.setPolicy m p).policies = s.policies.set m p := rfl
@[simp] theorem State.setPolicy_mailboxes : (s.setPolicy m p).mailboxes = s.mailboxes := rfl
@[simp] theorem State.setPolicy_apertures : (s.setPolicy m p).apertures = s.apertures := rfl
@[simp] theorem State.setPolicy_pool : (s.setPolicy m p).pool = s.pool := rfl
@[simp] theorem State.setPolicy_engine : (s.setPolicy m p).engine = s.engine := rfl
@[simp] theorem State.setPolicy_portWait : (s.setPolicy m p).portWait = s.portWait := rfl
@[simp] theorem State.setPolicy_sram : (s.setPolicy m p).sram = s.sram := rfl
@[simp] theorem State.setPolicy_ticks : (s.setPolicy m p).ticks = s.ticks := rfl
@[simp] theorem State.setPolicy_lastServed : (s.setPolicy m p).lastServed = s.lastServed := rfl
@[simp] theorem State.setPolicy_slot : (s.setPolicy m p).slot = s.slot := rfl
@[simp] theorem State.setPolicy_supervisor : (s.setPolicy m p).supervisor = s.supervisor := rfl
@[simp] theorem State.setPolicy_snapshot : (s.setPolicy m p).snapshot = s.snapshot := rfl
@[simp] theorem State.setPolicy_link : (s.setPolicy m p).link = s.link := rfl
@[simp] theorem State.setPolicy_jumpers : (s.setPolicy m p).jumpers = s.jumpers := rfl
@[simp] theorem State.setPolicy_busAnswer : (s.setPolicy m p).busAnswer = s.busAnswer := rfl
@[simp] theorem State.setPolicy_resets : (s.setPolicy m p).resets = s.resets := rfl
@[simp] theorem State.setPolicy_pending : (s.setPolicy m p).pending = s.pending := rfl
end setPolicyFields

section setMailboxFields
variable (m : Master) (b : Mailbox)
@[simp] theorem State.setMailbox_leases : (s.setMailbox m b).leases = s.leases := rfl
@[simp] theorem State.setMailbox_queue : (s.setMailbox m b).queue = s.queue := rfl
@[simp] theorem State.setMailbox_sessions : (s.setMailbox m b).sessions = s.sessions := rfl
@[simp] theorem State.setMailbox_policies : (s.setMailbox m b).policies = s.policies := rfl
@[simp] theorem State.setMailbox_mailboxes : (s.setMailbox m b).mailboxes = s.mailboxes.set m b := rfl
@[simp] theorem State.setMailbox_apertures : (s.setMailbox m b).apertures = s.apertures := rfl
@[simp] theorem State.setMailbox_pool : (s.setMailbox m b).pool = s.pool := rfl
@[simp] theorem State.setMailbox_engine : (s.setMailbox m b).engine = s.engine := rfl
@[simp] theorem State.setMailbox_portWait : (s.setMailbox m b).portWait = s.portWait := rfl
@[simp] theorem State.setMailbox_sram : (s.setMailbox m b).sram = s.sram := rfl
@[simp] theorem State.setMailbox_ticks : (s.setMailbox m b).ticks = s.ticks := rfl
@[simp] theorem State.setMailbox_lastServed : (s.setMailbox m b).lastServed = s.lastServed := rfl
@[simp] theorem State.setMailbox_slot : (s.setMailbox m b).slot = s.slot := rfl
@[simp] theorem State.setMailbox_supervisor : (s.setMailbox m b).supervisor = s.supervisor := rfl
@[simp] theorem State.setMailbox_snapshot : (s.setMailbox m b).snapshot = s.snapshot := rfl
@[simp] theorem State.setMailbox_link : (s.setMailbox m b).link = s.link := rfl
@[simp] theorem State.setMailbox_jumpers : (s.setMailbox m b).jumpers = s.jumpers := rfl
@[simp] theorem State.setMailbox_busAnswer : (s.setMailbox m b).busAnswer = s.busAnswer := rfl
@[simp] theorem State.setMailbox_resets : (s.setMailbox m b).resets = s.resets := rfl
@[simp] theorem State.setMailbox_pending : (s.setMailbox m b).pending = s.pending := rfl
end setMailboxFields

section setApertureFields
variable (m : Master) (a : ApertureNo) (x : Aperture)
@[simp] theorem State.setAperture_leases : (s.setAperture m a x).leases = s.leases := rfl
@[simp] theorem State.setAperture_queue : (s.setAperture m a x).queue = s.queue := rfl
@[simp] theorem State.setAperture_sessions : (s.setAperture m a x).sessions = s.sessions := rfl
@[simp] theorem State.setAperture_policies : (s.setAperture m a x).policies = s.policies := rfl
@[simp] theorem State.setAperture_mailboxes : (s.setAperture m a x).mailboxes = s.mailboxes := rfl
@[simp] theorem State.setAperture_apertures : (s.setAperture m a x).apertures = s.apertures.set m ((s.apertures.get m).set a x) := rfl
@[simp] theorem State.setAperture_pool : (s.setAperture m a x).pool = s.pool := rfl
@[simp] theorem State.setAperture_engine : (s.setAperture m a x).engine = s.engine := rfl
@[simp] theorem State.setAperture_portWait : (s.setAperture m a x).portWait = s.portWait := rfl
@[simp] theorem State.setAperture_sram : (s.setAperture m a x).sram = s.sram := rfl
@[simp] theorem State.setAperture_ticks : (s.setAperture m a x).ticks = s.ticks := rfl
@[simp] theorem State.setAperture_lastServed : (s.setAperture m a x).lastServed = s.lastServed := rfl
@[simp] theorem State.setAperture_slot : (s.setAperture m a x).slot = s.slot := rfl
@[simp] theorem State.setAperture_supervisor : (s.setAperture m a x).supervisor = s.supervisor := rfl
@[simp] theorem State.setAperture_snapshot : (s.setAperture m a x).snapshot = s.snapshot := rfl
@[simp] theorem State.setAperture_link : (s.setAperture m a x).link = s.link := rfl
@[simp] theorem State.setAperture_jumpers : (s.setAperture m a x).jumpers = s.jumpers := rfl
@[simp] theorem State.setAperture_busAnswer : (s.setAperture m a x).busAnswer = s.busAnswer := rfl
@[simp] theorem State.setAperture_resets : (s.setAperture m a x).resets = s.resets := rfl
@[simp] theorem State.setAperture_pending : (s.setAperture m a x).pending = s.pending := rfl
end setApertureFields

section setAperturesFields
variable (t : Table (Table Aperture 4) 12)
@[simp] theorem State.setApertures_leases : (s.setApertures t).leases = s.leases := rfl
@[simp] theorem State.setApertures_queue : (s.setApertures t).queue = s.queue := rfl
@[simp] theorem State.setApertures_sessions : (s.setApertures t).sessions = s.sessions := rfl
@[simp] theorem State.setApertures_policies : (s.setApertures t).policies = s.policies := rfl
@[simp] theorem State.setApertures_mailboxes : (s.setApertures t).mailboxes = s.mailboxes := rfl
@[simp] theorem State.setApertures_apertures : (s.setApertures t).apertures = t := rfl
@[simp] theorem State.setApertures_pool : (s.setApertures t).pool = s.pool := rfl
@[simp] theorem State.setApertures_engine : (s.setApertures t).engine = s.engine := rfl
@[simp] theorem State.setApertures_portWait : (s.setApertures t).portWait = s.portWait := rfl
@[simp] theorem State.setApertures_sram : (s.setApertures t).sram = s.sram := rfl
@[simp] theorem State.setApertures_ticks : (s.setApertures t).ticks = s.ticks := rfl
@[simp] theorem State.setApertures_lastServed : (s.setApertures t).lastServed = s.lastServed := rfl
@[simp] theorem State.setApertures_slot : (s.setApertures t).slot = s.slot := rfl
@[simp] theorem State.setApertures_supervisor : (s.setApertures t).supervisor = s.supervisor := rfl
@[simp] theorem State.setApertures_snapshot : (s.setApertures t).snapshot = s.snapshot := rfl
@[simp] theorem State.setApertures_link : (s.setApertures t).link = s.link := rfl
@[simp] theorem State.setApertures_jumpers : (s.setApertures t).jumpers = s.jumpers := rfl
@[simp] theorem State.setApertures_busAnswer : (s.setApertures t).busAnswer = s.busAnswer := rfl
@[simp] theorem State.setApertures_resets : (s.setApertures t).resets = s.resets := rfl
@[simp] theorem State.setApertures_pending : (s.setApertures t).pending = s.pending := rfl
end setAperturesFields

section setPoolFields
variable (p : Pool)
@[simp] theorem State.setPool_leases : (s.setPool p).leases = s.leases := rfl
@[simp] theorem State.setPool_queue : (s.setPool p).queue = s.queue := rfl
@[simp] theorem State.setPool_sessions : (s.setPool p).sessions = s.sessions := rfl
@[simp] theorem State.setPool_policies : (s.setPool p).policies = s.policies := rfl
@[simp] theorem State.setPool_mailboxes : (s.setPool p).mailboxes = s.mailboxes := rfl
@[simp] theorem State.setPool_apertures : (s.setPool p).apertures = s.apertures := rfl
@[simp] theorem State.setPool_pool : (s.setPool p).pool = p := rfl
@[simp] theorem State.setPool_engine : (s.setPool p).engine = s.engine := rfl
@[simp] theorem State.setPool_portWait : (s.setPool p).portWait = s.portWait := rfl
@[simp] theorem State.setPool_sram : (s.setPool p).sram = s.sram := rfl
@[simp] theorem State.setPool_ticks : (s.setPool p).ticks = s.ticks := rfl
@[simp] theorem State.setPool_lastServed : (s.setPool p).lastServed = s.lastServed := rfl
@[simp] theorem State.setPool_slot : (s.setPool p).slot = s.slot := rfl
@[simp] theorem State.setPool_supervisor : (s.setPool p).supervisor = s.supervisor := rfl
@[simp] theorem State.setPool_snapshot : (s.setPool p).snapshot = s.snapshot := rfl
@[simp] theorem State.setPool_link : (s.setPool p).link = s.link := rfl
@[simp] theorem State.setPool_jumpers : (s.setPool p).jumpers = s.jumpers := rfl
@[simp] theorem State.setPool_busAnswer : (s.setPool p).busAnswer = s.busAnswer := rfl
@[simp] theorem State.setPool_resets : (s.setPool p).resets = s.resets := rfl
@[simp] theorem State.setPool_pending : (s.setPool p).pending = s.pending := rfl
end setPoolFields

section setEngineFields
variable (e : Engine)
@[simp] theorem State.setEngine_leases : (s.setEngine e).leases = s.leases := rfl
@[simp] theorem State.setEngine_queue : (s.setEngine e).queue = s.queue := rfl
@[simp] theorem State.setEngine_sessions : (s.setEngine e).sessions = s.sessions := rfl
@[simp] theorem State.setEngine_policies : (s.setEngine e).policies = s.policies := rfl
@[simp] theorem State.setEngine_mailboxes : (s.setEngine e).mailboxes = s.mailboxes := rfl
@[simp] theorem State.setEngine_apertures : (s.setEngine e).apertures = s.apertures := rfl
@[simp] theorem State.setEngine_pool : (s.setEngine e).pool = s.pool := rfl
@[simp] theorem State.setEngine_engine : (s.setEngine e).engine = e := rfl
@[simp] theorem State.setEngine_portWait : (s.setEngine e).portWait = s.portWait := rfl
@[simp] theorem State.setEngine_sram : (s.setEngine e).sram = s.sram := rfl
@[simp] theorem State.setEngine_ticks : (s.setEngine e).ticks = s.ticks := rfl
@[simp] theorem State.setEngine_lastServed : (s.setEngine e).lastServed = s.lastServed := rfl
@[simp] theorem State.setEngine_slot : (s.setEngine e).slot = s.slot := rfl
@[simp] theorem State.setEngine_supervisor : (s.setEngine e).supervisor = s.supervisor := rfl
@[simp] theorem State.setEngine_snapshot : (s.setEngine e).snapshot = s.snapshot := rfl
@[simp] theorem State.setEngine_link : (s.setEngine e).link = s.link := rfl
@[simp] theorem State.setEngine_jumpers : (s.setEngine e).jumpers = s.jumpers := rfl
@[simp] theorem State.setEngine_busAnswer : (s.setEngine e).busAnswer = s.busAnswer := rfl
@[simp] theorem State.setEngine_resets : (s.setEngine e).resets = s.resets := rfl
@[simp] theorem State.setEngine_pending : (s.setEngine e).pending = s.pending := rfl
end setEngineFields

section setPortWaitFields
variable (x : Option Transfer)
@[simp] theorem State.setPortWait_leases : (s.setPortWait x).leases = s.leases := rfl
@[simp] theorem State.setPortWait_queue : (s.setPortWait x).queue = s.queue := rfl
@[simp] theorem State.setPortWait_sessions : (s.setPortWait x).sessions = s.sessions := rfl
@[simp] theorem State.setPortWait_policies : (s.setPortWait x).policies = s.policies := rfl
@[simp] theorem State.setPortWait_mailboxes : (s.setPortWait x).mailboxes = s.mailboxes := rfl
@[simp] theorem State.setPortWait_apertures : (s.setPortWait x).apertures = s.apertures := rfl
@[simp] theorem State.setPortWait_pool : (s.setPortWait x).pool = s.pool := rfl
@[simp] theorem State.setPortWait_engine : (s.setPortWait x).engine = s.engine := rfl
@[simp] theorem State.setPortWait_portWait : (s.setPortWait x).portWait = x := rfl
@[simp] theorem State.setPortWait_sram : (s.setPortWait x).sram = s.sram := rfl
@[simp] theorem State.setPortWait_ticks : (s.setPortWait x).ticks = s.ticks := rfl
@[simp] theorem State.setPortWait_lastServed : (s.setPortWait x).lastServed = s.lastServed := rfl
@[simp] theorem State.setPortWait_slot : (s.setPortWait x).slot = s.slot := rfl
@[simp] theorem State.setPortWait_supervisor : (s.setPortWait x).supervisor = s.supervisor := rfl
@[simp] theorem State.setPortWait_snapshot : (s.setPortWait x).snapshot = s.snapshot := rfl
@[simp] theorem State.setPortWait_link : (s.setPortWait x).link = s.link := rfl
@[simp] theorem State.setPortWait_jumpers : (s.setPortWait x).jumpers = s.jumpers := rfl
@[simp] theorem State.setPortWait_busAnswer : (s.setPortWait x).busAnswer = s.busAnswer := rfl
@[simp] theorem State.setPortWait_resets : (s.setPortWait x).resets = s.resets := rfl
@[simp] theorem State.setPortWait_pending : (s.setPortWait x).pending = s.pending := rfl
end setPortWaitFields

section setSramFields
variable (x : Memory)
@[simp] theorem State.setSram_leases : (s.setSram x).leases = s.leases := rfl
@[simp] theorem State.setSram_queue : (s.setSram x).queue = s.queue := rfl
@[simp] theorem State.setSram_sessions : (s.setSram x).sessions = s.sessions := rfl
@[simp] theorem State.setSram_policies : (s.setSram x).policies = s.policies := rfl
@[simp] theorem State.setSram_mailboxes : (s.setSram x).mailboxes = s.mailboxes := rfl
@[simp] theorem State.setSram_apertures : (s.setSram x).apertures = s.apertures := rfl
@[simp] theorem State.setSram_pool : (s.setSram x).pool = s.pool := rfl
@[simp] theorem State.setSram_engine : (s.setSram x).engine = s.engine := rfl
@[simp] theorem State.setSram_portWait : (s.setSram x).portWait = s.portWait := rfl
@[simp] theorem State.setSram_sram : (s.setSram x).sram = x := rfl
@[simp] theorem State.setSram_ticks : (s.setSram x).ticks = s.ticks := rfl
@[simp] theorem State.setSram_lastServed : (s.setSram x).lastServed = s.lastServed := rfl
@[simp] theorem State.setSram_slot : (s.setSram x).slot = s.slot := rfl
@[simp] theorem State.setSram_supervisor : (s.setSram x).supervisor = s.supervisor := rfl
@[simp] theorem State.setSram_snapshot : (s.setSram x).snapshot = s.snapshot := rfl
@[simp] theorem State.setSram_link : (s.setSram x).link = s.link := rfl
@[simp] theorem State.setSram_jumpers : (s.setSram x).jumpers = s.jumpers := rfl
@[simp] theorem State.setSram_busAnswer : (s.setSram x).busAnswer = s.busAnswer := rfl
@[simp] theorem State.setSram_resets : (s.setSram x).resets = s.resets := rfl
@[simp] theorem State.setSram_pending : (s.setSram x).pending = s.pending := rfl
end setSramFields

section setTicksFields
variable (x : TickGenerator)
@[simp] theorem State.setTicks_leases : (s.setTicks x).leases = s.leases := rfl
@[simp] theorem State.setTicks_queue : (s.setTicks x).queue = s.queue := rfl
@[simp] theorem State.setTicks_sessions : (s.setTicks x).sessions = s.sessions := rfl
@[simp] theorem State.setTicks_policies : (s.setTicks x).policies = s.policies := rfl
@[simp] theorem State.setTicks_mailboxes : (s.setTicks x).mailboxes = s.mailboxes := rfl
@[simp] theorem State.setTicks_apertures : (s.setTicks x).apertures = s.apertures := rfl
@[simp] theorem State.setTicks_pool : (s.setTicks x).pool = s.pool := rfl
@[simp] theorem State.setTicks_engine : (s.setTicks x).engine = s.engine := rfl
@[simp] theorem State.setTicks_portWait : (s.setTicks x).portWait = s.portWait := rfl
@[simp] theorem State.setTicks_sram : (s.setTicks x).sram = s.sram := rfl
@[simp] theorem State.setTicks_ticks : (s.setTicks x).ticks = x := rfl
@[simp] theorem State.setTicks_lastServed : (s.setTicks x).lastServed = s.lastServed := rfl
@[simp] theorem State.setTicks_slot : (s.setTicks x).slot = s.slot := rfl
@[simp] theorem State.setTicks_supervisor : (s.setTicks x).supervisor = s.supervisor := rfl
@[simp] theorem State.setTicks_snapshot : (s.setTicks x).snapshot = s.snapshot := rfl
@[simp] theorem State.setTicks_link : (s.setTicks x).link = s.link := rfl
@[simp] theorem State.setTicks_jumpers : (s.setTicks x).jumpers = s.jumpers := rfl
@[simp] theorem State.setTicks_busAnswer : (s.setTicks x).busAnswer = s.busAnswer := rfl
@[simp] theorem State.setTicks_resets : (s.setTicks x).resets = s.resets := rfl
@[simp] theorem State.setTicks_pending : (s.setTicks x).pending = s.pending := rfl
end setTicksFields

section setLastServedFields
variable (m : Master)
@[simp] theorem State.setLastServed_leases : (s.setLastServed m).leases = s.leases := rfl
@[simp] theorem State.setLastServed_queue : (s.setLastServed m).queue = s.queue := rfl
@[simp] theorem State.setLastServed_sessions : (s.setLastServed m).sessions = s.sessions := rfl
@[simp] theorem State.setLastServed_policies : (s.setLastServed m).policies = s.policies := rfl
@[simp] theorem State.setLastServed_mailboxes : (s.setLastServed m).mailboxes = s.mailboxes := rfl
@[simp] theorem State.setLastServed_apertures : (s.setLastServed m).apertures = s.apertures := rfl
@[simp] theorem State.setLastServed_pool : (s.setLastServed m).pool = s.pool := rfl
@[simp] theorem State.setLastServed_engine : (s.setLastServed m).engine = s.engine := rfl
@[simp] theorem State.setLastServed_portWait : (s.setLastServed m).portWait = s.portWait := rfl
@[simp] theorem State.setLastServed_sram : (s.setLastServed m).sram = s.sram := rfl
@[simp] theorem State.setLastServed_ticks : (s.setLastServed m).ticks = s.ticks := rfl
@[simp] theorem State.setLastServed_lastServed : (s.setLastServed m).lastServed = m := rfl
@[simp] theorem State.setLastServed_slot : (s.setLastServed m).slot = s.slot := rfl
@[simp] theorem State.setLastServed_supervisor : (s.setLastServed m).supervisor = s.supervisor := rfl
@[simp] theorem State.setLastServed_snapshot : (s.setLastServed m).snapshot = s.snapshot := rfl
@[simp] theorem State.setLastServed_link : (s.setLastServed m).link = s.link := rfl
@[simp] theorem State.setLastServed_jumpers : (s.setLastServed m).jumpers = s.jumpers := rfl
@[simp] theorem State.setLastServed_busAnswer : (s.setLastServed m).busAnswer = s.busAnswer := rfl
@[simp] theorem State.setLastServed_resets : (s.setLastServed m).resets = s.resets := rfl
@[simp] theorem State.setLastServed_pending : (s.setLastServed m).pending = s.pending := rfl
end setLastServedFields

section setSlotFields
variable (x : Slot)
@[simp] theorem State.setSlot_leases : (s.setSlot x).leases = s.leases := rfl
@[simp] theorem State.setSlot_queue : (s.setSlot x).queue = s.queue := rfl
@[simp] theorem State.setSlot_sessions : (s.setSlot x).sessions = s.sessions := rfl
@[simp] theorem State.setSlot_policies : (s.setSlot x).policies = s.policies := rfl
@[simp] theorem State.setSlot_mailboxes : (s.setSlot x).mailboxes = s.mailboxes := rfl
@[simp] theorem State.setSlot_apertures : (s.setSlot x).apertures = s.apertures := rfl
@[simp] theorem State.setSlot_pool : (s.setSlot x).pool = s.pool := rfl
@[simp] theorem State.setSlot_engine : (s.setSlot x).engine = s.engine := rfl
@[simp] theorem State.setSlot_portWait : (s.setSlot x).portWait = s.portWait := rfl
@[simp] theorem State.setSlot_sram : (s.setSlot x).sram = s.sram := rfl
@[simp] theorem State.setSlot_ticks : (s.setSlot x).ticks = s.ticks := rfl
@[simp] theorem State.setSlot_lastServed : (s.setSlot x).lastServed = s.lastServed := rfl
@[simp] theorem State.setSlot_slot : (s.setSlot x).slot = x := rfl
@[simp] theorem State.setSlot_supervisor : (s.setSlot x).supervisor = s.supervisor := rfl
@[simp] theorem State.setSlot_snapshot : (s.setSlot x).snapshot = s.snapshot := rfl
@[simp] theorem State.setSlot_link : (s.setSlot x).link = s.link := rfl
@[simp] theorem State.setSlot_jumpers : (s.setSlot x).jumpers = s.jumpers := rfl
@[simp] theorem State.setSlot_busAnswer : (s.setSlot x).busAnswer = s.busAnswer := rfl
@[simp] theorem State.setSlot_resets : (s.setSlot x).resets = s.resets := rfl
@[simp] theorem State.setSlot_pending : (s.setSlot x).pending = s.pending := rfl
end setSlotFields

section setSupervisorFields
variable (x : Supervisor)
@[simp] theorem State.setSupervisor_leases : (s.setSupervisor x).leases = s.leases := rfl
@[simp] theorem State.setSupervisor_queue : (s.setSupervisor x).queue = s.queue := rfl
@[simp] theorem State.setSupervisor_sessions : (s.setSupervisor x).sessions = s.sessions := rfl
@[simp] theorem State.setSupervisor_policies : (s.setSupervisor x).policies = s.policies := rfl
@[simp] theorem State.setSupervisor_mailboxes : (s.setSupervisor x).mailboxes = s.mailboxes := rfl
@[simp] theorem State.setSupervisor_apertures : (s.setSupervisor x).apertures = s.apertures := rfl
@[simp] theorem State.setSupervisor_pool : (s.setSupervisor x).pool = s.pool := rfl
@[simp] theorem State.setSupervisor_engine : (s.setSupervisor x).engine = s.engine := rfl
@[simp] theorem State.setSupervisor_portWait : (s.setSupervisor x).portWait = s.portWait := rfl
@[simp] theorem State.setSupervisor_sram : (s.setSupervisor x).sram = s.sram := rfl
@[simp] theorem State.setSupervisor_ticks : (s.setSupervisor x).ticks = s.ticks := rfl
@[simp] theorem State.setSupervisor_lastServed : (s.setSupervisor x).lastServed = s.lastServed := rfl
@[simp] theorem State.setSupervisor_slot : (s.setSupervisor x).slot = s.slot := rfl
@[simp] theorem State.setSupervisor_supervisor : (s.setSupervisor x).supervisor = x := rfl
@[simp] theorem State.setSupervisor_snapshot : (s.setSupervisor x).snapshot = s.snapshot := rfl
@[simp] theorem State.setSupervisor_link : (s.setSupervisor x).link = s.link := rfl
@[simp] theorem State.setSupervisor_jumpers : (s.setSupervisor x).jumpers = s.jumpers := rfl
@[simp] theorem State.setSupervisor_busAnswer : (s.setSupervisor x).busAnswer = s.busAnswer := rfl
@[simp] theorem State.setSupervisor_resets : (s.setSupervisor x).resets = s.resets := rfl
@[simp] theorem State.setSupervisor_pending : (s.setSupervisor x).pending = s.pending := rfl
end setSupervisorFields

section setSnapshotFields
variable (x : Snapshot)
@[simp] theorem State.setSnapshot_leases : (s.setSnapshot x).leases = s.leases := rfl
@[simp] theorem State.setSnapshot_queue : (s.setSnapshot x).queue = s.queue := rfl
@[simp] theorem State.setSnapshot_sessions : (s.setSnapshot x).sessions = s.sessions := rfl
@[simp] theorem State.setSnapshot_policies : (s.setSnapshot x).policies = s.policies := rfl
@[simp] theorem State.setSnapshot_mailboxes : (s.setSnapshot x).mailboxes = s.mailboxes := rfl
@[simp] theorem State.setSnapshot_apertures : (s.setSnapshot x).apertures = s.apertures := rfl
@[simp] theorem State.setSnapshot_pool : (s.setSnapshot x).pool = s.pool := rfl
@[simp] theorem State.setSnapshot_engine : (s.setSnapshot x).engine = s.engine := rfl
@[simp] theorem State.setSnapshot_portWait : (s.setSnapshot x).portWait = s.portWait := rfl
@[simp] theorem State.setSnapshot_sram : (s.setSnapshot x).sram = s.sram := rfl
@[simp] theorem State.setSnapshot_ticks : (s.setSnapshot x).ticks = s.ticks := rfl
@[simp] theorem State.setSnapshot_lastServed : (s.setSnapshot x).lastServed = s.lastServed := rfl
@[simp] theorem State.setSnapshot_slot : (s.setSnapshot x).slot = s.slot := rfl
@[simp] theorem State.setSnapshot_supervisor : (s.setSnapshot x).supervisor = s.supervisor := rfl
@[simp] theorem State.setSnapshot_snapshot : (s.setSnapshot x).snapshot = x := rfl
@[simp] theorem State.setSnapshot_link : (s.setSnapshot x).link = s.link := rfl
@[simp] theorem State.setSnapshot_jumpers : (s.setSnapshot x).jumpers = s.jumpers := rfl
@[simp] theorem State.setSnapshot_busAnswer : (s.setSnapshot x).busAnswer = s.busAnswer := rfl
@[simp] theorem State.setSnapshot_resets : (s.setSnapshot x).resets = s.resets := rfl
@[simp] theorem State.setSnapshot_pending : (s.setSnapshot x).pending = s.pending := rfl
end setSnapshotFields

section setLinkFields
variable (x : Link)
@[simp] theorem State.setLink_leases : (s.setLink x).leases = s.leases := rfl
@[simp] theorem State.setLink_queue : (s.setLink x).queue = s.queue := rfl
@[simp] theorem State.setLink_sessions : (s.setLink x).sessions = s.sessions := rfl
@[simp] theorem State.setLink_policies : (s.setLink x).policies = s.policies := rfl
@[simp] theorem State.setLink_mailboxes : (s.setLink x).mailboxes = s.mailboxes := rfl
@[simp] theorem State.setLink_apertures : (s.setLink x).apertures = s.apertures := rfl
@[simp] theorem State.setLink_pool : (s.setLink x).pool = s.pool := rfl
@[simp] theorem State.setLink_engine : (s.setLink x).engine = s.engine := rfl
@[simp] theorem State.setLink_portWait : (s.setLink x).portWait = s.portWait := rfl
@[simp] theorem State.setLink_sram : (s.setLink x).sram = s.sram := rfl
@[simp] theorem State.setLink_ticks : (s.setLink x).ticks = s.ticks := rfl
@[simp] theorem State.setLink_lastServed : (s.setLink x).lastServed = s.lastServed := rfl
@[simp] theorem State.setLink_slot : (s.setLink x).slot = s.slot := rfl
@[simp] theorem State.setLink_supervisor : (s.setLink x).supervisor = s.supervisor := rfl
@[simp] theorem State.setLink_snapshot : (s.setLink x).snapshot = s.snapshot := rfl
@[simp] theorem State.setLink_link : (s.setLink x).link = x := rfl
@[simp] theorem State.setLink_jumpers : (s.setLink x).jumpers = s.jumpers := rfl
@[simp] theorem State.setLink_busAnswer : (s.setLink x).busAnswer = s.busAnswer := rfl
@[simp] theorem State.setLink_resets : (s.setLink x).resets = s.resets := rfl
@[simp] theorem State.setLink_pending : (s.setLink x).pending = s.pending := rfl
end setLinkFields

section setBusAnswerFields
variable (x : Option BusAnswer)
@[simp] theorem State.setBusAnswer_leases : (s.setBusAnswer x).leases = s.leases := rfl
@[simp] theorem State.setBusAnswer_queue : (s.setBusAnswer x).queue = s.queue := rfl
@[simp] theorem State.setBusAnswer_sessions : (s.setBusAnswer x).sessions = s.sessions := rfl
@[simp] theorem State.setBusAnswer_policies : (s.setBusAnswer x).policies = s.policies := rfl
@[simp] theorem State.setBusAnswer_mailboxes : (s.setBusAnswer x).mailboxes = s.mailboxes := rfl
@[simp] theorem State.setBusAnswer_apertures : (s.setBusAnswer x).apertures = s.apertures := rfl
@[simp] theorem State.setBusAnswer_pool : (s.setBusAnswer x).pool = s.pool := rfl
@[simp] theorem State.setBusAnswer_engine : (s.setBusAnswer x).engine = s.engine := rfl
@[simp] theorem State.setBusAnswer_portWait : (s.setBusAnswer x).portWait = s.portWait := rfl
@[simp] theorem State.setBusAnswer_sram : (s.setBusAnswer x).sram = s.sram := rfl
@[simp] theorem State.setBusAnswer_ticks : (s.setBusAnswer x).ticks = s.ticks := rfl
@[simp] theorem State.setBusAnswer_lastServed : (s.setBusAnswer x).lastServed = s.lastServed := rfl
@[simp] theorem State.setBusAnswer_slot : (s.setBusAnswer x).slot = s.slot := rfl
@[simp] theorem State.setBusAnswer_supervisor : (s.setBusAnswer x).supervisor = s.supervisor := rfl
@[simp] theorem State.setBusAnswer_snapshot : (s.setBusAnswer x).snapshot = s.snapshot := rfl
@[simp] theorem State.setBusAnswer_link : (s.setBusAnswer x).link = s.link := rfl
@[simp] theorem State.setBusAnswer_jumpers : (s.setBusAnswer x).jumpers = s.jumpers := rfl
@[simp] theorem State.setBusAnswer_busAnswer : (s.setBusAnswer x).busAnswer = x := rfl
@[simp] theorem State.setBusAnswer_resets : (s.setBusAnswer x).resets = s.resets := rfl
@[simp] theorem State.setBusAnswer_pending : (s.setBusAnswer x).pending = s.pending := rfl
end setBusAnswerFields

end Sys2Proof.Machine
end

