-- ==== Sys2Proof/Laws/Frames.lean ====
section
/-! SUPPORT. Laws/Frames.lean: which fields of the card each shared operation of Machine/Ops.lean can change. For
an operation X, X_frame says it in one equation, and X_<field> that a field outside the frame stays. -/

namespace Sys2Proof.Machine

open State

theorem State.chooseStep_frame (s : State) :
    ∃ e0, s.chooseStep = { s with engine := e0 } := by
  unfold chooseStep startScrubStep
  repeat' split
  all_goals exact ⟨_, rfl⟩

@[simp] theorem State.chooseStep_leases (s : State) : (s.chooseStep).leases = s.leases := by
  obtain ⟨_, h⟩ := s.chooseStep_frame ; rw [h]
@[simp] theorem State.chooseStep_queue (s : State) : (s.chooseStep).queue = s.queue := by
  obtain ⟨_, h⟩ := s.chooseStep_frame ; rw [h]
@[simp] theorem State.chooseStep_sessions (s : State) : (s.chooseStep).sessions = s.sessions := by
  obtain ⟨_, h⟩ := s.chooseStep_frame ; rw [h]
@[simp] theorem State.chooseStep_policies (s : State) : (s.chooseStep).policies = s.policies := by
  obtain ⟨_, h⟩ := s.chooseStep_frame ; rw [h]
@[simp] theorem State.chooseStep_mailboxes (s : State) : (s.chooseStep).mailboxes = s.mailboxes := by
  obtain ⟨_, h⟩ := s.chooseStep_frame ; rw [h]
@[simp] theorem State.chooseStep_apertures (s : State) : (s.chooseStep).apertures = s.apertures := by
  obtain ⟨_, h⟩ := s.chooseStep_frame ; rw [h]
@[simp] theorem State.chooseStep_pool (s : State) : (s.chooseStep).pool = s.pool := by
  obtain ⟨_, h⟩ := s.chooseStep_frame ; rw [h]
@[simp] theorem State.chooseStep_sram (s : State) : (s.chooseStep).sram = s.sram := by
  obtain ⟨_, h⟩ := s.chooseStep_frame ; rw [h]
@[simp] theorem State.chooseStep_ticks (s : State) : (s.chooseStep).ticks = s.ticks := by
  obtain ⟨_, h⟩ := s.chooseStep_frame ; rw [h]
@[simp] theorem State.chooseStep_lastServed (s : State) : (s.chooseStep).lastServed = s.lastServed := by
  obtain ⟨_, h⟩ := s.chooseStep_frame ; rw [h]
@[simp] theorem State.chooseStep_slot (s : State) : (s.chooseStep).slot = s.slot := by
  obtain ⟨_, h⟩ := s.chooseStep_frame ; rw [h]
@[simp] theorem State.chooseStep_supervisor (s : State) : (s.chooseStep).supervisor = s.supervisor := by
  obtain ⟨_, h⟩ := s.chooseStep_frame ; rw [h]
@[simp] theorem State.chooseStep_snapshot (s : State) : (s.chooseStep).snapshot = s.snapshot := by
  obtain ⟨_, h⟩ := s.chooseStep_frame ; rw [h]
@[simp] theorem State.chooseStep_link (s : State) : (s.chooseStep).link = s.link := by
  obtain ⟨_, h⟩ := s.chooseStep_frame ; rw [h]
@[simp] theorem State.chooseStep_jumpers (s : State) : (s.chooseStep).jumpers = s.jumpers := by
  obtain ⟨_, h⟩ := s.chooseStep_frame ; rw [h]
@[simp] theorem State.chooseStep_busAnswer (s : State) : (s.chooseStep).busAnswer = s.busAnswer := by
  obtain ⟨_, h⟩ := s.chooseStep_frame ; rw [h]
@[simp] theorem State.chooseStep_portWait (s : State) : (s.chooseStep).portWait = s.portWait := by
  obtain ⟨_, h⟩ := s.chooseStep_frame ; rw [h]
@[simp] theorem State.chooseStep_resets (s : State) : (s.chooseStep).resets = s.resets := by
  obtain ⟨_, h⟩ := s.chooseStep_frame ; rw [h]
@[simp] theorem State.chooseStep_pending (s : State) : (s.chooseStep).pending = s.pending := by
  obtain ⟨_, h⟩ := s.chooseStep_frame ; rw [h]

theorem State.wakeEngine_frame (s : State) :
    ∃ e0, s.wakeEngine = { s with engine := e0 } := by
  unfold wakeEngine
  split
  · exact s.chooseStep_frame
  · exact ⟨_, rfl⟩

@[simp] theorem State.wakeEngine_leases (s : State) : (s.wakeEngine).leases = s.leases := by
  obtain ⟨_, h⟩ := s.wakeEngine_frame ; rw [h]
@[simp] theorem State.wakeEngine_queue (s : State) : (s.wakeEngine).queue = s.queue := by
  obtain ⟨_, h⟩ := s.wakeEngine_frame ; rw [h]
@[simp] theorem State.wakeEngine_sessions (s : State) : (s.wakeEngine).sessions = s.sessions := by
  obtain ⟨_, h⟩ := s.wakeEngine_frame ; rw [h]
@[simp] theorem State.wakeEngine_policies (s : State) : (s.wakeEngine).policies = s.policies := by
  obtain ⟨_, h⟩ := s.wakeEngine_frame ; rw [h]
@[simp] theorem State.wakeEngine_mailboxes (s : State) : (s.wakeEngine).mailboxes = s.mailboxes := by
  obtain ⟨_, h⟩ := s.wakeEngine_frame ; rw [h]
@[simp] theorem State.wakeEngine_apertures (s : State) : (s.wakeEngine).apertures = s.apertures := by
  obtain ⟨_, h⟩ := s.wakeEngine_frame ; rw [h]
@[simp] theorem State.wakeEngine_pool (s : State) : (s.wakeEngine).pool = s.pool := by
  obtain ⟨_, h⟩ := s.wakeEngine_frame ; rw [h]
@[simp] theorem State.wakeEngine_sram (s : State) : (s.wakeEngine).sram = s.sram := by
  obtain ⟨_, h⟩ := s.wakeEngine_frame ; rw [h]
@[simp] theorem State.wakeEngine_ticks (s : State) : (s.wakeEngine).ticks = s.ticks := by
  obtain ⟨_, h⟩ := s.wakeEngine_frame ; rw [h]
@[simp] theorem State.wakeEngine_lastServed (s : State) : (s.wakeEngine).lastServed = s.lastServed := by
  obtain ⟨_, h⟩ := s.wakeEngine_frame ; rw [h]
@[simp] theorem State.wakeEngine_slot (s : State) : (s.wakeEngine).slot = s.slot := by
  obtain ⟨_, h⟩ := s.wakeEngine_frame ; rw [h]
@[simp] theorem State.wakeEngine_supervisor (s : State) : (s.wakeEngine).supervisor = s.supervisor := by
  obtain ⟨_, h⟩ := s.wakeEngine_frame ; rw [h]
@[simp] theorem State.wakeEngine_snapshot (s : State) : (s.wakeEngine).snapshot = s.snapshot := by
  obtain ⟨_, h⟩ := s.wakeEngine_frame ; rw [h]
@[simp] theorem State.wakeEngine_link (s : State) : (s.wakeEngine).link = s.link := by
  obtain ⟨_, h⟩ := s.wakeEngine_frame ; rw [h]
@[simp] theorem State.wakeEngine_jumpers (s : State) : (s.wakeEngine).jumpers = s.jumpers := by
  obtain ⟨_, h⟩ := s.wakeEngine_frame ; rw [h]
@[simp] theorem State.wakeEngine_busAnswer (s : State) : (s.wakeEngine).busAnswer = s.busAnswer := by
  obtain ⟨_, h⟩ := s.wakeEngine_frame ; rw [h]
@[simp] theorem State.wakeEngine_portWait (s : State) : (s.wakeEngine).portWait = s.portWait := by
  obtain ⟨_, h⟩ := s.wakeEngine_frame ; rw [h]
@[simp] theorem State.wakeEngine_resets (s : State) : (s.wakeEngine).resets = s.resets := by
  obtain ⟨_, h⟩ := s.wakeEngine_frame ; rw [h]
@[simp] theorem State.wakeEngine_pending (s : State) : (s.wakeEngine).pending = s.pending := by
  obtain ⟨_, h⟩ := s.wakeEngine_frame ; rw [h]

theorem State.allocate_frame (s : State) (run : Run) (x : BlockState) :
    ∃ p0 s1, s.allocate run x = { s with pool := p0, supervisor := s1 } := by
  unfold State.allocate
  dsimp only
  split
  all_goals exact ⟨_, _, rfl⟩

theorem State.scrubRun_frame (s : State) (run : Option Run) :
    ∃ p0, s.scrubRun run = { s with pool := p0 } := by
  cases run
  all_goals exact ⟨_, rfl⟩

theorem State.addOwnedBy_frame (s : State) (owner : Option Master) (a b : Nat) :
    ∃ s0, s.addOwnedBy owner a b = { s with sessions := s0 } := by
  cases owner
  all_goals exact ⟨_, rfl⟩

theorem State.dropOwnedBy_frame (s : State) (owner : Option Master) (a b : Nat) :
    ∃ s0, s.dropOwnedBy owner a b = { s with sessions := s0 } := by
  cases owner
  all_goals exact ⟨_, rfl⟩

/-- Changes of mailboxes alone, made one after another, change mailboxes alone. -/
theorem foldl_mailboxes {β : Type} (f : State → β → State)
    (h : ∀ s b, ∃ m, f s b = { s with mailboxes := m }) (l : List β) (s : State) :
    ∃ m, l.foldl f s = { s with mailboxes := m } := by
  induction l generalizing s with
  | nil => exact ⟨_, rfl⟩
  | cons b bs ih =>
    obtain ⟨_, h1⟩ := h s b
    rw [List.foldl_cons, h1]
    obtain ⟨_, h2⟩ := ih _
    exact ⟨_, h2⟩

theorem State.forMasters_frame (s : State) (set : MasterSet) (f : State → Master → State)
    (h : ∀ s m, ∃ b, f s m = { s with mailboxes := b }) : ∃ b, s.forMasters set f = { s with mailboxes := b } :=
  foldl_mailboxes f h _ s

theorem State.grantPass_frame (s : State) (r : RecordNo) :
    ∃ l0 q1 m2, s.grantPass r = { s with leases := l0, queue := q1, mailboxes := m2 } := by
  unfold State.grantPass
  generalize s.grantable r = l
  induction l generalizing s with
  | nil => exact ⟨_, _, _, rfl⟩
  | cons e es ih =>
    rw [List.foldl_cons]
    obtain ⟨_, _, _, h⟩ := ih (State.grantEntry r s e)
    exact ⟨_, _, _, h⟩

@[simp] theorem State.grantPass_sessions (s : State) (r : RecordNo) : (s.grantPass r).sessions = s.sessions := by
  obtain ⟨_, _, _, h⟩ := s.grantPass_frame r; rw [h]
@[simp] theorem State.grantPass_policies (s : State) (r : RecordNo) : (s.grantPass r).policies = s.policies := by
  obtain ⟨_, _, _, h⟩ := s.grantPass_frame r; rw [h]
@[simp] theorem State.grantPass_apertures (s : State) (r : RecordNo) : (s.grantPass r).apertures = s.apertures := by
  obtain ⟨_, _, _, h⟩ := s.grantPass_frame r; rw [h]
@[simp] theorem State.grantPass_pool (s : State) (r : RecordNo) : (s.grantPass r).pool = s.pool := by
  obtain ⟨_, _, _, h⟩ := s.grantPass_frame r; rw [h]
@[simp] theorem State.grantPass_engine (s : State) (r : RecordNo) : (s.grantPass r).engine = s.engine := by
  obtain ⟨_, _, _, h⟩ := s.grantPass_frame r; rw [h]
@[simp] theorem State.grantPass_sram (s : State) (r : RecordNo) : (s.grantPass r).sram = s.sram := by
  obtain ⟨_, _, _, h⟩ := s.grantPass_frame r; rw [h]
@[simp] theorem State.grantPass_ticks (s : State) (r : RecordNo) : (s.grantPass r).ticks = s.ticks := by
  obtain ⟨_, _, _, h⟩ := s.grantPass_frame r; rw [h]
@[simp] theorem State.grantPass_lastServed (s : State) (r : RecordNo) : (s.grantPass r).lastServed = s.lastServed := by
  obtain ⟨_, _, _, h⟩ := s.grantPass_frame r; rw [h]
@[simp] theorem State.grantPass_slot (s : State) (r : RecordNo) : (s.grantPass r).slot = s.slot := by
  obtain ⟨_, _, _, h⟩ := s.grantPass_frame r; rw [h]
@[simp] theorem State.grantPass_supervisor (s : State) (r : RecordNo) : (s.grantPass r).supervisor = s.supervisor := by
  obtain ⟨_, _, _, h⟩ := s.grantPass_frame r; rw [h]
@[simp] theorem State.grantPass_snapshot (s : State) (r : RecordNo) : (s.grantPass r).snapshot = s.snapshot := by
  obtain ⟨_, _, _, h⟩ := s.grantPass_frame r; rw [h]
@[simp] theorem State.grantPass_link (s : State) (r : RecordNo) : (s.grantPass r).link = s.link := by
  obtain ⟨_, _, _, h⟩ := s.grantPass_frame r; rw [h]
@[simp] theorem State.grantPass_jumpers (s : State) (r : RecordNo) : (s.grantPass r).jumpers = s.jumpers := by
  obtain ⟨_, _, _, h⟩ := s.grantPass_frame r; rw [h]
@[simp] theorem State.grantPass_busAnswer (s : State) (r : RecordNo) : (s.grantPass r).busAnswer = s.busAnswer := by
  obtain ⟨_, _, _, h⟩ := s.grantPass_frame r; rw [h]
@[simp] theorem State.grantPass_portWait (s : State) (r : RecordNo) : (s.grantPass r).portWait = s.portWait := by
  obtain ⟨_, _, _, h⟩ := s.grantPass_frame r; rw [h]
@[simp] theorem State.grantPass_resets (s : State) (r : RecordNo) : (s.grantPass r).resets = s.resets := by
  obtain ⟨_, _, _, h⟩ := s.grantPass_frame r; rw [h]
@[simp] theorem State.grantPass_pending (s : State) (r : RecordNo) : (s.grantPass r).pending = s.pending := by
  obtain ⟨_, _, _, h⟩ := s.grantPass_frame r; rw [h]

theorem State.removeEntry_frame (s : State) (e : WaitEntry) :
    ∃ l0 q1 m2, s.removeEntry e = { s with leases := l0, queue := q1, mailboxes := m2 } := by
  unfold State.removeEntry
  dsimp only
  split
  · split
    · next r _ =>
      obtain ⟨_, _, _, h⟩ := (s.setQueue (dropFromQueue s.queue e.master e.handle)).grantPass_frame r
      exact ⟨_, _, _, h⟩
    · exact ⟨_, _, _, rfl⟩
  · exact ⟨_, _, _, rfl⟩

@[simp] theorem State.removeEntry_sessions (s : State) (e : WaitEntry) : (s.removeEntry e).sessions = s.sessions := by
  obtain ⟨_, _, _, h⟩ := s.removeEntry_frame e; rw [h]
@[simp] theorem State.removeEntry_policies (s : State) (e : WaitEntry) : (s.removeEntry e).policies = s.policies := by
  obtain ⟨_, _, _, h⟩ := s.removeEntry_frame e; rw [h]
@[simp] theorem State.removeEntry_apertures (s : State) (e : WaitEntry) : (s.removeEntry e).apertures = s.apertures := by
  obtain ⟨_, _, _, h⟩ := s.removeEntry_frame e; rw [h]
@[simp] theorem State.removeEntry_pool (s : State) (e : WaitEntry) : (s.removeEntry e).pool = s.pool := by
  obtain ⟨_, _, _, h⟩ := s.removeEntry_frame e; rw [h]
@[simp] theorem State.removeEntry_engine (s : State) (e : WaitEntry) : (s.removeEntry e).engine = s.engine := by
  obtain ⟨_, _, _, h⟩ := s.removeEntry_frame e; rw [h]
@[simp] theorem State.removeEntry_sram (s : State) (e : WaitEntry) : (s.removeEntry e).sram = s.sram := by
  obtain ⟨_, _, _, h⟩ := s.removeEntry_frame e; rw [h]
@[simp] theorem State.removeEntry_ticks (s : State) (e : WaitEntry) : (s.removeEntry e).ticks = s.ticks := by
  obtain ⟨_, _, _, h⟩ := s.removeEntry_frame e; rw [h]
@[simp] theorem State.removeEntry_lastServed (s : State) (e : WaitEntry) : (s.removeEntry e).lastServed = s.lastServed := by
  obtain ⟨_, _, _, h⟩ := s.removeEntry_frame e; rw [h]
@[simp] theorem State.removeEntry_slot (s : State) (e : WaitEntry) : (s.removeEntry e).slot = s.slot := by
  obtain ⟨_, _, _, h⟩ := s.removeEntry_frame e; rw [h]
@[simp] theorem State.removeEntry_supervisor (s : State) (e : WaitEntry) : (s.removeEntry e).supervisor = s.supervisor := by
  obtain ⟨_, _, _, h⟩ := s.removeEntry_frame e; rw [h]
@[simp] theorem State.removeEntry_snapshot (s : State) (e : WaitEntry) : (s.removeEntry e).snapshot = s.snapshot := by
  obtain ⟨_, _, _, h⟩ := s.removeEntry_frame e; rw [h]
@[simp] theorem State.removeEntry_link (s : State) (e : WaitEntry) : (s.removeEntry e).link = s.link := by
  obtain ⟨_, _, _, h⟩ := s.removeEntry_frame e; rw [h]
@[simp] theorem State.removeEntry_jumpers (s : State) (e : WaitEntry) : (s.removeEntry e).jumpers = s.jumpers := by
  obtain ⟨_, _, _, h⟩ := s.removeEntry_frame e; rw [h]
@[simp] theorem State.removeEntry_busAnswer (s : State) (e : WaitEntry) : (s.removeEntry e).busAnswer = s.busAnswer := by
  obtain ⟨_, _, _, h⟩ := s.removeEntry_frame e; rw [h]
@[simp] theorem State.removeEntry_portWait (s : State) (e : WaitEntry) : (s.removeEntry e).portWait = s.portWait := by
  obtain ⟨_, _, _, h⟩ := s.removeEntry_frame e; rw [h]
@[simp] theorem State.removeEntry_resets (s : State) (e : WaitEntry) : (s.removeEntry e).resets = s.resets := by
  obtain ⟨_, _, _, h⟩ := s.removeEntry_frame e; rw [h]
@[simp] theorem State.removeEntry_pending (s : State) (e : WaitEntry) : (s.removeEntry e).pending = s.pending := by
  obtain ⟨_, _, _, h⟩ := s.removeEntry_frame e; rw [h]

theorem State.abandonMove_frame (s : State) (r : RecordNo) (reason : MoveReason) :
    ∃ l0 m1 p2 e3, s.abandonMove r reason = { s with leases := l0, mailboxes := m1, pool := p2, engine := e3 } := by
  unfold State.abandonMove
  obtain ⟨_, h⟩ := s.scrubRun_frame (s.lease r).target
  rw [h]
  refine (State.forMasters_frame _ _ _ ?_).elim fun _ h' => ⟨_, _, _, _, h'⟩
  exact fun s m => ⟨_, rfl⟩

@[simp] theorem State.abandonMove_queue (s : State) (r : RecordNo) (reason : MoveReason) : (s.abandonMove r reason).queue = s.queue := by
  obtain ⟨_, _, _, _, h⟩ := s.abandonMove_frame r reason; rw [h]
@[simp] theorem State.abandonMove_sessions (s : State) (r : RecordNo) (reason : MoveReason) : (s.abandonMove r reason).sessions = s.sessions := by
  obtain ⟨_, _, _, _, h⟩ := s.abandonMove_frame r reason; rw [h]
@[simp] theorem State.abandonMove_policies (s : State) (r : RecordNo) (reason : MoveReason) : (s.abandonMove r reason).policies = s.policies := by
  obtain ⟨_, _, _, _, h⟩ := s.abandonMove_frame r reason; rw [h]
@[simp] theorem State.abandonMove_apertures (s : State) (r : RecordNo) (reason : MoveReason) : (s.abandonMove r reason).apertures = s.apertures := by
  obtain ⟨_, _, _, _, h⟩ := s.abandonMove_frame r reason; rw [h]
@[simp] theorem State.abandonMove_sram (s : State) (r : RecordNo) (reason : MoveReason) : (s.abandonMove r reason).sram = s.sram := by
  obtain ⟨_, _, _, _, h⟩ := s.abandonMove_frame r reason; rw [h]
@[simp] theorem State.abandonMove_ticks (s : State) (r : RecordNo) (reason : MoveReason) : (s.abandonMove r reason).ticks = s.ticks := by
  obtain ⟨_, _, _, _, h⟩ := s.abandonMove_frame r reason; rw [h]
@[simp] theorem State.abandonMove_lastServed (s : State) (r : RecordNo) (reason : MoveReason) : (s.abandonMove r reason).lastServed = s.lastServed := by
  obtain ⟨_, _, _, _, h⟩ := s.abandonMove_frame r reason; rw [h]
@[simp] theorem State.abandonMove_slot (s : State) (r : RecordNo) (reason : MoveReason) : (s.abandonMove r reason).slot = s.slot := by
  obtain ⟨_, _, _, _, h⟩ := s.abandonMove_frame r reason; rw [h]
@[simp] theorem State.abandonMove_supervisor (s : State) (r : RecordNo) (reason : MoveReason) : (s.abandonMove r reason).supervisor = s.supervisor := by
  obtain ⟨_, _, _, _, h⟩ := s.abandonMove_frame r reason; rw [h]
@[simp] theorem State.abandonMove_snapshot (s : State) (r : RecordNo) (reason : MoveReason) : (s.abandonMove r reason).snapshot = s.snapshot := by
  obtain ⟨_, _, _, _, h⟩ := s.abandonMove_frame r reason; rw [h]
@[simp] theorem State.abandonMove_link (s : State) (r : RecordNo) (reason : MoveReason) : (s.abandonMove r reason).link = s.link := by
  obtain ⟨_, _, _, _, h⟩ := s.abandonMove_frame r reason; rw [h]
@[simp] theorem State.abandonMove_jumpers (s : State) (r : RecordNo) (reason : MoveReason) : (s.abandonMove r reason).jumpers = s.jumpers := by
  obtain ⟨_, _, _, _, h⟩ := s.abandonMove_frame r reason; rw [h]
@[simp] theorem State.abandonMove_busAnswer (s : State) (r : RecordNo) (reason : MoveReason) : (s.abandonMove r reason).busAnswer = s.busAnswer := by
  obtain ⟨_, _, _, _, h⟩ := s.abandonMove_frame r reason; rw [h]
@[simp] theorem State.abandonMove_portWait (s : State) (r : RecordNo) (reason : MoveReason) : (s.abandonMove r reason).portWait = s.portWait := by
  obtain ⟨_, _, _, _, h⟩ := s.abandonMove_frame r reason; rw [h]
@[simp] theorem State.abandonMove_resets (s : State) (r : RecordNo) (reason : MoveReason) : (s.abandonMove r reason).resets = s.resets := by
  obtain ⟨_, _, _, _, h⟩ := s.abandonMove_frame r reason; rw [h]
@[simp] theorem State.abandonMove_pending (s : State) (r : RecordNo) (reason : MoveReason) : (s.abandonMove r reason).pending = s.pending := by
  obtain ⟨_, _, _, _, h⟩ := s.abandonMove_frame r reason; rw [h]

theorem State.retireMove_frame (s : State) (r : RecordNo) :
    ∃ l0 m1 p2 e3, s.retireMove r = { s with leases := l0, mailboxes := m1, pool := p2, engine := e3 } := by
  unfold State.retireMove
  split
  · exact s.abandonMove_frame r .revoked
  · exact ⟨_, _, _, _, rfl⟩

theorem State.withdrawWaiters_frame (s : State) (h : Handle) :
    ∃ q0 m1, s.withdrawWaiters h = { s with queue := q0, mailboxes := m1 } := by
  unfold State.withdrawWaiters
  obtain ⟨_, e⟩ := foldl_mailboxes
    (fun s' e => State.endWait s' e.master
      { handle := h, mode := some (WaitKind.mode e.kind), result := some .withdrawn })
    (fun s b => ⟨_, rfl⟩) (s.entriesFor h) s
  rw [e]
  exact ⟨_, _, rfl⟩

theorem State.retireApertures_frame (s : State) (r : RecordNo) (cause : RetireCause) :
    ∃ m0 a1, s.retireApertures r cause = { s with mailboxes := m0, apertures := a1 } := by
  cases cause with
  | emptied => exact ⟨_, _, rfl⟩
  | byOwner =>
    unfold State.retireApertures
    dsimp only
    split
    all_goals exact ⟨_, _, rfl⟩
  | revoked =>
    unfold State.retireApertures
    refine (State.forMasters_frame _ _ _ ?_).elim fun _ h' => ⟨_, _, h'⟩
    exact fun s m => ⟨_, rfl⟩

theorem State.freeRecord_frame (s : State) (r : RecordNo) :
    ∃ l0 s1 p2, s.freeRecord r = { s with leases := l0, sessions := s1, pool := p2 } := by
  unfold State.freeRecord
  obtain ⟨_, h⟩ := s.scrubRun_frame (s.lease r).run
  rw [h]
  obtain ⟨_, h'⟩ := State.dropOwnedBy_frame { s with pool := _ } (s.lease r).owner 1 (s.lease r).length
  rw [h']
  exact ⟨_, _, _, rfl⟩

theorem State.retire_frame (s : State) (r : RecordNo) (cause : RetireCause) :
    ∃ l0 q1 s2 m3 a4 p5 e6, s.retire r cause = { s with leases := l0, queue := q1, sessions := s2, mailboxes := m3, apertures := a4, pool := p5, engine := e6 } := by
  unfold State.retire
  obtain ⟨_, _, _, _, h⟩ := s.retireMove_frame r
  rw [h]
  obtain ⟨_, _, h⟩ := State.withdrawWaiters_frame { s with leases := _, mailboxes := _, pool := _, engine := _ } (s.handle r)
  rw [h]
  obtain ⟨_, _, h⟩ := State.retireApertures_frame _ r cause
  rw [h]
  obtain ⟨_, _, _, h⟩ := State.freeRecord_frame _ r
  exact ⟨_, _, _, _, _, _, _, h⟩

@[simp] theorem State.retire_policies (s : State) (r : RecordNo) (cause : RetireCause) : (s.retire r cause).policies = s.policies := by
  obtain ⟨_, _, _, _, _, _, _, h⟩ := s.retire_frame r cause; rw [h]
@[simp] theorem State.retire_sram (s : State) (r : RecordNo) (cause : RetireCause) : (s.retire r cause).sram = s.sram := by
  obtain ⟨_, _, _, _, _, _, _, h⟩ := s.retire_frame r cause; rw [h]
@[simp] theorem State.retire_ticks (s : State) (r : RecordNo) (cause : RetireCause) : (s.retire r cause).ticks = s.ticks := by
  obtain ⟨_, _, _, _, _, _, _, h⟩ := s.retire_frame r cause; rw [h]
@[simp] theorem State.retire_lastServed (s : State) (r : RecordNo) (cause : RetireCause) : (s.retire r cause).lastServed = s.lastServed := by
  obtain ⟨_, _, _, _, _, _, _, h⟩ := s.retire_frame r cause; rw [h]
@[simp] theorem State.retire_slot (s : State) (r : RecordNo) (cause : RetireCause) : (s.retire r cause).slot = s.slot := by
  obtain ⟨_, _, _, _, _, _, _, h⟩ := s.retire_frame r cause; rw [h]
@[simp] theorem State.retire_supervisor (s : State) (r : RecordNo) (cause : RetireCause) : (s.retire r cause).supervisor = s.supervisor := by
  obtain ⟨_, _, _, _, _, _, _, h⟩ := s.retire_frame r cause; rw [h]
@[simp] theorem State.retire_snapshot (s : State) (r : RecordNo) (cause : RetireCause) : (s.retire r cause).snapshot = s.snapshot := by
  obtain ⟨_, _, _, _, _, _, _, h⟩ := s.retire_frame r cause; rw [h]
@[simp] theorem State.retire_link (s : State) (r : RecordNo) (cause : RetireCause) : (s.retire r cause).link = s.link := by
  obtain ⟨_, _, _, _, _, _, _, h⟩ := s.retire_frame r cause; rw [h]
@[simp] theorem State.retire_jumpers (s : State) (r : RecordNo) (cause : RetireCause) : (s.retire r cause).jumpers = s.jumpers := by
  obtain ⟨_, _, _, _, _, _, _, h⟩ := s.retire_frame r cause; rw [h]
@[simp] theorem State.retire_busAnswer (s : State) (r : RecordNo) (cause : RetireCause) : (s.retire r cause).busAnswer = s.busAnswer := by
  obtain ⟨_, _, _, _, _, _, _, h⟩ := s.retire_frame r cause; rw [h]
@[simp] theorem State.retire_portWait (s : State) (r : RecordNo) (cause : RetireCause) : (s.retire r cause).portWait = s.portWait := by
  obtain ⟨_, _, _, _, _, _, _, h⟩ := s.retire_frame r cause; rw [h]
@[simp] theorem State.retire_resets (s : State) (r : RecordNo) (cause : RetireCause) : (s.retire r cause).resets = s.resets := by
  obtain ⟨_, _, _, _, _, _, _, h⟩ := s.retire_frame r cause; rw [h]
@[simp] theorem State.retire_pending (s : State) (r : RecordNo) (cause : RetireCause) : (s.retire r cause).pending = s.pending := by
  obtain ⟨_, _, _, _, _, _, _, h⟩ := s.retire_frame r cause; rw [h]

theorem State.settle_frame (s : State) (r : RecordNo) :
    ∃ l0 q1 s2 m3 a4 p5 e6, s.settle r = { s with leases := l0, queue := q1, sessions := s2, mailboxes := m3, apertures := a4, pool := p5, engine := e6 } := by
  unfold State.settle
  split
  · exact ⟨_, _, _, _, _, _, _, rfl⟩
  · exact ⟨_, _, _, _, _, _, _, rfl⟩
  · exact s.retire_frame r .emptied

@[simp] theorem State.settle_policies (s : State) (r : RecordNo) : (s.settle r).policies = s.policies := by
  obtain ⟨_, _, _, _, _, _, _, h⟩ := s.settle_frame r; rw [h]
@[simp] theorem State.settle_sram (s : State) (r : RecordNo) : (s.settle r).sram = s.sram := by
  obtain ⟨_, _, _, _, _, _, _, h⟩ := s.settle_frame r; rw [h]
@[simp] theorem State.settle_ticks (s : State) (r : RecordNo) : (s.settle r).ticks = s.ticks := by
  obtain ⟨_, _, _, _, _, _, _, h⟩ := s.settle_frame r; rw [h]
@[simp] theorem State.settle_lastServed (s : State) (r : RecordNo) : (s.settle r).lastServed = s.lastServed := by
  obtain ⟨_, _, _, _, _, _, _, h⟩ := s.settle_frame r; rw [h]
@[simp] theorem State.settle_slot (s : State) (r : RecordNo) : (s.settle r).slot = s.slot := by
  obtain ⟨_, _, _, _, _, _, _, h⟩ := s.settle_frame r; rw [h]
@[simp] theorem State.settle_supervisor (s : State) (r : RecordNo) : (s.settle r).supervisor = s.supervisor := by
  obtain ⟨_, _, _, _, _, _, _, h⟩ := s.settle_frame r; rw [h]
@[simp] theorem State.settle_snapshot (s : State) (r : RecordNo) : (s.settle r).snapshot = s.snapshot := by
  obtain ⟨_, _, _, _, _, _, _, h⟩ := s.settle_frame r; rw [h]
@[simp] theorem State.settle_link (s : State) (r : RecordNo) : (s.settle r).link = s.link := by
  obtain ⟨_, _, _, _, _, _, _, h⟩ := s.settle_frame r; rw [h]
@[simp] theorem State.settle_jumpers (s : State) (r : RecordNo) : (s.settle r).jumpers = s.jumpers := by
  obtain ⟨_, _, _, _, _, _, _, h⟩ := s.settle_frame r; rw [h]
@[simp] theorem State.settle_busAnswer (s : State) (r : RecordNo) : (s.settle r).busAnswer = s.busAnswer := by
  obtain ⟨_, _, _, _, _, _, _, h⟩ := s.settle_frame r; rw [h]
@[simp] theorem State.settle_portWait (s : State) (r : RecordNo) : (s.settle r).portWait = s.portWait := by
  obtain ⟨_, _, _, _, _, _, _, h⟩ := s.settle_frame r; rw [h]
@[simp] theorem State.settle_resets (s : State) (r : RecordNo) : (s.settle r).resets = s.resets := by
  obtain ⟨_, _, _, _, _, _, _, h⟩ := s.settle_frame r; rw [h]
@[simp] theorem State.settle_pending (s : State) (r : RecordNo) : (s.settle r).pending = s.pending := by
  obtain ⟨_, _, _, _, _, _, _, h⟩ := s.settle_frame r; rw [h]

theorem State.leave_frame (s : State) (r : RecordNo) (m : Master) :
    ∃ l0 q1 m2, s.leave r m = { s with leases := l0, queue := q1, mailboxes := m2 } := by
  unfold State.leave
  obtain ⟨_, _, _, h⟩ := (s.removeHolder r m).grantPass_frame r
  exact ⟨_, _, _, h⟩

@[simp] theorem State.leave_sessions (s : State) (r : RecordNo) (m : Master) : (s.leave r m).sessions = s.sessions := by
  obtain ⟨_, _, _, h⟩ := s.leave_frame r m; rw [h]
@[simp] theorem State.leave_policies (s : State) (r : RecordNo) (m : Master) : (s.leave r m).policies = s.policies := by
  obtain ⟨_, _, _, h⟩ := s.leave_frame r m; rw [h]
@[simp] theorem State.leave_apertures (s : State) (r : RecordNo) (m : Master) : (s.leave r m).apertures = s.apertures := by
  obtain ⟨_, _, _, h⟩ := s.leave_frame r m; rw [h]
@[simp] theorem State.leave_pool (s : State) (r : RecordNo) (m : Master) : (s.leave r m).pool = s.pool := by
  obtain ⟨_, _, _, h⟩ := s.leave_frame r m; rw [h]
@[simp] theorem State.leave_engine (s : State) (r : RecordNo) (m : Master) : (s.leave r m).engine = s.engine := by
  obtain ⟨_, _, _, h⟩ := s.leave_frame r m; rw [h]
@[simp] theorem State.leave_sram (s : State) (r : RecordNo) (m : Master) : (s.leave r m).sram = s.sram := by
  obtain ⟨_, _, _, h⟩ := s.leave_frame r m; rw [h]
@[simp] theorem State.leave_ticks (s : State) (r : RecordNo) (m : Master) : (s.leave r m).ticks = s.ticks := by
  obtain ⟨_, _, _, h⟩ := s.leave_frame r m; rw [h]
@[simp] theorem State.leave_lastServed (s : State) (r : RecordNo) (m : Master) : (s.leave r m).lastServed = s.lastServed := by
  obtain ⟨_, _, _, h⟩ := s.leave_frame r m; rw [h]
@[simp] theorem State.leave_slot (s : State) (r : RecordNo) (m : Master) : (s.leave r m).slot = s.slot := by
  obtain ⟨_, _, _, h⟩ := s.leave_frame r m; rw [h]
@[simp] theorem State.leave_supervisor (s : State) (r : RecordNo) (m : Master) : (s.leave r m).supervisor = s.supervisor := by
  obtain ⟨_, _, _, h⟩ := s.leave_frame r m; rw [h]
@[simp] theorem State.leave_snapshot (s : State) (r : RecordNo) (m : Master) : (s.leave r m).snapshot = s.snapshot := by
  obtain ⟨_, _, _, h⟩ := s.leave_frame r m; rw [h]
@[simp] theorem State.leave_link (s : State) (r : RecordNo) (m : Master) : (s.leave r m).link = s.link := by
  obtain ⟨_, _, _, h⟩ := s.leave_frame r m; rw [h]
@[simp] theorem State.leave_jumpers (s : State) (r : RecordNo) (m : Master) : (s.leave r m).jumpers = s.jumpers := by
  obtain ⟨_, _, _, h⟩ := s.leave_frame r m; rw [h]
@[simp] theorem State.leave_busAnswer (s : State) (r : RecordNo) (m : Master) : (s.leave r m).busAnswer = s.busAnswer := by
  obtain ⟨_, _, _, h⟩ := s.leave_frame r m; rw [h]
@[simp] theorem State.leave_portWait (s : State) (r : RecordNo) (m : Master) : (s.leave r m).portWait = s.portWait := by
  obtain ⟨_, _, _, h⟩ := s.leave_frame r m; rw [h]
@[simp] theorem State.leave_resets (s : State) (r : RecordNo) (m : Master) : (s.leave r m).resets = s.resets := by
  obtain ⟨_, _, _, h⟩ := s.leave_frame r m; rw [h]
@[simp] theorem State.leave_pending (s : State) (r : RecordNo) (m : Master) : (s.leave r m).pending = s.pending := by
  obtain ⟨_, _, _, h⟩ := s.leave_frame r m; rw [h]

theorem State.endStage1_frame (s : State) (m : Master) :
    ∃ l0 q1 m2, s.endStage1 m = { s with leases := l0, queue := q1, mailboxes := m2 } := by
  unfold State.endStage1
  split
  · exact s.removeEntry_frame _
  · exact ⟨_, _, _, rfl⟩

theorem State.endStage2_frame (s : State) (m : Master) :
    ∃ l0 m1 p2 e3, s.endStage2 m = { s with leases := l0, mailboxes := m1, pool := p2, engine := e3 } := by
  unfold State.endStage2
  repeat' split
  · exact s.abandonMove_frame _ _
  · exact ⟨_, _, _, _, rfl⟩
  · exact ⟨_, _, _, _, rfl⟩

theorem State.endStage3_frame (s : State) (m : Master) :
    ∃ l0 q1 s2 m3 a4 p5 e6, s.endStage3 m = { s with leases := l0, queue := q1, sessions := s2, mailboxes := m3, apertures := a4, pool := p5, engine := e6 } := by
  unfold State.endStage3
  generalize allRecords = l
  induction l generalizing s with
  | nil => exact ⟨_, _, _, _, _, _, _, rfl⟩
  | cons r rs ih =>
    rw [List.foldl_cons]
    have hs : ∃ a b c d e f g, State.endHold m s r =
        { s with leases := a, queue := b, sessions := c, mailboxes := d, apertures := e, pool := f, engine := g } := by
      unfold State.endHold
      split
      · obtain ⟨_, _, _, h⟩ := s.leave_frame r m
        rw [h]
        obtain ⟨_, _, _, _, _, _, _, h⟩ := State.settle_frame { s with leases := _, queue := _, mailboxes := _ } r
        exact ⟨_, _, _, _, _, _, _, h⟩
      · exact ⟨_, _, _, _, _, _, _, rfl⟩
    obtain ⟨_, _, _, _, _, _, _, h⟩ := hs
    rw [h]
    obtain ⟨_, _, _, _, _, _, _, h⟩ := ih _
    exact ⟨_, _, _, _, _, _, _, h⟩

theorem State.endSession_frame (s : State) (m : Master) (reason : EndReason) :
    ∃ l0 q1 s2 m3 a4 p5 e6 s7, s.endSession m reason = { s with leases := l0, queue := q1, sessions := s2, mailboxes := m3, apertures := a4, pool := p5, engine := e6, supervisor := s7 } := by
  unfold State.endSession
  obtain ⟨_, _, _, h⟩ := s.endStage1_frame m
  rw [h]
  obtain ⟨_, _, _, _, h⟩ := State.endStage2_frame { s with leases := _, queue := _, mailboxes := _ } m
  rw [h]
  obtain ⟨_, _, _, _, _, _, _, h⟩ := State.endStage3_frame _ m
  rw [h]
  cases reason
  all_goals exact ⟨_, _, _, _, _, _, _, _, rfl⟩

@[simp] theorem State.endSession_policies (s : State) (m : Master) (reason : EndReason) : (s.endSession m reason).policies = s.policies := by
  obtain ⟨_, _, _, _, _, _, _, _, h⟩ := s.endSession_frame m reason; rw [h]
@[simp] theorem State.endSession_sram (s : State) (m : Master) (reason : EndReason) : (s.endSession m reason).sram = s.sram := by
  obtain ⟨_, _, _, _, _, _, _, _, h⟩ := s.endSession_frame m reason; rw [h]
@[simp] theorem State.endSession_ticks (s : State) (m : Master) (reason : EndReason) : (s.endSession m reason).ticks = s.ticks := by
  obtain ⟨_, _, _, _, _, _, _, _, h⟩ := s.endSession_frame m reason; rw [h]
@[simp] theorem State.endSession_lastServed (s : State) (m : Master) (reason : EndReason) : (s.endSession m reason).lastServed = s.lastServed := by
  obtain ⟨_, _, _, _, _, _, _, _, h⟩ := s.endSession_frame m reason; rw [h]
@[simp] theorem State.endSession_slot (s : State) (m : Master) (reason : EndReason) : (s.endSession m reason).slot = s.slot := by
  obtain ⟨_, _, _, _, _, _, _, _, h⟩ := s.endSession_frame m reason; rw [h]
@[simp] theorem State.endSession_snapshot (s : State) (m : Master) (reason : EndReason) : (s.endSession m reason).snapshot = s.snapshot := by
  obtain ⟨_, _, _, _, _, _, _, _, h⟩ := s.endSession_frame m reason; rw [h]
@[simp] theorem State.endSession_link (s : State) (m : Master) (reason : EndReason) : (s.endSession m reason).link = s.link := by
  obtain ⟨_, _, _, _, _, _, _, _, h⟩ := s.endSession_frame m reason; rw [h]
@[simp] theorem State.endSession_jumpers (s : State) (m : Master) (reason : EndReason) : (s.endSession m reason).jumpers = s.jumpers := by
  obtain ⟨_, _, _, _, _, _, _, _, h⟩ := s.endSession_frame m reason; rw [h]
@[simp] theorem State.endSession_busAnswer (s : State) (m : Master) (reason : EndReason) : (s.endSession m reason).busAnswer = s.busAnswer := by
  obtain ⟨_, _, _, _, _, _, _, _, h⟩ := s.endSession_frame m reason; rw [h]
@[simp] theorem State.endSession_portWait (s : State) (m : Master) (reason : EndReason) : (s.endSession m reason).portWait = s.portWait := by
  obtain ⟨_, _, _, _, _, _, _, _, h⟩ := s.endSession_frame m reason; rw [h]
@[simp] theorem State.endSession_resets (s : State) (m : Master) (reason : EndReason) : (s.endSession m reason).resets = s.resets := by
  obtain ⟨_, _, _, _, _, _, _, _, h⟩ := s.endSession_frame m reason; rw [h]
@[simp] theorem State.endSession_pending (s : State) (m : Master) (reason : EndReason) : (s.endSession m reason).pending = s.pending := by
  obtain ⟨_, _, _, _, _, _, _, _, h⟩ := s.endSession_frame m reason; rw [h]

end Sys2Proof.Machine
end

