-- ==== Sys2Proof/Laws/Memory.lean ====
section
/-! SUPPORT. Laws/Memory.lean: reading SRAM after it is changed, and that every operation on it keeps the canonical
form. -/

namespace Sys2Proof.Machine.Memory

theorem above_iff (bound : Nat) (mem : Memory) : above bound mem = true ↔ ∀ c ∈ mem, bound < c.1 := by
  simp [above]

theorem above_mono {a b : Nat} {mem : Memory} (h : above a mem = true) (hb : b ≤ a) : above b mem = true := by
  rw [above_iff] at *
  intro c hc
  have := h c hc
  omega

/-- The canonical form of a memory with a cell in front. -/
theorem wf_cons (c : Host.Cell) (cs : Memory) :
    wf (c :: cs) = true ↔ c.2 ≠ unlisted ∧ (∀ d ∈ cs, c.1 < d.1) ∧ wf cs = true := by
  simp [wf, above_iff, and_assoc]

/-- Below its first cell a memory reads as unlisted. -/
theorem read_of_lt {mem : Memory} {a : Nat} (h : ∀ c ∈ mem, a < c.1) : read mem a = unlisted := by
  induction mem with
  | nil => rfl
  | cons c cs ih =>
    have := h c (by simp)
    rw [read, if_neg (by omega)]
    exact ih fun d hd => h d (by simp [hd])

theorem read_consCell (a : Nat) (b : Byte) (rest : Memory) (x : Nat) (h : read rest a = unlisted) :
    read (consCell a b rest) x = if x = a then b else read rest x := by
  unfold consCell
  by_cases hb : b = unlisted
  · rw [if_pos hb]
    by_cases hx : x = a
    · rw [if_pos hx, hx, h, hb]
    · rw [if_neg hx]
  · rw [if_neg hb]; rfl

/-- Read after write: the byte written, and every other byte as before. -/
theorem read_write {mem : Memory} (h : wf mem = true) (a : Nat) (b : Byte) (x : Nat) :
    read (write mem a b) x = if x = a then b else read mem x := by
  induction mem with
  | nil => exact read_consCell a b [] x rfl
  | cons c cs ih =>
    rw [wf_cons] at h
    obtain ⟨-, hab, hwf⟩ := h
    rw [write]
    by_cases h1 : a < c.1
    · rw [if_pos h1]
      refine read_consCell a b (c :: cs) x (read_of_lt ?_)
      intro d hd
      rcases List.mem_cons.1 hd with rfl | hd
      · exact h1
      · have := hab d hd; omega
    · rw [if_neg h1]
      by_cases h2 : a = c.1
      · rw [if_pos h2]
        rw [read_consCell a b cs x (read_of_lt fun d hd => by have := hab d hd; omega)]
        by_cases hx : x = a
        · rw [if_pos hx, if_pos hx]
        · rw [if_neg hx, if_neg hx, read, if_neg (by omega)]
      · rw [if_neg h2, read, read]
        by_cases hx : x = c.1
        · rw [if_pos hx, if_neg (by omega), if_pos hx]
        · rw [if_neg hx, if_neg hx, ih hwf]

theorem mem_consCell {a : Nat} {b : Byte} {rest : Memory} {d : Host.Cell} (h : d ∈ consCell a b rest) :
    d = (a, b) ∨ d ∈ rest := by
  unfold consCell at h
  split at h
  · exact .inr h
  · rcases List.mem_cons.1 h with rfl | h
    · exact .inl rfl
    · exact .inr h

theorem wf_consCell {a : Nat} {b : Byte} {rest : Memory} (h : wf rest = true) (ha : ∀ d ∈ rest, a < d.1) :
    wf (consCell a b rest) = true := by
  unfold consCell
  split
  · exact h
  · next hb => rw [wf_cons]; exact ⟨hb, ha, h⟩

/-- The cells of a written memory are the one written and cells it had. -/
theorem mem_write {mem : Memory} {a : Nat} {b : Byte} {d : Host.Cell} (h : d ∈ write mem a b) :
    d = (a, b) ∨ d ∈ mem := by
  induction mem with
  | nil => exact mem_consCell h
  | cons c cs ih =>
    rw [write] at h
    split at h
    · exact mem_consCell h
    · split at h
      · rcases mem_consCell h with h | h
        · exact .inl h
        · exact .inr (by simp [h])
      · rcases List.mem_cons.1 h with rfl | h
        · exact .inr (by simp)
        · rcases ih h with h | h
          · exact .inl h
          · exact .inr (by simp [h])

/-- A write keeps the canonical form. -/
theorem wf_write {mem : Memory} (h : wf mem = true) (a : Nat) (b : Byte) : wf (write mem a b) = true := by
  induction mem with
  | nil => exact wf_consCell rfl (by simp)
  | cons c cs ih =>
    have h' := h
    rw [wf_cons] at h
    obtain ⟨hc, hab, hwf⟩ := h
    rw [write]
    split
    · refine wf_consCell h' ?_
      intro d hd
      rcases List.mem_cons.1 hd with rfl | hd
      · assumption
      · have := hab d hd; omega
    · split
      · exact wf_consCell hwf fun d hd => by have := hab d hd; omega
      · rw [wf_cons]
        refine ⟨hc, ?_, ih hwf⟩
        intro d hd
        rcases mem_write hd with rfl | hd
        · show c.1 < a
          omega
        · exact hab d hd

/-- Zeroed bytes read as unlisted, and every other byte as before. -/
theorem read_zero (mem : Memory) (base len x : Nat) :
    read (zero mem base len) x = if base ≤ x ∧ x < base + len then unlisted else read mem x := by
  induction mem with
  | nil => simp [zero, read]
  | cons c cs ih =>
    unfold zero at ih ⊢
    rw [List.filter_cons]
    by_cases hc : base ≤ c.1 ∧ c.1 < base + len
    · simp only [hc.1, hc.2, decide_true, Bool.and_self, Bool.not_true, Bool.false_eq_true, if_false, ih, read]
      by_cases hx : x = c.1
      · rw [if_pos hx, hx, if_pos hc, if_pos hc]
      · rw [if_neg hx]
    · rw [if_pos (by simp; omega)]
      rw [read, read, ih]
      by_cases hx : x = c.1
      · rw [if_pos hx, if_pos hx, hx, if_neg hc]
      · rw [if_neg hx, if_neg hx]

theorem wf_filter {mem : Memory} (h : wf mem = true) (p : Host.Cell → Bool) : wf (mem.filter p) = true := by
  induction mem with
  | nil => rfl
  | cons c cs ih =>
    rw [wf_cons] at h
    rw [List.filter_cons]
    split
    · rw [wf_cons]
      exact ⟨h.1, fun d hd => h.2.1 d (List.mem_of_mem_filter hd), ih h.2.2⟩
    · exact ih h.2.2

/-- Zero filling keeps the canonical form. -/
theorem wf_zero {mem : Memory} (h : wf mem = true) (base len : Nat) : wf (zero mem base len) = true :=
  wf_filter h _

/-- A copy keeps the canonical form. -/
theorem wf_copy {mem : Memory} (h : wf mem = true) (source target len : Nat) :
    wf (copy mem source target len) = true := by
  induction len with
  | zero => exact h
  | succ n ih => exact wf_write ih _ _

/-- A copied byte of a target is the source's byte, and every other byte is as before. -/
theorem read_copy {mem : Memory} (h : wf mem = true) (source target len x : Nat) :
    read (copy mem source target len) x =
      if target ≤ x ∧ x < target + len then read mem (source + (x - target)) else read mem x := by
  induction len with
  | zero => rw [if_neg (by omega)]; rfl
  | succ n ih =>
    rw [copy, read_write (wf_copy h _ _ _), ih]
    by_cases hx : x = target + n
    · rw [if_pos hx, if_pos (by omega), hx]
      congr 1; omega
    · rw [if_neg hx]
      by_cases hc : target ≤ x ∧ x < target + n
      · rw [if_pos hc, if_pos (by omega)]
      · rw [if_neg hc, if_neg (by omega)]

/-- A memory made from cells has the canonical form. -/
theorem wf_ofCells (cells : List Host.Cell) : wf (ofCells cells) = true := by
  induction cells with
  | nil => rfl
  | cons c cs ih =>
    rw [ofCells]
    split
    · exact wf_write ih _ _
    · exact ih

end Sys2Proof.Machine.Memory
end

