-- ==== Sys2Proof/Laws/Port.lean ====
section
/-! SUPPORT. Laws/Port.lean: which fields of the card a data access can change, and what the SRAM port does with one that
arrives and with one that waits (R44, R137). -/

namespace Sys2Proof.Machine

theorem State.takeAccess_frame (s : State) (m : Master) (x : DataAccess) :
    ∃ l0 m1 r2 b3,
      s.takeAccess m x = { s with leases := l0, mailboxes := m1, sram := r2, busAnswer := b3 } := by
  unfold takeAccess
  split
  · exact ⟨_, _, _, _, rfl⟩
  · exact ⟨_, _, _, _, rfl⟩
  · split
    all_goals exact ⟨_, _, _, _, rfl⟩

theorem State.serve_frame (s : State) (x : Transfer) :
    ∃ l0 m1 r2 b3, s.serve x = { s with leases := l0, mailboxes := m1, sram := r2, busAnswer := b3 } := by
  unfold serve
  split
  · exact s.takeAccess_frame _ _
  · exact ⟨_, _, _, _, rfl⟩

section
variable (s : State) (x : Transfer)

@[simp] theorem State.serve_queue : (s.serve x).queue = s.queue := by
  obtain ⟨_, _, _, _, h⟩ := s.serve_frame x; rw [h]
@[simp] theorem State.serve_sessions : (s.serve x).sessions = s.sessions := by
  obtain ⟨_, _, _, _, h⟩ := s.serve_frame x; rw [h]
@[simp] theorem State.serve_policies : (s.serve x).policies = s.policies := by
  obtain ⟨_, _, _, _, h⟩ := s.serve_frame x; rw [h]
@[simp] theorem State.serve_apertures : (s.serve x).apertures = s.apertures := by
  obtain ⟨_, _, _, _, h⟩ := s.serve_frame x; rw [h]
@[simp] theorem State.serve_pool : (s.serve x).pool = s.pool := by
  obtain ⟨_, _, _, _, h⟩ := s.serve_frame x; rw [h]
@[simp] theorem State.serve_engine : (s.serve x).engine = s.engine := by
  obtain ⟨_, _, _, _, h⟩ := s.serve_frame x; rw [h]
@[simp] theorem State.serve_portWait : (s.serve x).portWait = s.portWait := by
  obtain ⟨_, _, _, _, h⟩ := s.serve_frame x; rw [h]
@[simp] theorem State.serve_ticks : (s.serve x).ticks = s.ticks := by
  obtain ⟨_, _, _, _, h⟩ := s.serve_frame x; rw [h]
@[simp] theorem State.serve_lastServed : (s.serve x).lastServed = s.lastServed := by
  obtain ⟨_, _, _, _, h⟩ := s.serve_frame x; rw [h]
@[simp] theorem State.serve_slot : (s.serve x).slot = s.slot := by
  obtain ⟨_, _, _, _, h⟩ := s.serve_frame x; rw [h]
@[simp] theorem State.serve_supervisor : (s.serve x).supervisor = s.supervisor := by
  obtain ⟨_, _, _, _, h⟩ := s.serve_frame x; rw [h]
@[simp] theorem State.serve_snapshot : (s.serve x).snapshot = s.snapshot := by
  obtain ⟨_, _, _, _, h⟩ := s.serve_frame x; rw [h]
@[simp] theorem State.serve_link : (s.serve x).link = s.link := by
  obtain ⟨_, _, _, _, h⟩ := s.serve_frame x; rw [h]
@[simp] theorem State.serve_jumpers : (s.serve x).jumpers = s.jumpers := by
  obtain ⟨_, _, _, _, h⟩ := s.serve_frame x; rw [h]
@[simp] theorem State.serve_resets : (s.serve x).resets = s.resets := by
  obtain ⟨_, _, _, _, h⟩ := s.serve_frame x; rw [h]
@[simp] theorem State.serve_pending : (s.serve x).pending = s.pending := by
  obtain ⟨_, _, _, _, h⟩ := s.serve_frame x; rw [h]
end

/-- The port is free: the access is served at once (R44). -/
theorem State.reachPort_free {s : State} (h : s.engine.step = none) (x : Transfer) : s.reachPort x = s.serve x :=
  if_pos h

/-- A burst is in flight: the access waits (R44). -/
theorem State.reachPort_waits {s : State} (h : s.engine.step ≠ none) (hw : s.portWait = none) (x : Transfer) :
    s.reachPort x = s.setPortWait (some x) := by
  unfold reachPort
  rw [if_neg h, if_pos hw]

/-- With no access waiting, the end of a burst serves none. -/
@[simp] theorem State.servePort_none {s : State} (h : s.portWait = none) : s.servePort = s := by
  unfold servePort
  rw [h]

/-- The end of a burst serves the access that waits (R44). -/
theorem State.servePort_some {s : State} {x : Transfer} (h : s.portWait = some x) :
    s.servePort = (s.setPortWait none).serve x := by
  unfold servePort
  rw [h]

/-- After the end of a burst no access waits. -/
@[simp] theorem State.servePort_portWait (s : State) : s.servePort.portWait = none := by
  cases h : s.portWait with
  | none => rw [servePort_none h, h]
  | some x => rw [servePort_some h, serve_portWait]; rfl

/-- Serving an access that waits changes nothing of the memory engine. -/
@[simp] theorem State.servePort_engine (s : State) : s.servePort.engine = s.engine := by
  cases h : s.portWait with
  | none => rw [servePort_none h]
  | some x => rw [servePort_some h, serve_engine]; rfl

/-- Whether an access is decoded, in the words of R187. -/
theorem State.takeTransfer_decoded {s : State} {x : Transfer} (h : s.decodesData x.address = true) :
    s.takeTransfer x = s.reachPort x := if_pos h

theorem State.takeTransfer_other {s : State} {x : Transfer} (h : s.decodesData x.address = false) :
    s.takeTransfer x = s := by
  unfold takeTransfer
  rw [h]; rfl

end Sys2Proof.Machine
end

