-- ==== Sys2Proof/Laws/Table.lean ====
section
/-! SUPPORT. Laws/Table.lean: reading a table after it is changed, and when two tables are equal. -/

namespace Sys2Proof

namespace Table

variable {α β γ : Type} {n : Nat}

theorem ext_list {t u : Table α n} (h : t.list = u.list) : t = u := by
  cases t; cases u; cases h; rfl

theorem ext_get {t u : Table α n} (h : ∀ i, t.get i = u.get i) : t = u := by
  apply ext_list
  apply List.ext_getElem
  · rw [t.length_eq, u.length_eq]
  · intro i hi _
    exact h ⟨i, by rw [t.length_eq] at hi; exact hi⟩

@[simp] theorem get_set_self (t : Table α n) (i : Fin n) (x : α) : (t.set i x).get i = x := by
  simp [get, set]

theorem get_set_ne (t : Table α n) {i j : Fin n} (x : α) (h : i ≠ j) : (t.set i x).get j = t.get j := by
  have hv : i.1 ≠ j.1 := fun e => h (Fin.ext e)
  simp [get, set, hv]

theorem get_set (t : Table α n) (i j : Fin n) (x : α) :
    (t.set i x).get j = if i = j then x else t.get j := by
  by_cases h : i = j
  · subst h; simp
  · simp [h, get_set_ne t x h]

@[simp] theorem set_set (t : Table α n) (i : Fin n) (x y : α) : (t.set i x).set i y = t.set i y := by
  apply ext_list; simp [set]

theorem set_comm (t : Table α n) {i j : Fin n} (x y : α) (h : i ≠ j) :
    (t.set i x).set j y = (t.set j y).set i x := by
  apply ext_list
  exact List.set_comm x y (fun e => h (Fin.ext e))

@[simp] theorem set_get_self (t : Table α n) (i : Fin n) : t.set i (t.get i) = t := by
  apply ext_list; simp [set, get]

@[simp] theorem get_replicate (i : Fin n) (x : α) : (replicate n x).get i = x := by
  simp [get, replicate]

@[simp] theorem get_map (f : α → β) (t : Table α n) (i : Fin n) : (t.map f).get i = f (t.get i) := by
  simp [get, map]

@[simp] theorem get_zipWith (f : α → β → γ) (t : Table α n) (u : Table β n) (i : Fin n) :
    (zipWith f t u).get i = f (t.get i) (u.get i) := by
  simp [get, zipWith]

theorem getElem?_list (t : Table α n) (i : Fin n) : t.list[i.1]? = some (t.get i) := by
  have h : i.1 < t.list.length := by rw [t.length_eq]; exact i.2
  rw [List.getElem?_eq_getElem h]; rfl

theorem getElem?_list_none (t : Table α n) {i : Nat} (h : n ≤ i) : t.list[i]? = none := by
  rw [List.getElem?_eq_none]; rw [t.length_eq]; exact h

end Table

/-- A run replaced in a list: the positions from `base` on, `len` of them, that the list has. -/
theorem getElem?_setRun {α : Type} (l : List α) (base len i : Nat) (x : α) :
    (setRun l base len x)[i]? = if base ≤ i ∧ i < base + len ∧ i < l.length then some x else l[i]? := by
  induction l generalizing base len i with
  | nil => simp [setRun]
  | cons y ys ih =>
    cases base with
    | succ b =>
      cases i with
      | zero => simp [setRun]
      | succ i =>
        have he : (b + 1 ≤ i + 1 ∧ i + 1 < b + 1 + len ∧ i + 1 < (y :: ys).length) ↔
            (b ≤ i ∧ i < b + len ∧ i < ys.length) := by simp only [List.length_cons]; omega
        simp only [setRun, List.getElem?_cons_succ, ih, he]
    | zero =>
      cases len with
      | zero => simp [setRun]
      | succ k =>
        cases i with
        | zero => simp [setRun]
        | succ i =>
          have he : (0 ≤ i + 1 ∧ i + 1 < 0 + (k + 1) ∧ i + 1 < (y :: ys).length) ↔
              (0 ≤ i ∧ i < 0 + k ∧ i < ys.length) := by simp only [List.length_cons]; omega
          simp only [setRun, List.getElem?_cons_succ, ih]
          by_cases hc : 0 ≤ i ∧ i < 0 + k ∧ i < ys.length
          · rw [if_pos hc, if_pos (he.2 hc)]
          · rw [if_neg hc, if_neg (fun h => hc (he.1 h))]

/-- A run replaced in a table, read at one entry. -/
theorem Table.get_setRun {α : Type} {n : Nat} (t : Table α n) (base len : Nat) (x : α) (i : Fin n) :
    (t.setRun base len x).get i = if base ≤ i.1 ∧ i.1 < base + len then x else t.get i := by
  have h := getElem?_setRun t.list base len i.1 x
  have e : (Sys2Proof.setRun t.list base len x)[i.1]? = some ((t.setRun base len x).get i) :=
    Table.getElem?_list (t.setRun base len x) i
  rw [e, Table.getElem?_list, t.length_eq] at h
  by_cases hc : base ≤ i.1 ∧ i.1 < base + len
  · rw [if_pos hc]; rw [if_pos ⟨hc.1, hc.2, i.2⟩] at h; exact Option.some.inj h
  · rw [if_neg hc]; rw [if_neg (fun c => hc ⟨c.1, c.2.1⟩)] at h; exact Option.some.inj h

end Sys2Proof
end

