-- ==== Sys2Proof/Laws/Takes.lean ====
section
/-! SUPPORT. Laws/Takes.lean: what a take does once the words of Safety.lean say which request is taken. -/

namespace Sys2Proof.Machine

open Host (Outcome)

theorem mem_allMasters (m : Master) : m ∈ allMasters := by
  revert m; decide

theorem mem_allRecords (r : RecordNo) : r ∈ allRecords := by
  revert r; decide

/-- The serving order lists the masters by their place in the count. -/
theorem servingOrder_place (last m : Master) : (servingOrder last)[(m - last - 1).val]? = some m := by
  revert last m; decide

theorem servingOrder_at (last : Master) (k : Fin 12) :
    ∃ m, (servingOrder last)[k.val]? = some m ∧ (m - last - 1).val = k.val := by
  revert last k; decide

/-- The engine takes the mailbox it serves. -/
theorem State.Serves.nextTake {s : State} {m : Master} (h : s.Serves m) : s.nextTake = some (.mailbox m) := by
  have hf : (servingOrder s.lastServed).find? (fun m => (s.mailbox m).state == .pending) = some m := by
    rw [List.find?_eq_some_iff_getElem]
    refine ⟨by simp [h.posted], (m - s.lastServed - 1).val, ?_, ?_, ?_⟩
    · exact (List.getElem?_eq_some_iff.1 (servingOrder_place s.lastServed m)).1
    · exact (List.getElem?_eq_some_iff.1 (servingOrder_place s.lastServed m)).2
    · intro j hj
      have hlen : j < 12 := by have := (m - s.lastServed - 1).isLt; omega
      obtain ⟨m', hm', hp⟩ := servingOrder_at s.lastServed ⟨j, hlen⟩
      have he := (List.getElem?_eq_some_iff.1 hm').2
      simp only at he
      rw [he]
      by_cases hs : (s.mailbox m').state = .pending
      · have := h.first m' hs
        unfold State.place at this
        simp only at hp
        omega
      · simp [hs]
  unfold State.nextTake
  rw [if_neg h.slot, hf]
  rfl

/-- A pending supervisor command is what the engine takes next. -/
theorem State.TakesCommand.nextTake {s : State} {c : SupervisorCommand} (h : s.TakesCommand c) :
    s.nextTake = some .supervisor := by
  unfold State.nextTake
  rw [if_pos h.posted]

theorem request_eq (b : Mailbox) : b.request = requestOfCode (b.req.extractLsb' 0 8) := by
  unfold Mailbox.request
  congr 1

/-- The take of the request that is taken next: it is carried out and answered. -/
theorem takeRequest_takes {s : State} {m : Master} {q : Request} (h : s.Takes m q)
    (carryOut : State → Master → State × Answer) :
    takeRequest q carryOut s = .next ((carryOut s m).1.answer m (carryOut s m).2) := by
  unfold takeRequest
  rw [h.toServes.nextTake]
  simp only [request_eq, h.request, if_true]

/-- The take of the supervisor command that is taken next. -/
theorem takeSupervisor_takes {s : State} {c : SupervisorCommand} (h : s.TakesCommand c)
    (carryOut : State → State × AnswerCode) :
    takeSupervisor c carryOut s = .next ((carryOut s).1.answerSupervisor (carryOut s).2) := by
  unfold takeSupervisor
  rw [h.nextTake]
  simp only [h.command, if_true]

/-- The end of a take, in the words of Safety.lean. -/
theorem State.answer_eq_done (s : State) (m : Master) (a : Answer) :
    s.answer m a = s.done m a.code a.word0 a.word1 := rfl

theorem State.answerSupervisor_eq_done (s : State) (code : AnswerCode) :
    s.answerSupervisor code = s.commandDone code := rfl

theorem State.renew_eq_renewed (s : State) (m : Master) : s.renew m = s.renewed m := rfl

/-- The session check of an open session. -/
theorem withSession_open {s : State} {m : Master} (h : s.Open m) (carryOut : State → Master → State × Answer) :
    withSession carryOut s m = carryOut (s.renewed m) m := by
  unfold withSession State.isOpen
  rw [h]; rfl

/-- The session check of a closed session. -/
theorem withSession_closed {s : State} {m : Master} (h : ¬ s.Open m) (carryOut : State → Master → State × Answer) :
    withSession carryOut s m = (s, { code := .noSession }) := by
  unfold withSession State.isOpen
  unfold State.Open at h
  rw [if_neg (by simpa using h)]

/-- The validation of a handle, in the words of Safety.lean (R5). -/
theorem State.validate_iff (s : State) (h : Handle) (r : RecordNo) : s.validate h = some r ↔ s.Names h r := by
  unfold State.validate handleRecord
  by_cases hr : h.toNat % 64 < 40
  · rw [dif_pos hr]
    simp only
    by_cases hc : (s.lease ⟨h.toNat % 64, hr⟩).state ≠ .free ∧
        (s.lease ⟨h.toNat % 64, hr⟩).generation.1 = handleGeneration h
    · rw [if_pos hc]
      constructor
      · intro e; cases e; exact ⟨rfl, hc.1, hc.2⟩
      · intro n
        have : (⟨h.toNat % 64, hr⟩ : RecordNo) = r := Fin.ext n.number
        rw [this]
    · rw [if_neg hc]
      constructor
      · intro e; cases e
      · intro n
        have : (⟨h.toNat % 64, hr⟩ : RecordNo) = r := Fin.ext n.number
        subst this
        exact absurd ⟨n.live, n.generation⟩ hc
  · rw [dif_neg hr]
    constructor
    · intro e; cases e
    · intro n; have := n.number; have := r.isLt; omega

theorem State.validate_none_iff (s : State) (h : Handle) : s.validate h = none ↔ ∀ r, ¬ s.Names h r := by
  constructor
  · intro e r n; rw [(s.validate_iff h r).2 n] at e; cases e
  · intro hn
    cases hv : s.validate h with
    | none => rfl
    | some r => exact absurd ((s.validate_iff h r).1 hv) (hn r)

/-- A handle that names a record is that record's current handle. -/
theorem State.Names.handle {s : State} {h : Handle} {r : RecordNo} (n : s.Names h r) : s.handle r = h := by
  apply BitVec.eq_of_toNat_eq
  unfold State.handle handleOf
  have := n.number; have := n.generation; have := h.isLt
  rw [BitVec.toNat_ofNat, Nat.mod_eq_of_lt (by omega)]
  omega

/-- A handle names at most one record. -/
theorem State.Names.unique {s : State} {h : Handle} {r r' : RecordNo} (n : s.Names h r) (n' : s.Names h r') :
    r = r' := Fin.ext (n.number.symm.trans n'.number)

/-- A request that names a record is carried out on it. -/
theorem withLease_names {s : State} {m : Master} {r : RecordNo} (h : s.Names (s.parameter m) r)
    (carryOut : State → Master → RecordNo → State × Answer) : withLease carryOut s m = carryOut s m r := by
  unfold withLease
  have : s.validate (s.mailbox m).parameter = some r := (s.validate_iff _ _).2 h
  rw [this]

/-- A request whose handle fails is answered BAD_HANDLE. -/
theorem withLease_none {s : State} {m : Master} (h : ∀ r, ¬ s.Names (s.parameter m) r)
    (carryOut : State → Master → RecordNo → State × Answer) :
    withLease carryOut s m = (s, { code := .badHandle }) := by
  unfold withLease
  have : s.validate (s.mailbox m).parameter = none := (s.validate_none_iff _).2 h
  rw [this]

/-! ### The card with a session renewed -/

section
variable (s : State) (m : Master)

@[simp] theorem State.renewed_leases : (s.renewed m).leases = s.leases := rfl
@[simp] theorem State.renewed_queue : (s.renewed m).queue = s.queue := rfl
@[simp] theorem State.renewed_mailboxes : (s.renewed m).mailboxes = s.mailboxes := rfl
@[simp] theorem State.renewed_policies : (s.renewed m).policies = s.policies := rfl
@[simp] theorem State.renewed_apertures : (s.renewed m).apertures = s.apertures := rfl
@[simp] theorem State.renewed_pool : (s.renewed m).pool = s.pool := rfl
@[simp] theorem State.renewed_engine : (s.renewed m).engine = s.engine := rfl
@[simp] theorem State.renewed_lease (r : RecordNo) : (s.renewed m).lease r = s.lease r := rfl
@[simp] theorem State.renewed_mailbox (m' : Master) : (s.renewed m).mailbox m' = s.mailbox m' := rfl
@[simp] theorem State.renewed_handle (r : RecordNo) : (s.renewed m).handle r = s.handle r := rfl

end

theorem State.Names.renewed {s : State} {h : Handle} {r : RecordNo} (n : s.Names h r) (m : Master) :
    (s.renewed m).Names h r := ⟨n.number, n.live, n.generation⟩

/-- A request of an open session on a named record: the session is renewed, the request is carried out on the record
and it is answered. -/
theorem takeRequest_takesOn {s : State} {m : Master} {q : Request} {r : RecordNo} (h : s.TakesOn m q r)
    (carryOut : State → Master → RecordNo → State × Answer) :
    takeRequest q (withSession (withLease carryOut)) s =
      .next ((carryOut (s.renewed m) m r).1.answer m (carryOut (s.renewed m) m r).2) := by
  rw [takeRequest_takes h.toTakes, withSession_open h.opened, withLease_names (h.names.renewed m)]

end Sys2Proof.Machine
end

