-- ==== Sys2Proof/Tests/Slice0.lean ====
section
/-! SUPPORT. Tests/Slice0.lean: small tests of single commands, with results taken from the spec's rules and worked
examples, and witnesses that the hypotheses of the statements can be met. Every state is the quiet card below
with a few records set. -/

namespace Sys2Proof.Tests

open Sys2Proof Sys2Proof.Machine
open Host (Outcome)

-- One theorem at a time: each needs only a little memory.
set_option Elab.async false

/-! ### Ill-formed commands are refused -/

theorem test_ignored_write_of_req_is_ill_formed :
    (Instr.registerWriteIgnored (.control 0 0x008 0)).wellFormed = false := by decide

theorem test_misaligned_ignored_write_is_ill_formed :
    (Instr.registerWriteIgnored (.control 0 0x00E 0)).wellFormed = false := by decide

theorem test_ignored_write_of_status_is_well_formed :
    (Instr.registerWriteIgnored (.control 0 0x00C 0)).wellFormed = true := by decide

theorem test_control_error_without_ground_is_ill_formed :
    (Instr.controlAccessError 11 0xC0400000 .read .word).wellFormed = false := by decide

theorem test_control_error_in_data_window_is_ill_formed :
    (Instr.controlAccessError 12 0xC0000000 .read .word).wellFormed = false := by decide

theorem test_data_read_in_control_space_is_ill_formed :
    (Instr.dataRead 0 0xC0400000 .word).wellFormed = false := by decide

theorem test_data_write_in_control_space_is_ill_formed :
    (Instr.dataWrite 0 0xC0400000 .word 0).wellFormed = false := by decide

/-! ### Small states -/

/-- The card with its pool FREE and its engine idle. -/
def quiet : State :=
  { State.reset with
    pool := { map := Table.replicate 512 .free, freeCount := 512, scrubCount := 0
              ready := true, watermark := 32 }
    engine := Engine.atReset }

/-- A session of a master opened with a term and a count. -/
def opened (m : Master) (term remaining leases blocks : Nat) (s : State) : State :=
  s.setSession m
    { state := .opened, term := some term, remaining := remaining, ownedLeases := leases, ownedBlocks := blocks
      endReason := .none }

/-- A request posted in a master's mailbox: command code, 16-bit parameter, PARAM1 and PARAM2. -/
def posted (m : Master) (code : Nat) (parameter : Nat) (param1 param2 : Nat) (s : State) : State :=
  s.setMailbox m { s.mailbox m with
    state := .pending, req := BitVec.ofNat 32 (parameter * 65536 + code),
    param1 := BitVec.ofNat 32 param1, param2 := BitVec.ofNat 32 param2 }

/-- A supervisor command posted in the slot. -/
def commanded (command : Byte) (parameter : BitVec 16) (s : State) : State :=
  s.setSlot { state := .pending, command := command, parameter := parameter, answer := .none }

/-- A record HELD on a run, owned by a master, UP, kept and public, generation 1. -/
def heldBy (owner : Master) (mode : Mode) (holders : MasterSet) (base len : Nat) : Lease :=
  { state := .held, generation := 1, tag := 0, owner := some owner, keep := true, isPublic := true,
    direction := some .up, mode := some mode, holders := holders, run := some { base := base, len := len },
    target := none, written := false }

/-- A record of the card with its blocks marked, its target's too. -/
def leased (r : RecordNo) (l : Lease) (s : State) : State :=
  let taken := l.length + l.targetLength
  let map := s.pool.map.setRun (l.sourceBlock 0) l.length (.run r)
  let map := match l.target with
    | some target => map.setRun target.base target.len (.target r)
    | none => map
  (s.setLease r l).setPool { s.pool with map := map, freeCount := s.pool.freeCount - taken }

/-- A wait entry behind the others. -/
def waiting (m : Master) (h : Handle) (kind : WaitKind) (remaining : Nat) (s : State) : State :=
  s.setQueue (s.queue ++ [{ master := m, handle := h, kind := kind, remaining := remaining }])

/-- The link past the pointer byte of a write transaction, at a position. -/
def atPosition (position : BitVec 7) (staged : Option Staged) (s : State) : State :=
  s.setLink { phase := .data, pointer := position, staged := staged, latch := none, sda := .released }

/-- A command's next state, for reading its fields. -/
def after (c : Instr) (s : State) : State :=
  match exec c s with
  | .next t => t
  | _ => s

/-! ### The spec's own words, from what can be decided -/

theorem serves_of {s : State} {m : Master}
    (h : s.slot.state ≠ .pending ∧ (s.mailbox m).state = .pending ∧
      ∀ m', (s.mailbox m').state = .pending → s.place m ≤ s.place m') : s.Serves m :=
  ⟨h.1, h.2.1, h.2.2⟩

theorem takes_of {s : State} {m : Master} {q : Request}
    (h : (s.slot.state ≠ .pending ∧ (s.mailbox m).state = .pending ∧
      ∀ m', (s.mailbox m').state = .pending → s.place m ≤ s.place m') ∧
      requestOfCode ((s.mailbox m).req.extractLsb' 0 8) = q) : s.Takes m q :=
  { toServes := serves_of h.1, request := h.2 }

theorem takesOn_of {s : State} {m : Master} {q : Request} {r : RecordNo}
    (h : ((s.slot.state ≠ .pending ∧ (s.mailbox m).state = .pending ∧
      ∀ m', (s.mailbox m').state = .pending → s.place m ≤ s.place m') ∧
      requestOfCode ((s.mailbox m).req.extractLsb' 0 8) = q) ∧
      (s.session m).state = .opened ∧ (s.parameter m).toNat % 64 = r.val ∧ (s.lease r).state ≠ .free ∧
      (s.lease r).generation.val = (s.parameter m).toNat / 64) : s.TakesOn m q r :=
  { toTakes := takes_of h.1, opened := h.2.1, names := ⟨h.2.2.1, h.2.2.2.1, h.2.2.2.2⟩ }

theorem names_of {s : State} {h : Handle} {r : RecordNo}
    (hn : h.toNat % 64 = r.val ∧ (s.lease r).state ≠ .free ∧ (s.lease r).generation.val = h.toNat / 64) :
    s.Names h r := ⟨hn.1, hn.2.1, hn.2.2⟩

theorem not_names_of {s : State} {h : Handle}
    (hn : ∀ r : RecordNo, ¬ (h.toNat % 64 = r.val ∧ (s.lease r).state ≠ .free ∧
      (s.lease r).generation.val = h.toNat / 64)) : ∀ r, ¬ s.Names h r :=
  fun r x => hn r ⟨x.number, x.live, x.generation⟩

theorem queueLaw_of {s : State} (h : (s.queue.map fun e => e.master).Nodup) : s.QueueLaw := h

theorem fits_of {s : State} {base len : Nat}
    (h : base + len ≤ 512 ∧ ∀ k, k < len → s.block (base + k) = some .free) : s.Fits base len := by
  refine ⟨h.1, fun b h1 h2 => ?_⟩
  have := h.2 (b - base) (by omega)
  rwa [Nat.add_sub_cancel' h1] at this

theorem not_fits_of {s : State} {base len b : Nat} (h : base ≤ b ∧ b < base + len ∧ s.block b ≠ some .free) :
    ¬ s.Fits base len := fun x => h.2.2 (x.2 b h.1 h.2.1)

/-- With no FREE block no run fits. -/
theorem no_fits_of {s : State} {len : Nat} (hl : 1 ≤ len) (h : ∀ x ∈ s.pool.map.list, x ≠ .free) (base : Nat) :
    ¬ s.Fits base len := by
  intro x
  have hb := x.2 base (Nat.le_refl _) (by omega)
  obtain ⟨_, hb⟩ := List.getElem?_eq_some_iff.mp hb
  exact h _ (List.getElem_mem _) hb

/-! ### Requests: sessions (3.8, R48 to R52, R157) -/

/-- Masters 1, 2 and 3 with open sessions; master 1 holds record 0 EXCLUSIVE and owns it, master 2 owns record 1 and
masters 1 and 2 hold it SHARED. The handles are 0x40 and 0x41. -/
def desk : State :=
  leased 1 (heldBy 2 .shared 0x006 8 2) (leased 0 (heldBy 1 .exclusive 0x002 0 4)
    (opened 3 100 7 0 0 (opened 2 100 7 1 2 (opened 1 100 7 1 4 quiet))))

/-- A request of master 1 on the desk card. -/
def asked (code parameter param1 param2 : Nat) : State := posted 1 code parameter param1 param2 desk

/-- 3.8 step 1: OPEN with term 3 of a session that ended by CLOSE. -/
def afterClose : State :=
  quiet.setSession 5 { Session.atReset with term := some 40, endReason := .closed }

theorem test_open :
    ((after .takeOpen (posted 5 0x01 3 0 0 afterClose)).session 5) =
      { state := .opened, term := some 3, remaining := 3, ownedLeases := 0, ownedBlocks := 0,
        endReason := .closed } := by decide +kernel

/-- 11.3 step 7: the reopen takes master 2 out of record 0 and unbinds its aperture. -/
theorem test_open_again :
    let s := (leased 0 (heldBy 2 .shared 0x084 0 8) (opened 7 90 90 0 0 (opened 2 200 150 1 8 quiet))).setAperture 2 0
      (.bound 0x0040)
    let t := after .takeOpen (posted 2 0x01 200 0 0 s)
    (t.mailbox 2).answer = .reopened ∧ (t.lease 0).holders = 0x080 ∧ (t.session 2).remaining = 200 ∧
      (t.session 2).endReason = .reopened ∧ t.aperture 2 0 = .unbound := by decide +kernel

theorem test_renew : ((after .takeRenew (asked 0x02 0 0 0)).session 1).remaining = 100 := by decide +kernel

/-- 3.8 step 9. -/
theorem test_renew_closed :
    ((after .takeRenew (posted 5 0x02 0 0 0 afterClose)).mailbox 5).answer = .noSession := by decide +kernel

theorem test_close :
    let t := after .takeClose (asked 0x03 0 0 0)
    (t.mailbox 1).answer = .ok ∧ (t.session 1).endReason = .closed ∧ (t.lease 0).state = .idle ∧
      (t.lease 1).holders = 0x004 := by decide +kernel

theorem test_undefined_request :
    let t := after .takeUndefined (asked 0 0 0 0)
    (t.mailbox 1).answer = .badArg ∧ (t.session 1).remaining = 100 := by decide +kernel

/-! ### Requests: creating, finding and retiring (4.8) -/

/-- The table of 4.8: master 6 owns the IDLE record 1. -/
def shelf : State :=
  leased 3 { heldBy 4 .exclusive 0x010 30 2 with keep := false, isPublic := false }
    ((leased 1 { heldBy 6 .shared 0 20 4 with
        state := .idle, mode := none, generation := 7, tag := 0x0210, isPublic := false, written := true }
      (leased 0 { heldBy 1 .shared 0x012 0 16 with generation := 3, tag := 0x0200 }
        (opened 6 50 50 1 4 quiet))).setLease 2 (Lease.freed 4))

/-- A request of master 6 on it. -/
def shelfAsked (code parameter param1 param2 : Nat) : State := posted 6 code parameter param1 param2 shelf

/-- 4.8 step 1. -/
theorem test_find :
    let t := after .takeFind (shelfAsked 0x11 0x0200 0xFFF0 0)
    (t.mailbox 6).answer = .ok ∧ (t.mailbox 6).answer0 = 0x00C0 ∧
      (t.mailbox 6).answer1 = 0x01010200 := by decide +kernel

/-- 4.8 step 2. -/
theorem test_find_nothing :
    ((after .takeFind (shelfAsked 0x11 0x0200 0xFFF0 1)).mailbox 6).answer = .notFound := by decide +kernel

/-- 4.8 step 4: state HELD, mode SHARED, holders 1 and 4, owner 1, length 16, UP, keep and public. -/
theorem test_query :
    let t := after .takeQuery (shelfAsked 0x12 0x00C0 0 0)
    (t.mailbox 6).answer0 = 0xC1015012 ∧ (t.mailbox 6).answer1 = 0x00000200 := by decide +kernel

/-- 10.5: the answer words of QUERY. -/
theorem test_query_layout :
    let l := { heldBy 1 .shared 0x108 0 16 with generation := 2, tag := 0x0200, written := true }
    l.queryWord0 = 0xC1015108 ∧ l.queryWord1 1 = 0x00110200 := by decide +kernel

/-- 10.5: STATUS with a term of 500 just renewed. -/
theorem test_status_layout :
    statusWord { Mailbox.cleared 0 with state := .done, answer := .ok }
      { Session.atReset with state := .opened, term := some 500, remaining := 500 } = 0x01F48102 := by decide +kernel

/-- 4.8 step 5. -/
theorem test_create_conflict :
    let t := after .takeCreate (shelfAsked 0x10 0x0210 0x20002 0)
    (t.mailbox 6).answer = .conflict ∧ (t.mailbox 6).answer0 = 0x01C1 := by decide +kernel

/-- 1.10 and 4.8 step 8: the generation follows that of the FREE record. -/
theorem test_create :
    let t := after .takeCreate (shelfAsked 0x10 0x0300 0x20002 0)
    (t.mailbox 6).answer0 = 0x0142 ∧ (t.lease 2).holders = 0x040 ∧ (t.lease 2).run = some { base := 16, len := 2 } ∧
      (t.session 6).ownedBlocks = 6 := by decide +kernel

/-- 4.8 step 6. -/
theorem test_mark_not_holder :
    ((after .takeMark (shelfAsked 0x13 0x01C1 0 0)).mailbox 6).answer = .notHolder := by decide +kernel

theorem test_mark :
    let t := after .takeMark ((asked 0x13 0x40 0 0).setLease 0 { heldBy 1 .exclusive 0x002 0 4 with written := true })
    (t.mailbox 1).answer0 = 1 ∧ (t.lease 0).written = false := by decide +kernel

/-- 4.8 step 7. -/
theorem test_retire :
    let t := after .takeRetire (shelfAsked 0x14 0x01C1 0 0)
    t.lease 1 = Lease.freed 7 ∧ (t.session 6).ownedLeases = 0 ∧ (t.session 6).ownedBlocks = 0 ∧
      t.block 20 = some .scrub := by decide +kernel

/-! ### Requests: holding and waiting (11.3, 11.4) -/

/-- 11.3 step 9. -/
theorem test_acquire_queues :
    let t := after .takeAcquire (posted 2 0x20 0x40 (500 * 65536 + 2) 0
      (leased 0 (heldBy 2 .shared 0x080 0 8) (opened 2 200 200 1 8 quiet)))
    (t.mailbox 2).answer = .queued ∧ (t.mailbox 2).answer0 = 0 ∧
      t.queue = [{ master := 2, handle := 0x40, kind := .acqExcl, remaining := 500 }] := by decide +kernel

/-- 11.3 step 5. -/
theorem test_acquire_shared :
    let t := after .takeAcquire (posted 7 0x20 0x40 (100 * 65536 + 1) 0
      (leased 0 (heldBy 2 .shared 0x004 0 8) (opened 7 200 200 0 0 quiet)))
    (t.mailbox 7).answer = .ok ∧ (t.lease 0).holders = 0x084 ∧ (t.lease 0).mode = some .shared := by decide +kernel

/-- 11.4: record 9 with handle 0x0109, and its entries at a step. -/
def nine (holders : MasterSet) (entries : List WaitEntry) : State :=
  (leased 9 { heldBy 0 .shared holders 40 2 with generation := 4 }
    (opened 0 90 90 1 2 (opened 3 90 90 0 0 (opened 6 90 90 0 0 quiet)))).setQueue entries

def entryOf3 (n : Nat) : WaitEntry := { master := 3, handle := 0x109, kind := .upgrade, remaining := n }
def entryOf10 (n : Nat) : WaitEntry := { master := 10, handle := 0x109, kind := .acqExcl, remaining := n }
def entryOf11 (n : Nat) : WaitEntry := { master := 11, handle := 0x109, kind := .acqShared, remaining := n }

/-- 11.4 step 1. -/
theorem test_convert_upgrade :
    let t := after .takeConvert (posted 3 0x22 0x109 (30 * 65536 + 2) 0 (nine 0x049 [entryOf10 5, entryOf11 40]))
    (t.mailbox 3).answer = .queued ∧ t.queue = [entryOf3 30, entryOf10 5, entryOf11 40] := by decide +kernel

/-- 11.4 step 6. -/
theorem test_convert_downgrade :
    let s := nine 0x008 [entryOf11 35]
    let t := after .takeConvert (posted 3 0x22 0x109 1 0 (s.setLease 9 { s.lease 9 with mode := some .exclusive }))
    (t.lease 9).holders = 0x808 ∧ t.queue = [] ∧
      (t.mailbox 11).waitRecord = { handle := 0x109, mode := some .shared, result := some .granted } := by
  decide +kernel

/-- 11.4 step 5. -/
theorem test_release_grants_upgrade :
    let t := after .takeRelease (posted 6 0x21 0x109 0 0 (nine 0x048 [entryOf3 25, entryOf11 35]))
    (t.mailbox 6).answer0 = 1 ∧ (t.mailbox 6).answer1 = 0 ∧ (t.lease 9).holders = 0x008 ∧
      (t.lease 9).mode = some .exclusive ∧ t.queue = [entryOf11 35] := by decide +kernel

/-- 11.5 step 5: the RELEASE abandons the move and master 9 is granted SHARED on the old run. -/
theorem test_release_abandons_move :
    let s := leased 14 { heldBy 4 .exclusive 0x010 60 6 with
      generation := 2, state := .moving, target := some { base := 120, len := 10 } } (opened 4 90 90 1 6 quiet)
    let s := { waiting 9 0x8E .acqShared 100 s with
      engine := { s.engine with
        step := some .copy, last := .mover, mover := { record := some 14, blocksCopied := 2, burstsDone := 7 } } }
    let t := after .takeRelease (posted 4 0x21 0x8E 0 0 s)
    (t.lease 14).holders = 0x200 ∧ (t.lease 14).run = some { base := 60, len := 6 } ∧ t.pool.scrubCount = 10 ∧
      (t.mailbox 4).moveRecord = { handle := 0x8E, result := some .abandoned, reason := .released, length := 6 } ∧
      t.engine.step = some (.cutCopy 62 122 7) ∧ (t.session 4).ownedBlocks = 6 := by decide +kernel

/-- R96, R97: the withdrawn entry was the head, so the next one is granted. -/
theorem test_cancel :
    let s := (nine 0 [{ entryOf3 30 with kind := .acqExcl }, entryOf11 40])
    let t := after .takeCancel (posted 3 0x23 0 0 0 (s.setLease 9 { s.lease 9 with state := .idle, mode := none }))
    (t.mailbox 3).answer0 = 0x109 ∧ t.queue = [] ∧ (t.lease 9).holders = 0x800 := by decide +kernel

/-! ### Requests: resizing and apertures (2.7, 2.8, 7.4) -/

/-- 2.8 step 1: block 108 is another lease's, blocks 112 to 199 too, so the target run is 200+12. -/
def crowded : State :=
  leased 1 (heldBy 0 .exclusive 0x001 108 92) (leased 2 (heldBy 0 .exclusive 0x001 0 100)
    (leased 5 (heldBy 6 .exclusive 0x040 100 8) (opened 6 90 90 1 8 quiet)))

theorem test_resize_starts_move :
    let t := after .takeResize (posted 6 0x30 0x45 12 0 crowded)
    (t.mailbox 6).answer = .started ∧ (t.mailbox 6).answer0 = 8 ∧ (t.mailbox 6).answer1 = 12 ∧
      (t.lease 5).target = some { base := 200, len := 12 } ∧ t.engine.step = some .copy ∧
      t.pool.freeCount = 300 ∧ t.block 211 = some (.target 5) := by decide +kernel

/-- 2.7 step 5: growth in place from 0+4 to 0+6. -/
theorem test_resize_in_place :
    let t := after .takeResize (asked 0x30 0x40 6 0)
    (t.mailbox 1).answer = .ok ∧ (t.lease 0).run = some { base := 0, len := 6 } ∧ (t.session 1).ownedBlocks = 6 := by
  decide +kernel

theorem test_bind :
    let t := after .takeBind (asked 0x40 0x41 3 0)
    t.aperture 1 3 = .bound 0x41 ∧ (t.mailbox 1).answer1 = 0 := by decide +kernel

theorem test_unbind :
    let t := after .takeUnbind ((asked 0x41 0 2 0).setAperture 1 2 (.lost 0x41 .revoked))
    t.aperture 1 2 = .unbound ∧ (t.mailbox 1).answer0 = 0x41 ∧ (t.mailbox 1).answer1 = 2 := by decide +kernel

/-! ### Backplane transfers -/

theorem test_req_write :
    let t := after (.reqWrite 4 0x00C00012) quiet
    (t.mailbox 4).state = .pending ∧ (t.mailbox 4).request = .query := by decide +kernel

theorem test_param_write_dropped :
    let t := after (.paramWrite 1 .param1 9) (asked 0x12 0x40 0 0)
    (t.mailbox 1).param1 = 0 ∧ (t.mailbox 1).flag .requestLost = true := by decide +kernel

theorem test_events_write :
    let s := quiet.setMailbox 2 { Mailbox.cleared 0xFF with events := 0x0B, lostRecord := { handle := 0x40, count := 2 } }
    let t := after (.eventsWrite 2 0xFFFFFFF6) s
    (t.mailbox 2).events = 0x02 ∧ (t.mailbox 2).lostRecord = { handle := 0, count := 0 } ∧ t.atn 2 = true := by
  decide +kernel

theorem test_event_enable_write :
    ((after (.eventEnableWrite 2 0xABCDEF3F) quiet).mailbox 2).enables = 0x3F := by decide +kernel

theorem test_ignored_write :
    after (.registerWriteIgnored (.control 2 0x00C 0xFFFFFFFF)) quiet =
      quiet.setBusAnswer (some { response := .ack, lanes := 0 }) := by decide +kernel

theorem test_control_access_error :
    (after (.controlAccessError 12 0xC0400108 .read .word) quiet).busAnswer =
      some { response := .error, lanes := 0 } := by decide +kernel

/-- The desk card with master 1's aperture 0 bound to record 0, and two bytes in block 1. -/
def bound : State :=
  { desk.setAperture 1 0 (.bound 0x40) with sram := [(0x1001, 0xAA), (0x1002, 0x55)] }

/-- R188: the byte at offset 0x1001 travels in lane 1. -/
theorem test_data_read :
    (after (.dataRead 1 0xC0001001 .byte) bound).busAnswer = some { response := .ack, lanes := 0x0000AA00 } := by
  decide +kernel

theorem test_data_write :
    let t := after (.dataWrite 1 0xC0001002 .halfword 0x1234ABCD) bound
    t.sram = [(0x1001, 0xAA), (0x1002, 0x34), (0x1003, 0x12)] ∧ (t.lease 0).written = true := by decide +kernel

/-- R140, R145: the offset after the last of the lease's 4 blocks is out of range. -/
theorem test_data_read_out_of_range :
    let t := after (.dataRead 1 0xC0004000 .word) bound
    t.busAnswer = some { response := .error, lanes := 0 } ∧ (t.mailbox 1).faultRecord.reason = some .range ∧
      (t.mailbox 1).flag .fault = true := by decide +kernel

/-- A data access of master 1 at offset 0 of its aperture 0. -/
def access (dir : AccessDir) (lanes : Word) : Transfer :=
  { master := 1, address := 0xC0000000, dir := dir, width := .word, lanes := lanes }

/-- The card `bound` while a zero-fill burst of block 511, the first, is in flight. -/
def busy : State :=
  { bound with
    pool := { bound.pool with map := bound.pool.map.set 511 .scrub, freeCount := 505, scrubCount := 1 }
    engine := { Engine.atReset with
      step := some .scrub, last := .scrubber, scrubber := { block := some 511, burstsDone := 0 } } }

/-- R44: the access waits for the end of the burst, and is served then; the next one waits for the next burst's end. -/
theorem test_data_access_waits_for_the_burst :
    let s := after (.dataWrite 1 0xC0000000 .byte 0x7F) busy
    let t := after .scrubBurstEnd s
    s = { busy with portWait := some { access .write 0x7F with width := .byte } } ∧
      after (.dataRead 1 0xC0000000 .word) s = s ∧
      t.sram = [(0x0000, 0x7F), (0x1001, 0xAA), (0x1002, 0x55)] ∧ (t.lease 0).written = true ∧ t.portWait = none ∧
      t.busAnswer = some { response := .ack, lanes := 0 } ∧ t.engine.scrubber.burstsDone = 1 ∧
      (after (.dataRead 1 0xC0000000 .word) t).portWait = some (access .read 0) := by decide +kernel

/-- R137: a shrink taken while the access waits is seen by the access. -/
theorem test_waiting_access_sees_the_shrink :
    let s := after (.dataRead 1 0xC0003000 .word) (posted 1 0x30 0x40 3 0 busy)
    (after .scrubBurstEnd s).busAnswer = some { response := .ack, lanes := 0 } ∧
      (after .scrubBurstEnd (after .takeResize s)).busAnswer = some { response := .error, lanes := 0 } := by
  decide +kernel

/-! ### Ticks (3.8, 11.4, 11.6) -/

/-- A card with a tick due at both countdowns. -/
def due (s : State) : State := after .tick s

theorem test_tick : (due quiet).ticks.sessionDue = 1 ∧ (due quiet).ticks.queueDue = 1 := by decide +kernel

/-- 3.8 step 2. -/
theorem test_session_countdown :
    ((after .sessionCountdown (due (opened 5 3 3 0 0 quiet))).session 5).remaining = 2 := by decide +kernel

/-- 11.6: masters 2 and 5 lapse at one tick; master 8 is left on record 20, SHARED, and record 22 goes IDLE. -/
theorem test_session_lapse :
    let s := leased 22 (heldBy 5 .exclusive 0x020 30 2)
      (leased 21 (heldBy 6 .shared 0x044 20 2)
        (leased 20 { heldBy 2 .exclusive 0x004 10 2 with keep := false }
          (opened 2 9 1 1 2 (opened 5 9 1 1 2 (opened 6 9 9 1 2 (opened 8 9 9 0 0 quiet))))))
    let s := waiting 2 (s.handle 22) .acqExcl 99 (waiting 6 (s.handle 21) .upgrade 99
      (waiting 11 (s.handle 20) .acqExcl 99 (waiting 8 (s.handle 20) .acqShared 99
        (waiting 5 (s.handle 20) .acqShared 99 s))))
    let t := after .sessionLapse (due s)
    (t.lease 20).holders = 0x100 ∧ (t.lease 20).mode = some .shared ∧ (t.lease 21).holders = 0x040 ∧
      (t.lease 21).mode = some .exclusive ∧ (t.lease 22).state = .idle ∧ t.queue.map (fun e => e.master) = [11] ∧
      (t.session 5).endReason = .lapsed ∧ t.supervisor.flag .lapse = true := by decide +kernel

theorem test_wait_queue_countdown :
    (after .waitQueueCountdown (due (nine 0x049 [entryOf3 26, entryOf10 2]))).queue = [entryOf3 25, entryOf10 1] := by
  decide +kernel

/-- 11.4 step 3, the fifth tick. -/
theorem test_wait_timeout :
    let t := after .waitTimeout (due (nine 0x049 [entryOf3 26, entryOf10 1, entryOf11 36]))
    t.queue = [entryOf3 25, entryOf11 35] ∧
      (t.mailbox 10).waitRecord = { handle := 0x109, mode := some .exclusive, result := some .timedOut } := by
  decide +kernel

/-! ### The memory engine (2.7, 2.8) -/

/-- The quiet card with block 511 the last to be filled since the reset, `k` bursts done. -/
def lastScrub (k : Nat) : State :=
  { quiet with
    pool := { quiet.pool with
      map := quiet.pool.map.set 511 .scrub, freeCount := 511, scrubCount := 1, ready := false }
    engine := { Engine.atReset with
      step := some .scrub, last := .scrubber, scrubber := { block := some 511, burstsDone := k } }
    sram := [(0x1FF000, 1), (0x1FFFFF, 2)] }

theorem test_scrub_burst_end :
    let t := after .scrubBurstEnd (lastScrub 0)
    t.sram = [(0x1FFFFF, 2)] ∧ t.engine.scrubber.burstsDone = 1 := by decide +kernel

/-- 2.7 step 7. -/
theorem test_scrub_block_step_end :
    let t := after .scrubBlockStepEnd (lastScrub 63)
    t.sram = [(0x1FF000, 1)] ∧ t.pool.ready = true ∧ t.pool.freeCount = 512 ∧ t.pool.scrubCount = 0 ∧
      t.supervisor.flag .poolReady = true ∧ t.engine.step = none := by decide +kernel

/-- A lease on run 0+2 moving to run 4+3, DOWN or UP, with `i` blocks and `k` bursts copied. -/
def moving (dir : Direction) (i k : Nat) : State :=
  { leased 0 { heldBy 1 .exclusive 0x002 0 2 with
        state := .moving, direction := some dir, target := some { base := 4, len := 3 } }
      (opened 1 90 90 1 2 quiet) with
    engine := { Engine.atReset with
      step := some .copy, last := .mover, mover := { record := some 0, blocksCopied := i, burstsDone := k } }
    sram := [(0x0000, 7), (0x1FFF, 9)] }

/-- R115: a DOWN run is paired with the top of its target run. -/
theorem test_copy_burst_end :
    let t := after .copyBurstEnd (moving .down 0 0)
    t.sram = [(0x0000, 7), (0x1FFF, 9), (0x5000, 7)] ∧ t.engine.mover.burstsDone = 1 := by decide +kernel

theorem test_copy_block_step_end :
    let t := after .copyBlockStepEnd (moving .up 0 63)
    t.engine.mover = { record := some 0, blocksCopied := 1, burstsDone := 0 } ∧ t.engine.step = some .copy := by
  decide +kernel

/-- 2.8 step 7. -/
theorem test_move_completion :
    let t := after .moveCompletion (moving .up 1 63)
    t.sram = [(0x0000, 7), (0x1FFF, 9), (0x5FFF, 9)] ∧ (t.lease 0).run = some { base := 4, len := 3 } ∧
      (t.lease 0).state = .held ∧ t.pool.scrubCount = 2 ∧ t.engine.step = some .scrub ∧
      (t.session 1).ownedBlocks = 3 ∧ (t.mailbox 1).flag .moveEnd = true := by decide +kernel

/-! ### Supervisor commands and system reset (11.7, R183, R184) -/

/-- 11.7: record 30 with handle 0x025E. -/
def thirty : State :=
  waiting 7 0x25E .acqExcl 80
    (((leased 30 { heldBy 1 .shared 0x012 200 4 with generation := 9, tag := 0x0A00 }
      (opened 7 90 90 0 0 (opened 4 90 90 0 0 (opened 1 90 90 2 8 quiet)))).setAperture 1 0 (.bound 0x25E)).setAperture
        4 2 (.bound 0x25E))

theorem test_revoke :
    let t := after .takeRevoke (commanded 0x01 0x25E thirty)
    t.lease 30 = Lease.freed 9 ∧ t.aperture 4 2 = .lost 0x25E .revoked ∧
      (t.mailbox 4).lostRecord = { handle := 0x25E, count := 1 } ∧
      (t.mailbox 7).waitRecord = { handle := 0x25E, mode := some .exclusive, result := some .withdrawn } ∧
      (t.session 1).ownedLeases = 1 ∧ (t.session 1).ownedBlocks = 4 ∧ t.slot.answer = .ok := by decide +kernel

theorem test_evict :
    let t := after .takeEvict (commanded 0x02 7 thirty)
    t.queue = [] ∧ (t.session 7).endReason = .evicted ∧ (t.mailbox 7).flag .sessionEnd = true ∧
      t.supervisor.flag .lapse = false := by decide +kernel

theorem test_reset_all :
    let t := after .takeResetAll (commanded 0xA5 0 thirty)
    t.lease 30 = Lease.freed 9 ∧ t.pool.scrubCount = 512 ∧ (t.session 1).endReason = .reset ∧
      t.engine.step = some .scrub ∧ t.supervisor.flags = 0x10 := by decide +kernel

theorem test_undefined_supervisor :
    (after .takeUndefinedSupervisor (commanded 0x77 0 quiet)).slot.answer = .badArg := by decide +kernel

theorem test_system_reset :
    let t := after .systemReset thirty
    t.lease 30 = Lease.freed 0 ∧ t.policy 3 = { openAllowed := true, leaseQuota := 6, blockQuota := 96 } ∧
      t.pool.watermark = 32 ∧ t.engine.scrubber.block = some 0 ∧ t.lastServed = 11 := by decide +kernel

/-! ### The supervisor link (9.10, 11.7) -/

theorem test_link_start :
    (after .linkStart quiet).link.phase = .address false := by decide +kernel

theorem test_link_address :
    (after (.linkAddress 0x58 .write) (after .linkStart quiet)).link.phase = .pointer ∧
      (after (.linkAddress 0x59 .write) (after .linkStart quiet)).link.phase = .idle := by decide +kernel

/-- 9.10 step 1: the STOP discards the staged byte and keeps the pointer. -/
theorem test_link_stop :
    let t := after .linkStop (atPosition 0x25 (some { field := .blockQuota 5, value := 0x2C }) quiet)
    t.link.staged = none ∧ t.link.pointer = 0x25 := by decide +kernel

theorem test_pointer_byte :
    (after (.pointerByte 0xA4) (quiet.setLink { Link.atReset with phase := .pointer })).link.pointer = 0x24 := by
  decide +kernel

/-- 9.10 step 5: the low byte of 300 is sent and its high byte latched. -/
theorem test_link_read_byte :
    let s := quiet.setPolicy 5 { Policy.atReset with blockQuota := 300 }
    let t := after (.linkReadByte true) (s.setLink { Link.atReset with phase := .sending, pointer := 0x24 })
    t.link.sda = .sent 0x2C ∧ t.link.latch = some { position := 0x25, value := 0x01 } := by decide +kernel

theorem test_staged_byte :
    (after (.stagedByte 0x2C) (atPosition 0x24 none quiet)).link.staged =
      some { field := .blockQuota 5, value := 0x2C } := by decide +kernel

/-- 9.10 step 2. -/
theorem test_block_quota_commit :
    let s := atPosition 0x25 (some { field := .blockQuota 5, value := 0x2C }) quiet
    ((after (.blockQuotaCommit 0x01) s).policy 5).blockQuota = 300 := by decide +kernel

/-- 9.10 step 3: 0x032C is above 512. -/
theorem test_block_quota_above_range :
    let s := atPosition 0x25 (some { field := .blockQuota 5, value := 0x2C }) quiet
    ((after (.blockQuotaCommit 0x03) s).policy 5).blockQuota = 96 := by decide +kernel

theorem test_supervisor_flags_write :
    (after (.supervisorFlagsWrite 0x07) (atPosition 0 none (quiet.setSupervisor { flags := 0x0E, enables := 0 }))).supervisor.flags
      = 0x06 := by decide +kernel

theorem test_supervisor_enables_write :
    (after (.supervisorEnablesWrite 0xFF) (atPosition 1 none quiet)).supervisor.enables = 0x3F := by decide +kernel

theorem test_watermark_commit :
    (after (.watermarkCommit 0x01) (atPosition 3 (some { field := .watermark, value := 0xFF }) quiet)).pool.watermark
      = 511 := by decide +kernel

theorem test_tick_period_code_write :
    (after (.tickPeriodCodeWrite 4) (atPosition 4 none quiet)).ticks.code = 4 ∧
      (after (.tickPeriodCodeWrite 5) (atPosition 4 none quiet)).ticks.code = 1 := by decide +kernel

theorem test_lease_quota_write :
    ((after (.leaseQuotaWrite 40) (atPosition 0x12 none quiet)).policy 0).leaseQuota = 40 ∧
      ((after (.leaseQuotaWrite 41) (atPosition 0x12 none quiet)).policy 0).leaseQuota = 6 := by decide +kernel

theorem test_open_permission_write :
    ((after (.openPermissionWrite 0xFE) (atPosition 0x3F none quiet)).policy 11).openAllowed = false := by decide +kernel

/-- 11.7 step 3. -/
theorem test_command_parameter_commit :
    let s := atPosition 7 (some { field := .commandParameter, value := 0x5E }) quiet
    (after (.commandParameterCommit 0x02) s).slot.parameter = 0x25E := by decide +kernel

theorem test_command_write :
    let t := after (.commandWrite 0x01) (atPosition 8 none quiet)
    t.slot.state = .pending ∧ t.slot.command = 0x01 ∧ t.link.pointer = 9 := by decide +kernel

/-- 11.7 step 1. -/
theorem test_snapshot_of_lease :
    (after (.snapshotSelect 30) (atPosition 0x40 none thirty)).snapshot.buffer.list.take 19 =
      [0x01, 0x03, 0x09, 0x00, 0x00, 0x0A, 0x01, 0x01, 0x12, 0x00, 0xC8, 0x00, 0x04, 0x00, 0, 0, 0, 0, 0x01] := by
  decide +kernel

/-- 11.7 step 2: entry present, handle 0x025E, kind 2, remaining 80. -/
theorem test_snapshot_of_session :
    ((after (.snapshotSelect 71) (atPosition 0x40 none thirty)).snapshot.buffer.list.drop 7).take 9 =
      [1, 0, 0, 0x5E, 0x02, 2, 0, 80, 0] := by decide +kernel

/-- R170: a repeated START keeps the transaction in progress. -/
theorem test_repeated_start :
    (after .linkStart (atPosition 0x25 none quiet)).link.phase = .address true := by decide +kernel

/-- 9.10 step 4. -/
theorem test_link_reset :
    let t := after .linkReset (atPosition 0x25 (some { field := .blockQuota 5, value := 0 }) quiet)
    t.link.staged = none ∧ t.link.phase = .idle ∧ t.link.pointer = 0x25 := by decide +kernel

/-! ### Witnesses: the hypotheses of each statement can be met, clause by clause -/

theorem witness_StepCarriesOutFrontCommand :
    ({ quiet with pending := [.tick, .linkStop] } : State).pending = .tick :: [.linkStop] ∧ quiet.pending = [] ∧
      step { quiet with pending := [.tick, .linkStop] } = exec .tick { quiet with pending := [.linkStop] } :=
  ⟨rfl, rfl, rfl⟩

theorem witness_SessionCheckComesFirst :
    ((posted 0 0x02 0 0 0 quiet).Takes 0 .renew ∧ (posted 0 0x02 0 0 0 quiet).session 0 = Session.atReset) ∧
      ((posted 11 0xFF 0 0 0 quiet).Takes 11 .undefined ∧ (posted 11 0xFF 0 0 0 quiet).session 11 = Session.atReset) ∧
      ((asked 0x02 0 0 0).Takes 1 .renew ∧ (asked 0x02 0 0 0).Open 1) ∧
      ((asked 0x00 0 0 0).Takes 1 .undefined ∧ (asked 0x00 0 0 0).Open 1) :=
  ⟨⟨takes_of (by decide +kernel), by decide +kernel⟩, ⟨takes_of (by decide +kernel), by decide +kernel⟩,
    ⟨takes_of (by decide +kernel), rfl⟩, ⟨takes_of (by decide +kernel), rfl⟩⟩

/-- A generation that is not the record's (0x80), a record that is FREE (0x42) and a record number of 40 (0x68). -/
theorem witness_StaleHandleIsRefused :
    ((asked 0x12 0x80 0 0).Takes 1 .query ∧ (asked 0x12 0x80 0 0).Open 1 ∧
        ∀ r, ¬ (asked 0x12 0x80 0 0).Names ((asked 0x12 0x80 0 0).parameter 1) r) ∧
      ((asked 0x40 0x68 0 0).Takes 1 .bind ∧ (asked 0x40 0x68 0 0).Open 1 ∧
        ∀ r, ¬ (asked 0x40 0x68 0 0).Names ((asked 0x40 0x68 0 0).parameter 1) r) ∧
      ((commanded 0x01 0x42 desk).TakesCommand .revoke ∧ ∀ r, ¬ (commanded 0x01 0x42 desk).Names 0x42 r) ∧
      (thirty.lease 30).state ≠ .free :=
  ⟨⟨takes_of (by decide +kernel), rfl, not_names_of (by decide +kernel)⟩,
    ⟨takes_of (by decide +kernel), rfl, not_names_of (by decide +kernel)⟩,
    ⟨⟨rfl, rfl⟩, not_names_of (by decide +kernel)⟩, by decide +kernel⟩

/-- The farthest master, eleven takes away. -/
theorem witness_EveryTakeBringsAWaitingMasterNearer :
    let s := posted 11 0x02 0 0 0 (posted 0 0x02 0 0 0 quiet)
    s.Takes 0 .renew ∧ (11 : Master) ≠ 0 ∧ (s.mailbox 11).state = .pending ∧ s.place 11 = 11 ∧
      ∃ t, exec (takeOfRequest .renew) s = .next t :=
  ⟨takes_of (by decide +kernel), by decide, rfl, rfl, _, rfl⟩

/-- Master 1 of the desk card without the permission to open. -/
def barred (s : State) : State := s.setPolicy 1 { Policy.atReset with openAllowed := false }

theorem witness_OpenOpensOrReopens_refused :
    ((barred (posted 1 0x01 9 0 0 quiet)).Takes 1 .openSession ∧ (barred (posted 1 0x01 9 0 0 quiet)).isOpen 1 = false) ∧
      ((barred (asked 0x01 9 0 0)).Takes 1 .openSession ∧ (barred (asked 0x01 9 0 0)).Open 1) ∧
      ((posted 1 0x01 0 0 0 quiet).Takes 1 .openSession ∧ (posted 1 0x01 0 0 0 quiet).isOpen 1 = false) ∧
      ((asked 0x01 4096 0 0).Takes 1 .openSession ∧ (asked 0x01 4096 0 0).Open 1) :=
  ⟨⟨takes_of (by decide +kernel), by decide +kernel⟩, ⟨takes_of (by decide +kernel), rfl⟩,
    ⟨takes_of (by decide +kernel), by decide +kernel⟩, ⟨takes_of (by decide +kernel), rfl⟩⟩

theorem witness_OpenOpensOrReopens :
    ((posted 1 0x01 1 0 0 quiet).Takes 1 .openSession ∧ (posted 1 0x01 1 0 0 quiet).isOpen 1 = false ∧
        ((posted 1 0x01 1 0 0 quiet).policy 1).openAllowed = true) ∧
      ((asked 0x01 4095 0 0).Takes 1 .openSession ∧ (asked 0x01 4095 0 0).Open 1 ∧
        ((asked 0x01 4095 0 0).policy 1).openAllowed = true ∧ ((asked 0x01 4095 0 0).parameter 1).toNat = 4095 ∧
        (asked 0x01 4095 0 0).QueueLaw) :=
  ⟨⟨takes_of (by decide +kernel), by decide +kernel, by decide +kernel⟩,
    ⟨takes_of (by decide +kernel), rfl, by decide +kernel, by decide +kernel, queueLaw_of (by decide +kernel)⟩⟩

theorem open_of {s : State} {m : Master} (h : (s.session m).state = .opened) : s.Open m := h

theorem no_waiters_of {s : State} {h : Handle} (hq : s.queue = []) : s.NoWaiters h := by
  intro e he
  rw [hq] at he
  cases he

/-- The desk card with record 0 not kept. -/
def unkept (code parameter param1 param2 : Nat) : State :=
  (asked code parameter param1 param2).setLease 0 { heldBy 1 .exclusive 0x002 0 4 with keep := false }

/-- Two masters wait to acquire record 0 of the desk card: master 3 SHARED, then master 2 EXCLUSIVE. -/
def awaited (s : State) : State := waiting 2 0x40 .acqExcl 9 (waiting 3 0x40 .acqShared 9 s)

def entryOf3Shared : WaitEntry := { master := 3, handle := 0x40, kind := .acqShared, remaining := 9 }
def entryOf2Excl : WaitEntry := { master := 2, handle := 0x40, kind := .acqExcl, remaining := 9 }

theorem holdsAlone_of {s : State} {m : Master} {r : RecordNo}
    (h : ((s.lease r).state = .held ∨ (s.lease r).state = .moving ∧
      ∀ r r', (s.lease r).state = .moving → (s.lease r').state = .moving → r = r') ∧
      (s.lease r).holders = MasterSet.single m) : s.HoldsAlone m r := ⟨h.1, h.2⟩

theorem awaitedFrom_of {s : State} {m : Master} {r : RecordNo} {e : WaitEntry} {rest : List WaitEntry}
    (h : s.HoldsAlone m r) (hq : s.queue.filter (fun x => x.handle == s.handle r) = e :: rest ∧ e.kind ≠ .upgrade ∧
      ∀ x ∈ e :: rest, x.master ≠ m) : s.AwaitedFrom m r e rest :=
  ⟨h, hq.1, hq.2.1, hq.2.2⟩

/-- Of record 0 of the desk card, with each way its holder, master 1, is made to leave it: RELEASE, CLOSE, a reopen,
EVICT and a lapse. -/
theorem witness_AwaitedFrom :
    (let s := awaited (asked 0x21 0x40 0 0);
      s.TakesOn 1 .release 0 ∧ s.QueueLaw ∧ (∀ x ∈ s.queue, x.handle = s.parameter 1 → x.master ≠ 1) ∧
        (s.lease 0).holders.mem 1 = true ∧ s.AwaitedFrom 1 0 entryOf3Shared [entryOf2Excl]) ∧
      (let s := awaited (asked 0x03 0 0 0);
        s.Takes 1 .close ∧ s.Open 1 ∧ s.QueueLaw ∧ s.AwaitedFrom 1 0 entryOf3Shared [entryOf2Excl]) ∧
      (let s := awaited (asked 0x01 9 0 0);
        s.Takes 1 .openSession ∧ s.Open 1 ∧ s.QueueLaw ∧ (s.policy 1).openAllowed = true ∧
          (s.parameter 1).toNat = 9 ∧ s.AwaitedFrom 1 0 entryOf3Shared [entryOf2Excl]) ∧
      (let s := awaited (commanded 0x02 1 desk);
        s.TakesCommand .evict ∧ s.slot.parameter.toNat = 1 ∧ s.Open 1 ∧ s.QueueLaw ∧
          s.AwaitedFrom 1 0 entryOf3Shared [entryOf2Excl]) ∧
      (let s := awaited (due (opened 1 9 1 1 4 desk));
        0 < s.ticks.sessionDue ∧ s.QueueLaw ∧ s.Open 1 ∧ (s.session 1).remaining = 1 ∧
          (∀ m', m' ≠ 1 → (s.session m').state = .opened → 2 ≤ (s.session m').remaining) ∧
          s.AwaitedFrom 1 0 entryOf3Shared [entryOf2Excl]) :=
  ⟨⟨takesOn_of (by decide +kernel), queueLaw_of (by decide +kernel), by decide +kernel, by decide +kernel,
      awaitedFrom_of (holdsAlone_of (by decide +kernel)) (by decide +kernel)⟩,
    ⟨takes_of (by decide +kernel), open_of (by decide +kernel), queueLaw_of (by decide +kernel),
      awaitedFrom_of (holdsAlone_of (by decide +kernel)) (by decide +kernel)⟩,
    ⟨takes_of (by decide +kernel), open_of (by decide +kernel), queueLaw_of (by decide +kernel), by decide +kernel,
      by decide +kernel, awaitedFrom_of (holdsAlone_of (by decide +kernel)) (by decide +kernel)⟩,
    ⟨⟨rfl, rfl⟩, by decide +kernel, open_of (by decide +kernel), queueLaw_of (by decide +kernel),
      awaitedFrom_of (holdsAlone_of (by decide +kernel)) (by decide +kernel)⟩,
    ⟨by decide +kernel, queueLaw_of (by decide +kernel), open_of (by decide +kernel), by decide +kernel,
      by decide +kernel, awaitedFrom_of (holdsAlone_of (by decide +kernel)) (by decide +kernel)⟩⟩

/-- The same of a MOVING lease, whose move an ending abandons: CLOSE, a reopen, EVICT and a lapse. -/
theorem witness_AwaitedFrom_moving :
    (let s := awaited (posted 1 0x03 0 0 0 (moving .up 1 5));
      s.Takes 1 .close ∧ s.Open 1 ∧ s.QueueLaw ∧ s.AwaitedFrom 1 0 entryOf3Shared [entryOf2Excl]) ∧
      (let s := awaited (posted 1 0x01 9 0 0 (moving .up 1 5));
        s.Takes 1 .openSession ∧ s.Open 1 ∧ s.QueueLaw ∧ (s.policy 1).openAllowed = true ∧
          s.AwaitedFrom 1 0 entryOf3Shared [entryOf2Excl]) ∧
      (let s := awaited (commanded 0x02 1 (moving .down 0 63));
        s.TakesCommand .evict ∧ s.slot.parameter.toNat = 1 ∧ s.Open 1 ∧ s.QueueLaw ∧
          s.AwaitedFrom 1 0 entryOf3Shared [entryOf2Excl]) ∧
      (let s := awaited (due (opened 1 9 1 1 2 (moving .up 1 5)));
        0 < s.ticks.sessionDue ∧ s.QueueLaw ∧ s.Open 1 ∧ (s.session 1).remaining = 1 ∧
          (∀ m', m' ≠ 1 → (s.session m').state = .opened → 2 ≤ (s.session m').remaining) ∧
          s.AwaitedFrom 1 0 entryOf3Shared [entryOf2Excl]) :=
  ⟨⟨takes_of (by decide +kernel), open_of (by decide +kernel), queueLaw_of (by decide +kernel),
      awaitedFrom_of (holdsAlone_of (by decide +kernel)) (by decide +kernel)⟩,
    ⟨takes_of (by decide +kernel), open_of (by decide +kernel), queueLaw_of (by decide +kernel), by decide +kernel,
      awaitedFrom_of (holdsAlone_of (by decide +kernel)) (by decide +kernel)⟩,
    ⟨⟨rfl, rfl⟩, by decide +kernel, open_of (by decide +kernel), queueLaw_of (by decide +kernel),
      awaitedFrom_of (holdsAlone_of (by decide +kernel)) (by decide +kernel)⟩,
    ⟨by decide +kernel, queueLaw_of (by decide +kernel), open_of (by decide +kernel), by decide +kernel,
      by decide +kernel, awaitedFrom_of (holdsAlone_of (by decide +kernel)) (by decide +kernel)⟩⟩

/-- The card of a move with record 0 not kept. -/
def movingUnkept (dir : Direction) (i k : Nat) : State :=
  (moving dir i k).setLease 0 { (moving dir i k).lease 0 with keep := false }

/-- Of State.PassedOn: a master that closes its session holds record 9 SHARED with another, whose UPGRADE heads it; its own
UPGRADE heads it in front of an ACQ_SHARED entry; it only waits, at the head, in front of an ACQ_SHARED entry; it only
waits, behind the head. The same master lapses alone. -/
theorem witness_PassedOn :
    (let s := posted 6 0x03 0 0 0 (nine 0x048 [entryOf3 25, entryOf10 5]);
      s.Takes 6 .close ∧ s.Open 6 ∧ s.QueueLaw ∧ (s.lease 9).state = .held ∧ (s.lease 9).holders.mem 6 = true ∧
        (s.lease 9).holders ≠ MasterSet.single 6 ∧
        Lease.grants { s.lease 9 with holders := (s.lease 9).holders.erase 6 } [entryOf3 25, entryOf10 5] =
          [entryOf3 25]) ∧
      (let s := posted 3 0x03 0 0 0 (nine 0x048 [entryOf3 25, entryOf11 5]);
        s.Takes 3 .close ∧ s.Open 3 ∧ s.QueueLaw ∧ (s.lease 9).holders.mem 3 = true ∧
          (s.queue.filter fun x => x.handle == s.handle 9).filter (fun x => x.master != 3) = [entryOf11 5] ∧
          Lease.grants { s.lease 9 with holders := (s.lease 9).holders.erase 3 } [entryOf11 5] = [entryOf11 5]) ∧
      (let s := posted 3 0x03 0 0 0 (nine 0x041 [{ entryOf10 5 with master := 3 }, entryOf11 5]);
        s.Takes 3 .close ∧ s.Open 3 ∧ s.QueueLaw ∧ (s.lease 9).state = .held ∧ (s.lease 9).holders.mem 3 = false ∧
          s.queue.filter (fun x => x.handle == s.handle 9) = { entryOf10 5 with master := 3 } :: [entryOf11 5] ∧
          (s.lease 9).grants [entryOf11 5] = [entryOf11 5]) ∧
      (let s := posted 3 0x03 0 0 0 (nine 0x041 [entryOf10 5, { entryOf11 5 with master := 3 }]);
        s.Takes 3 .close ∧ s.Open 3 ∧ s.QueueLaw ∧ (s.lease 9).holders.mem 3 = false ∧
          ∀ e, s.queue.find? (fun x => x.handle == s.handle 9) = some e → e.master ≠ 3) ∧
      (let s := due (opened 6 90 1 0 0 (nine 0x048 [entryOf3 25]));
        0 < s.ticks.sessionDue ∧ s.QueueLaw ∧ (s.session 6).state = .opened ∧ (s.session 6).remaining = 1 ∧
          (s.lease 9).holders.mem 6 = true ∧
          ∀ m', m' ≠ 6 → (s.session m').state = .opened → 2 ≤ (s.session m').remaining) := by
  refine ⟨⟨takes_of (by decide +kernel), open_of (by decide +kernel), queueLaw_of (by decide +kernel),
      by decide +kernel, by decide +kernel, by decide +kernel, by decide +kernel⟩,
    ⟨takes_of (by decide +kernel), open_of (by decide +kernel), queueLaw_of (by decide +kernel),
      by decide +kernel, by decide +kernel, by decide +kernel⟩,
    ⟨takes_of (by decide +kernel), open_of (by decide +kernel), queueLaw_of (by decide +kernel),
      by decide +kernel, by decide +kernel, by decide +kernel, by decide +kernel⟩,
    ⟨takes_of (by decide +kernel), open_of (by decide +kernel), queueLaw_of (by decide +kernel),
      by decide +kernel, fun e he => ?_⟩,
    ⟨by decide +kernel, queueLaw_of (by decide +kernel), by decide +kernel, by decide +kernel, by decide +kernel,
      by decide +kernel⟩⟩
  cases he
  decide

/-- R54: the head entry of the ending master goes quietly, and the ACQ_SHARED entry behind it is granted. -/
theorem test_evict_removes_the_head :
    let t := after .takeEvict (commanded 0x02 3 (nine 0x041 [{ entryOf10 5 with master := 3 }, entryOf11 5]))
    (t.lease 9).holders = 0x841 ∧ t.queue = [] ∧ (t.mailbox 3).waitRecord.result = none ∧
      (t.mailbox 11).waitRecord = { handle := 0x109, mode := some .shared, result := some .granted } := by
  decide +kernel

/-- Of State.Ended: a HELD and a MOVING lease, kept and not. -/
theorem witness_CloseEndsTheSession :
    (let s := asked 0x03 0 0 0;
      s.Takes 1 .close ∧ s.Open 1 ∧ s.QueueLaw ∧ s.HoldsAlone 1 0 ∧ s.NoWaiters (s.handle 0) ∧
        (s.lease 0).keep = true) ∧
      (let s := unkept 0x03 0 0 0;
        s.Takes 1 .close ∧ s.HoldsAlone 1 0 ∧ (s.lease 0).keep = false) ∧
      (let s := posted 1 0x03 0 0 0 (moving .up 1 5);
        s.Takes 1 .close ∧ s.Open 1 ∧ s.QueueLaw ∧ s.HoldsAlone 1 0 ∧ (s.lease 0).state = .moving ∧
          (s.lease 0).target = some { base := 4, len := 3 } ∧ s.NoWaiters (s.handle 0) ∧ (s.lease 0).keep = true ∧
          s.engine.step = some .copy) ∧
      (let s := posted 1 0x03 0 0 0 (movingUnkept .down 0 63);
        s.Takes 1 .close ∧ s.HoldsAlone 1 0 ∧ (s.lease 0).state = .moving ∧ (s.lease 0).keep = false) :=
  ⟨⟨takes_of (by decide +kernel), rfl, queueLaw_of (by decide +kernel), holdsAlone_of (by decide +kernel),
      no_waiters_of rfl, by decide +kernel⟩,
    ⟨takes_of (by decide +kernel), holdsAlone_of (by decide +kernel), by decide +kernel⟩,
    ⟨takes_of (by decide +kernel), rfl, queueLaw_of (by decide +kernel), holdsAlone_of (by decide +kernel),
      by decide +kernel, by decide +kernel, no_waiters_of rfl, by decide +kernel, by decide +kernel⟩,
    ⟨takes_of (by decide +kernel), holdsAlone_of (by decide +kernel), by decide +kernel, by decide +kernel⟩⟩

/-- R55: the ending abandons the move; the old run stays, the target run is SCRUB, and the burst in flight goes on. -/
theorem test_close_abandons_the_move :
    let t := after .takeClose (posted 1 0x03 0 0 0 (moving .down 0 7))
    (t.mailbox 1).moveRecord = { handle := 0x40, result := some .abandoned, reason := .sessionEnded, length := 2 } ∧
      (t.lease 0).state = .idle ∧ t.block 4 = some .scrub ∧ t.block 6 = some .scrub ∧ t.block 0 = some (.run 0) ∧
      t.engine.step = some (.cutCopy 0 5 7) ∧ t.engine.mover.record = none := by decide +kernel

/-- CREATE of 96 blocks, which is the whole quota, UP and DOWN, on record 0 of generation 0 and 1023. -/
theorem witness_CreateMakesTheLease :
    let up := posted 3 0x10 0x0300 96 0 (opened 3 9 9 0 0 quiet)
    let down := (posted 3 0x10 0 0x10060 0 (opened 3 9 9 0 0 quiet)).setLease 0 (Lease.freed 1023)
    (up.Takes 3 .create ∧ up.Open 3 ∧ (up.lease 0).state = .free ∧
        (∀ r', (up.lease r').state ≠ .free → (up.lease r').tag ≠ up.parameter 3) ∧
        ((up.mailbox 3).param1.extractLsb' 0 9).toNat = 96 ∧
        (up.session 3).ownedLeases + 1 ≤ (up.policy 3).leaseQuota ∧
        up.committedBlocks 3 + 96 ≤ (up.policy 3).blockQuota ∧ up.Chosen .up 96 0) ∧
      (down.Takes 3 .create ∧ down.Open 3 ∧ (down.lease 0).state = .free ∧ down.parameter 3 = 0 ∧
        ((down.mailbox 3).param1.extractLsb' 0 9).toNat = 96 ∧ (down.mailbox 3).param1.getLsbD 16 = true ∧
        (down.session 3).ownedLeases + 1 ≤ (down.policy 3).leaseQuota ∧
        down.committedBlocks 3 + 96 ≤ (down.policy 3).blockQuota ∧ down.Chosen .down 96 416) :=
  ⟨⟨takes_of (by decide +kernel), rfl, rfl, by decide +kernel, by decide +kernel, by decide +kernel,
      by decide +kernel, fits_of (by decide +kernel), fun b _ => Nat.zero_le b⟩,
    ⟨takes_of (by decide +kernel), rfl, by decide +kernel, by decide +kernel, by decide +kernel, by decide +kernel,
      by decide +kernel, by decide +kernel, fits_of (by decide +kernel), fun b hb => by have := hb.1; omega⟩⟩

/-- The quiet card with every block SCRUB. -/
def unready (s : State) : State :=
  s.setPool (Pool.atReset 32)

theorem witness_CreateChecksInOrder :
    let full := { asked 0x10 0 1 0 with leases := Table.replicate 40 (heldBy 1 .exclusive 0x002 0 4) }
    (full.Takes 1 .create ∧ full.Open 1 ∧ ∀ r, (full.lease r).state ≠ .free) ∧
      ((shelfAsked 0x10 0x0210 2 0).Takes 6 .create ∧ (shelfAsked 0x10 0x0210 2 0).Open 6 ∧
        ((shelfAsked 0x10 0x0210 2 0).lease 1).state ≠ .free ∧
        ((shelfAsked 0x10 0x0210 2 0).lease 1).tag = (shelfAsked 0x10 0x0210 2 0).parameter 6 ∧
        (shelfAsked 0x10 0x0210 2 0).TagLaw) ∧
      ((asked 0x10 0 0 0).Takes 1 .create ∧ (asked 0x10 0 257 0).Takes 1 .create ∧
        (((asked 0x10 0 0 0).mailbox 1).param1.extractLsb' 0 9).toNat = 0 ∧
        (((asked 0x10 0 257 0).mailbox 1).param1.extractLsb' 0 9).toNat = 257 ∧
        ((asked 0x10 0 257 0).lease 2).state = .free) ∧
      (let s := posted 3 0x10 0 256 0 (opened 3 9 9 6 6 quiet);
        s.Takes 3 .create ∧ s.Open 3 ∧ (s.policy 3).leaseQuota < (s.session 3).ownedLeases + 1) ∧
      (let s := posted 3 0x10 0 97 0 (opened 3 9 9 5 0 quiet);
        s.Takes 3 .create ∧ s.Open 3 ∧ (s.session 3).ownedLeases + 1 ≤ (s.policy 3).leaseQuota ∧
          (s.policy 3).blockQuota < s.committedBlocks 3 + 97) ∧
      (let s := unready (posted 3 0x10 0 1 0 (opened 3 9 9 0 0 quiet));
        s.Takes 3 .create ∧ s.Open 3 ∧ s.committedBlocks 3 + 1 ≤ (s.policy 3).blockQuota ∧ ∀ base, ¬ s.Fits base 1) := by
  refine ⟨⟨takes_of (by decide +kernel), rfl, by decide +kernel⟩,
    ⟨takes_of (by decide +kernel), rfl, by decide +kernel, by decide +kernel, ?_⟩,
    ⟨takes_of (by decide +kernel), takes_of (by decide +kernel), by decide +kernel, by decide +kernel,
      by decide +kernel⟩,
    ⟨takes_of (by decide +kernel), rfl, by decide +kernel⟩,
    ⟨takes_of (by decide +kernel), rfl, by decide +kernel, by decide +kernel⟩,
    ⟨takes_of (by decide +kernel), rfl, by decide +kernel, no_fits_of (by omega) (by decide +kernel)⟩⟩
  unfold State.TagLaw
  decide +kernel

theorem witness_FindAnswersTheFirstMatch :
    ((shelfAsked 0x11 0 0 40).Takes 6 .find ∧
        (((shelfAsked 0x11 0 0 40).mailbox 6).param2.extractLsb' 0 8).toNat = 40) ∧
      (let s := shelfAsked 0x11 0 0xFFFF 3;
        s.Takes 6 .find ∧ s.Open 6 ∧ (s.lease 3).state ≠ .free ∧
          (s.lease 3).tag &&& 0xFFFF#16 = s.parameter 6 &&& 0xFFFF#16 ∧ (s.lease 3).owner = some 4) ∧
      (let s := shelfAsked 0x11 1 0xFFFF 39;
        s.Takes 6 .find ∧ s.Open 6 ∧ ∀ r' : RecordNo, 39 ≤ r'.val → (s.lease r').state ≠ .free →
          (s.lease r').tag &&& 0xFFFF#16 ≠ s.parameter 6 &&& 0xFFFF#16) :=
  ⟨⟨takes_of (by decide +kernel), by decide +kernel⟩,
    ⟨takes_of (by decide +kernel), rfl, by decide +kernel, by decide +kernel, by decide +kernel⟩,
    ⟨takes_of (by decide +kernel), rfl, by decide +kernel⟩⟩

theorem witness_QueryReportsTheRecord :
    let s := shelfAsked 0x12 0x00C0 0 0
    s.TakesOn 6 .query 0 ∧ (s.lease 0).run = some { base := 0, len := 16 } ∧ (s.lease 0).owner = some 1 ∧
      (s.lease 0).direction = some .up ∧ (s.queue.filter fun e => e.handle == s.parameter 6).length ≤ 11 :=
  ⟨takesOn_of (by decide +kernel), by decide +kernel, by decide +kernel, by decide +kernel, by decide +kernel⟩

/-- The desk card with record 0 on the move to run 20+6. -/
def onTheMove (code parameter param1 param2 : Nat) : State :=
  leased 0 { heldBy 1 .exclusive 0x002 0 4 with state := .moving, target := some { base := 20, len := 6 } }
    (asked code parameter param1 param2)

theorem witness_MarkReportsAndClearsWritten :
    ((asked 0x13 0x41 0 0).TakesOn 1 .mark 1 ∧ ((asked 0x13 0x41 0 0).lease 1).mode = some .shared) ∧
      ((onTheMove 0x13 0x40 0 0).TakesOn 1 .mark 0 ∧ ((onTheMove 0x13 0x40 0 0).lease 0).holders.mem 1 = true ∧
        ((onTheMove 0x13 0x40 0 0).lease 0).mode = some .exclusive ∧
        ((onTheMove 0x13 0x40 0 0).lease 0).state = .moving) ∧
      ((asked 0x13 0x40 0 0).TakesOn 1 .mark 0 ∧ ((asked 0x13 0x40 0 0).lease 0).holders.mem 1 = true ∧
        ((asked 0x13 0x40 0 0).lease 0).mode = some .exclusive ∧ ((asked 0x13 0x40 0 0).lease 0).state ≠ .moving) :=
  ⟨⟨takesOn_of (by decide +kernel), by decide +kernel⟩,
    ⟨takesOn_of (by decide +kernel), by decide +kernel, by decide +kernel, by decide +kernel⟩,
    ⟨takesOn_of (by decide +kernel), by decide +kernel, by decide +kernel, by decide +kernel⟩⟩

theorem witness_RetireEndsTheLease :
    ((asked 0x14 0x41 0 0).TakesOn 1 .retire 1 ∧ ((asked 0x14 0x41 0 0).lease 1).owner ≠ some 1) ∧
      ((onTheMove 0x14 0x40 0 0).TakesOn 1 .retire 0 ∧ ((onTheMove 0x14 0x40 0 0).lease 0).owner = some 1 ∧
        ((onTheMove 0x14 0x40 0 0).lease 0).state = .moving) ∧
      (let s := posted 2 0x14 0x41 0 0 desk;
        s.TakesOn 2 .retire 1 ∧ (s.lease 1).owner = some 2 ∧ (s.lease 1).state = .held ∧
          (s.lease 1).holders ≠ MasterSet.single 2) ∧
      (let s := waiting 3 0x40 .acqExcl 1 (asked 0x14 0x40 0 0);
        s.TakesOn 1 .retire 0 ∧ (s.lease 0).owner = some 1 ∧ (s.lease 0).state ≠ .moving ∧
          (s.lease 0).holders = MasterSet.single 1 ∧ (s.lease 0).run = some { base := 0, len := 4 } ∧ s.QueueLaw) ∧
      ((shelfAsked 0x14 0x01C1 0 0).TakesOn 6 .retire 1 ∧ ((shelfAsked 0x14 0x01C1 0 0).lease 1).owner = some 6 ∧
        ((shelfAsked 0x14 0x01C1 0 0).lease 1).state = .idle) :=
  ⟨⟨takesOn_of (by decide +kernel), by decide +kernel⟩,
    ⟨takesOn_of (by decide +kernel), by decide +kernel, by decide +kernel⟩,
    ⟨takesOn_of (by decide +kernel), by decide +kernel, by decide +kernel, by decide +kernel⟩,
    ⟨takesOn_of (by decide +kernel), by decide +kernel, by decide +kernel, by decide +kernel, by decide +kernel,
      queueLaw_of (by decide +kernel)⟩,
    ⟨takesOn_of (by decide +kernel), by decide +kernel, by decide +kernel⟩⟩

/-- Master 3 of the desk card asks for record 1, which masters 1 and 2 hold SHARED. -/
def asked3 (code param1 : Nat) (entries : List WaitEntry) : State :=
  (posted 3 code 0x41 param1 0 desk).setQueue entries

theorem witness_AcquireGrantsQueuesOrRefuses_granted :
    (let s := shelfAsked 0x20 0x01C1 2 0;
      s.TakesOn 6 .acquire 1 ∧ (s.lease 1).owner = some 6 ∧ (s.lease 1).holders.mem 6 = false ∧
        ((s.mailbox 6).param1.extractLsb' 0 2).toNat = modeCode (some .exclusive) ∧ s.NoWaiters (s.parameter 6) ∧
        (s.lease 1).state = .idle) ∧
      (let s := asked3 0x20 1 [];
        s.TakesOn 3 .acquire 1 ∧ (s.lease 1).isPublic = true ∧ (s.lease 1).holders.mem 3 = false ∧
          ((s.mailbox 3).param1.extractLsb' 0 2).toNat = modeCode (some .shared) ∧ s.NoWaiters (s.parameter 3) ∧
          (s.lease 1).state = .held ∧ (s.lease 1).mode = some .shared) :=
  ⟨⟨takesOn_of (by decide +kernel), by decide +kernel, by decide +kernel, by decide +kernel, no_waiters_of rfl,
      by decide +kernel⟩,
    ⟨takesOn_of (by decide +kernel), by decide +kernel, by decide +kernel, by decide +kernel, no_waiters_of rfl,
      by decide +kernel, by decide +kernel⟩⟩

theorem witness_AcquireGrantsQueuesOrRefuses_refused :
    ((shelfAsked 0x20 0x0043 1 0).TakesOn 6 .acquire 3 ∧ ((shelfAsked 0x20 0x0043 1 0).lease 3).owner ≠ some 6 ∧
        ((shelfAsked 0x20 0x0043 1 0).lease 3).isPublic = false) ∧
      ((asked 0x20 0x40 1 0).TakesOn 1 .acquire 0 ∧ ((asked 0x20 0x40 1 0).lease 0).holders.mem 1 = true) ∧
      ((asked3 0x20 0 []).TakesOn 3 .acquire 1 ∧ (asked3 0x20 3 []).TakesOn 3 .acquire 1 ∧
        (((asked3 0x20 0 []).mailbox 3).param1.extractLsb' 0 2).toNat = 0 ∧
        (((asked3 0x20 3 []).mailbox 3).param1.extractLsb' 0 2).toNat = 3 ∧
        ((asked3 0x20 3 []).lease 1).holders.mem 3 = false) ∧
      ((asked3 0x20 2 []).TakesOn 3 .acquire 1 ∧
        (((asked3 0x20 2 []).mailbox 3).param1.extractLsb' 16 12).toNat = 0) ∧
      (let s := asked3 0x20 0x0FFF0002 [{ master := 3, handle := 0x40, kind := .acqExcl, remaining := 5 }];
        s.TakesOn 3 .acquire 1 ∧ ((s.mailbox 3).param1.extractLsb' 16 12).toNat = 4095 ∧ s.QueueLaw ∧
          s.queue.length = 1) ∧
      (let s := asked3 0x20 0x00010001 [{ master := 0, handle := 0x41, kind := .acqExcl, remaining := 5 }];
        s.TakesOn 3 .acquire 1 ∧ ((s.mailbox 3).param1.extractLsb' 16 12).toNat = 1 ∧
          ¬ (∀ e ∈ s.queue, e.handle ≠ s.parameter 3) ∧ ∀ e ∈ s.queue, e.master ≠ 3) :=
  ⟨⟨takesOn_of (by decide +kernel), by decide +kernel, by decide +kernel⟩,
    ⟨takesOn_of (by decide +kernel), by decide +kernel⟩,
    ⟨takesOn_of (by decide +kernel), takesOn_of (by decide +kernel), by decide +kernel, by decide +kernel,
      by decide +kernel⟩,
    ⟨takesOn_of (by decide +kernel), by decide +kernel⟩,
    ⟨takesOn_of (by decide +kernel), by decide +kernel, queueLaw_of (by decide +kernel), rfl⟩,
    ⟨takesOn_of (by decide +kernel), by decide +kernel, by decide +kernel, by decide +kernel⟩⟩

theorem witness_ReleaseGivesUpTheHold :
    ((posted 3 0x21 0x41 0 0 desk).TakesOn 3 .release 1 ∧
        ((posted 3 0x21 0x41 0 0 desk).lease 1).holders.mem 3 = false) ∧
      ((asked 0x21 0x41 0 0).TakesOn 1 .release 1 ∧ ((asked 0x21 0x41 0 0).lease 1).holders.mem 1 = true ∧
        ((asked 0x21 0x41 0 0).lease 1).state = .held ∧ (asked 0x21 0x41 0 0).NoWaiters 0x41 ∧
        ((asked 0x21 0x41 0 0).lease 1).holders ≠ MasterSet.single 1) ∧
      ((asked 0x21 0x40 0 0).TakesOn 1 .release 0 ∧ ((asked 0x21 0x40 0 0).lease 0).state = .held ∧
        ((asked 0x21 0x40 0 0).lease 0).holders = MasterSet.single 1 ∧ (asked 0x21 0x40 0 0).NoWaiters 0x40 ∧
        ((asked 0x21 0x40 0 0).lease 0).keep = true) ∧
      ((unkept 0x21 0x40 0 0).TakesOn 1 .release 0 ∧ ((unkept 0x21 0x40 0 0).lease 0).keep = false ∧
        ((unkept 0x21 0x40 0 0).lease 0).run = some { base := 0, len := 4 }) :=
  ⟨⟨takesOn_of (by decide +kernel), by decide +kernel⟩,
    ⟨takesOn_of (by decide +kernel), by decide +kernel, by decide +kernel, no_waiters_of rfl, by decide +kernel⟩,
    ⟨takesOn_of (by decide +kernel), by decide +kernel, by decide +kernel, no_waiters_of rfl, by decide +kernel⟩,
    ⟨takesOn_of (by decide +kernel), by decide +kernel, by decide +kernel⟩⟩

/-- The RELEASE of a master of record 9, with an UPGRADE entry of master 3 at the head and given entries behind. -/
def upgradeMet (m : Master) (holders : MasterSet) (rest : List WaitEntry) : State :=
  posted m 0x21 0x109 0 0 (nine holders (entryOf3 25 :: rest))

/-- R90's example, with masters 3 and 6 for 2 and 4 and master 10 for 7: the upgrader releases, the other does; ACQ_SHARED
entries behind the cancelled UPGRADE; and a third holder. -/
theorem witness_ReleaseMeetsAnUpgrade :
    (let s := upgradeMet 3 0x048 [entryOf10 5];
      s.TakesOn 3 .release 9 ∧ s.QueueLaw ∧ (s.lease 9).state = .held ∧ (s.lease 9).mode = some .shared ∧
        (s.lease 9).holders.mem 3 = true ∧ (s.lease 9).holders.erase 3 = MasterSet.single 6 ∧
        s.queue.filter (fun x => x.handle == s.parameter 3) = entryOf3 25 :: [entryOf10 5] ∧
        (∀ x ∈ [entryOf10 5], x.master ≠ 3) ∧
        Lease.grants { s.lease 9 with holders := MasterSet.single 6 } [entryOf10 5] = []) ∧
      (let s := upgradeMet 3 0x049 [entryOf11 5, entryOf10 5];
        s.TakesOn 3 .release 9 ∧ s.QueueLaw ∧
          s.queue.filter (fun x => x.handle == s.parameter 3) = entryOf3 25 :: [entryOf11 5, entryOf10 5] ∧
          Lease.grants { s.lease 9 with holders := 0x041 } [entryOf11 5, entryOf10 5] = [entryOf11 5]) ∧
      (let s := upgradeMet 6 0x048 [entryOf10 5];
        s.TakesOn 6 .release 9 ∧ s.QueueLaw ∧ (s.lease 9).holders.mem 6 = true ∧
          (s.lease 9).holders.erase 6 = MasterSet.single 3 ∧ (∀ x ∈ [entryOf10 5], x.master ≠ 6)) ∧
      (let s := upgradeMet 6 0x049 [];
        s.TakesOn 6 .release 9 ∧ s.QueueLaw ∧ (s.lease 9).holders.erase 6 ≠ 0 ∧
          (s.lease 9).holders.erase 6 ≠ MasterSet.single 3) :=
  ⟨⟨takesOn_of (by decide +kernel), queueLaw_of (by decide +kernel), by decide +kernel, by decide +kernel,
      by decide +kernel, by decide +kernel, by decide +kernel, by decide +kernel, by decide +kernel⟩,
    ⟨takesOn_of (by decide +kernel), queueLaw_of (by decide +kernel), by decide +kernel, by decide +kernel⟩,
    ⟨takesOn_of (by decide +kernel), queueLaw_of (by decide +kernel), by decide +kernel, by decide +kernel,
      by decide +kernel⟩,
    ⟨takesOn_of (by decide +kernel), queueLaw_of (by decide +kernel), by decide +kernel, by decide +kernel⟩⟩

theorem witness_GrantPassGrantsFromTheHead :
    (let s := nine 0x008 [entryOf3 25, entryOf11 35];
      (s.lease 9).state ≠ .moving ∧ s.QueueLaw ∧
        s.queue.filter (fun x => x.handle == s.handle 9) = entryOf3 25 :: [entryOf11 35] ∧
        (s.lease 9).holders = MasterSet.single 3) ∧
      (let s := nine 0 [entryOf10 5, entryOf11 35];
        (s.lease 9).state ≠ .moving ∧ s.QueueLaw ∧
          s.queue.filter (fun x => x.handle == s.handle 9) = entryOf10 5 :: [entryOf11 35] ∧ (s.lease 9).holders = 0) ∧
      (let s := nine 0x041 [entryOf11 35, { entryOf10 5 with kind := .acqShared }, { entryOf3 5 with kind := .acqExcl }];
        (s.lease 9).state ≠ .moving ∧ s.QueueLaw ∧
          (s.queue.filter fun x => x.handle == s.handle 9).length = 3 ∧ (s.lease 9).mode = some .shared) ∧
      (let s := nine 0x048 [entryOf3 25];
        s.QueueLaw ∧ (s.lease 9).holders ≠ MasterSet.single 3) ∧
      (nine 0x048 [entryOf10 25]).QueueLaw ∧ ((nine 0x048 [entryOf10 25]).lease 9).holders ≠ 0 :=
  ⟨⟨by decide +kernel, queueLaw_of (by decide +kernel), by decide +kernel, by decide +kernel⟩,
    ⟨by decide +kernel, queueLaw_of (by decide +kernel), by decide +kernel, by decide +kernel⟩,
    ⟨by decide +kernel, queueLaw_of (by decide +kernel), by decide +kernel, by decide +kernel⟩,
    ⟨queueLaw_of (by decide +kernel), by decide +kernel⟩, queueLaw_of (by decide +kernel), by decide +kernel⟩

/-- Master 3 of record 9's card asks for a CONVERT. -/
def nineAsked (param1 : Nat) (holders : MasterSet) (entries : List WaitEntry) : State :=
  posted 3 0x22 0x109 param1 0 (nine holders entries)

theorem witness_ConvertKeepsUpgradesOrQueues_refused :
    ((nineAsked 2 0x041 []).TakesOn 3 .convert 9 ∧ ((nineAsked 2 0x041 []).lease 9).holders.mem 3 = false) ∧
      ((nineAsked 0 0x049 []).TakesOn 3 .convert 9 ∧ (nineAsked 3 0x049 []).TakesOn 3 .convert 9 ∧
        (((nineAsked 3 0x049 []).mailbox 3).param1.extractLsb' 0 2).toNat = 3 ∧
        ((nineAsked 3 0x049 []).lease 9).holders.mem 3 = true) ∧
      ((onTheMove 0x22 0x40 1 0).TakesOn 1 .convert 0 ∧ ((onTheMove 0x22 0x40 1 0).lease 0).state = .moving ∧
        (((onTheMove 0x22 0x40 1 0).mailbox 1).param1.extractLsb' 0 2).toNat = 1) ∧
      ((nineAsked 1 0x049 []).TakesOn 3 .convert 9 ∧ modeCode ((nineAsked 1 0x049 []).lease 9).mode = 1 ∧
        ((nineAsked 1 0x049 []).lease 9).state ≠ .moving) :=
  ⟨⟨takesOn_of (by decide +kernel), by decide +kernel⟩,
    ⟨takesOn_of (by decide +kernel), takesOn_of (by decide +kernel), by decide +kernel, by decide +kernel⟩,
    ⟨takesOn_of (by decide +kernel), by decide +kernel, by decide +kernel⟩,
    ⟨takesOn_of (by decide +kernel), by decide +kernel, by decide +kernel⟩⟩

theorem witness_ConvertKeepsUpgradesOrQueues :
    ((nineAsked 2 0x008 []).TakesOn 3 .convert 9 ∧ ((nineAsked 2 0x008 []).lease 9).mode = some .shared ∧
        ((nineAsked 2 0x008 []).lease 9).holders = MasterSet.single 3) ∧
      (let s := nineAsked 0x1E0002 0x049 [{ entryOf3 9 with master := 6 }];
        s.TakesOn 3 .convert 9 ∧ (s.lease 9).holders ≠ MasterSet.single 3 ∧
          (s.queue.filter fun x => x.handle == s.parameter 3 && x.kind == .upgrade).length = 1) ∧
      (let s := nineAsked 2 0x049 [entryOf10 5];
        s.TakesOn 3 .convert 9 ∧ ((s.mailbox 3).param1.extractLsb' 16 12).toNat = 0 ∧
          ∀ e ∈ s.queue, e.handle = s.parameter 3 → e.kind ≠ .upgrade) ∧
      (let s := nineAsked 0x10002 0x049 [{ entryOf10 5 with master := 3, handle := 0x40 }];
        s.TakesOn 3 .convert 9 ∧ ((s.mailbox 3).param1.extractLsb' 16 12).toNat = 1 ∧ s.QueueLaw ∧
          (∀ e ∈ s.queue, e.handle = s.parameter 3 → e.kind ≠ .upgrade) ∧ s.queue.map (fun e => e.master) = [3]) ∧
      (let s := nineAsked 0x0FFF0002 0x049 ([{ entryOf11 5 with handle := 0x40 }] ++ [entryOf10 5]);
        s.TakesOn 3 .convert 9 ∧ ((s.mailbox 3).param1.extractLsb' 16 12).toNat = 4095 ∧
          (∀ e ∈ s.queue, e.handle = s.parameter 3 → e.kind ≠ .upgrade) ∧ (∀ e ∈ s.queue, e.master ≠ 3) ∧
          (entryOf10 5).handle = s.parameter 3) :=
  ⟨⟨takesOn_of (by decide +kernel), by decide +kernel, by decide +kernel⟩,
    ⟨takesOn_of (by decide +kernel), by decide +kernel, by decide +kernel⟩,
    ⟨takesOn_of (by decide +kernel), by decide +kernel, by decide +kernel⟩,
    ⟨takesOn_of (by decide +kernel), by decide +kernel, queueLaw_of (by decide +kernel), by decide +kernel,
      by decide +kernel⟩,
    ⟨takesOn_of (by decide +kernel), by decide +kernel, by decide +kernel, by decide +kernel, by decide +kernel⟩⟩

theorem witness_DowngradeRunsTheGrantPass :
    let s := waiting 3 0x40 .acqShared 9 (asked 0x22 0x40 1 0)
    s.TakesOn 1 .convert 0 ∧ ((s.mailbox 1).param1.extractLsb' 0 2).toNat = 1 ∧ (s.lease 0).state = .held ∧
      (s.lease 0).mode = some .exclusive ∧ (s.lease 0).holders = MasterSet.single 1 ∧ s.QueueLaw ∧
      ∀ e ∈ s.queue, e.handle = s.parameter 1 → e.kind ≠ .upgrade :=
  ⟨takesOn_of (by decide +kernel), by decide +kernel, by decide +kernel, by decide +kernel, by decide +kernel,
    queueLaw_of (by decide +kernel), by decide +kernel⟩

theorem witness_CancelWithdrawsTheEntry :
    ((asked 0x23 0 0 0).Takes 1 .cancel ∧ (asked 0x23 0 0 0).Open 1 ∧ (asked 0x23 0 0 0).QueueLaw ∧
        ∀ e ∈ (asked 0x23 0 0 0).queue, e.master ≠ 1) ∧
      (let s := posted 3 0x23 0 0 0 (nine 0x041 [{ entryOf3 9 with kind := .acqExcl }, entryOf10 5]);
        s.Takes 3 .cancel ∧ s.Open 3 ∧ s.QueueLaw ∧ s.Names 0x109 9 ∧
          (s.queue.find? fun x => x.handle == 0x109) = some { entryOf3 9 with kind := .acqExcl }) ∧
      (let s := posted 3 0x23 0 0 0 (nine 0x041 [entryOf10 5, { entryOf3 9 with kind := .acqExcl }]);
        s.Takes 3 .cancel ∧ s.QueueLaw ∧ s.Names 0x109 9 ∧
          (s.queue.find? fun x => x.handle == 0x109) ≠ some { entryOf3 9 with kind := .acqExcl }) :=
  ⟨⟨takes_of (by decide +kernel), rfl, queueLaw_of (by decide +kernel), by decide +kernel⟩,
    ⟨takes_of (by decide +kernel), open_of (by decide +kernel), queueLaw_of (by decide +kernel),
      names_of (by decide +kernel), by decide +kernel⟩,
    ⟨takes_of (by decide +kernel), queueLaw_of (by decide +kernel), names_of (by decide +kernel),
      by decide +kernel⟩⟩

theorem witness_ResizeKeepsOrShrinks :
    ((asked 0x30 0x40 4 0).TakesOn 1 .resize 0 ∧ ((asked 0x30 0x40 4 0).lease 0).holders.mem 1 = true ∧
        ((asked 0x30 0x40 4 0).lease 0).mode = some .exclusive ∧ ((asked 0x30 0x40 4 0).lease 0).state ≠ .moving ∧
        ((asked 0x30 0x40 4 0).lease 0).run = some { base := 0, len := 4 }) ∧
      ((asked 0x30 0x40 1 0).TakesOn 1 .resize 0 ∧
        (((asked 0x30 0x40 1 0).mailbox 1).param1.extractLsb' 0 9).toNat = 1 ∧
        ((asked 0x30 0x40 1 0).lease 0).direction = some .up ∧ ((asked 0x30 0x40 1 0).lease 0).owner = some 1) :=
  ⟨⟨takesOn_of (by decide +kernel), by decide +kernel, by decide +kernel, by decide +kernel, by decide +kernel⟩,
    ⟨takesOn_of (by decide +kernel), by decide +kernel, by decide +kernel, by decide +kernel⟩⟩

/-- UP into blocks 4 to 7, just below record 1, and DOWN to the bottom of the pool. -/
theorem witness_ResizeGrowsInPlace :
    (let s := asked 0x30 0x40 8 0;
      s.TakesOn 1 .resize 0 ∧ (s.lease 0).run = some { base := 0, len := 4 } ∧
        s.committedBlocks 1 + 4 ≤ (s.policy 1).blockQuota ∧ s.Fits 4 4) ∧
      (let s := posted 1 0x30 0x40 6 0 (leased 0 { heldBy 1 .exclusive 0x002 2 4 with direction := some .down }
        (opened 1 9 9 1 4 quiet));
        s.TakesOn 1 .resize 0 ∧ (s.lease 0).run = some { base := 2, len := 4 } ∧
          s.committedBlocks 1 + 2 ≤ (s.policy 1).blockQuota ∧ s.Fits 0 2) :=
  ⟨⟨takesOn_of (by decide +kernel), by decide +kernel, by decide +kernel, fits_of (by decide +kernel)⟩,
    ⟨takesOn_of (by decide +kernel), by decide +kernel, by decide +kernel, fits_of (by decide +kernel)⟩⟩

theorem witness_ResizeStartsAMove :
    (let s := asked 0x30 0x40 9 0;
      let s := leased 2 (heldBy 0 .exclusive 0x001 503 9) (s.setLease 0 { s.lease 0 with direction := some .down })
      s.TakesOn 1 .resize 0 ∧ (∀ r', (s.lease r').state ≠ .moving) ∧ s.committedBlocks 1 + 5 ≤ (s.policy 1).blockQuota ∧
        (∀ b, b + 5 = 0 → ¬ s.Fits b 5) ∧ s.Fits 494 9 ∧ ∀ b, s.Fits b 9 → b ≤ 494) ∧
      (let s := posted 6 0x30 0x41 2 0 (leased 1 (heldBy 6 .exclusive 0x040 2 1)
        (leased 2 (heldBy 0 .exclusive 0x001 3 1) (opened 6 9 9 1 1 quiet)));
        s.TakesOn 6 .resize 1 ∧ (∀ r', (s.lease r').state ≠ .moving) ∧ ¬ s.Fits 3 1 ∧ s.Chosen .up 2 0) := by
  refine ⟨⟨takesOn_of (by decide +kernel), by decide +kernel, by decide +kernel, fun b h => by omega,
      fits_of (by decide +kernel), fun b h => ?_⟩,
    ⟨takesOn_of (by decide +kernel), by decide +kernel,
      not_fits_of (b := 3) (by decide +kernel), fits_of (by decide +kernel), fun b _ => Nat.zero_le b⟩⟩
  by_contra hb
  have h1 := h.1
  exact absurd (h.2 503 (by omega) (by omega)) (by decide +kernel)

theorem witness_ResizeChecksInOrder :
    ((asked 0x30 0x41 4 0).TakesOn 1 .resize 1 ∧ ((asked 0x30 0x41 4 0).lease 1).mode = some .shared) ∧
      ((onTheMove 0x30 0x40 4 0).TakesOn 1 .resize 0 ∧ ((onTheMove 0x30 0x40 4 0).lease 0).state = .moving) ∧
      ((asked 0x30 0x40 0 0).TakesOn 1 .resize 0 ∧ (asked 0x30 0x40 257 0).TakesOn 1 .resize 0 ∧
        (((asked 0x30 0x40 257 0).mailbox 1).param1.extractLsb' 0 9).toNat = 257) ∧
      ((asked 0x30 0x40 97 0).TakesOn 1 .resize 0 ∧
        ((asked 0x30 0x40 97 0).policy 1).blockQuota < (asked 0x30 0x40 97 0).committedBlocks 1 + 93) ∧
      (let s := leased 2 { heldBy 2 .exclusive 0x004 10 1 with
          state := .moving, target := some { base := 30, len := 2 } } (asked 0x30 0x40 9 0);
        s.TakesOn 1 .resize 0 ∧ (s.lease 2).state = .moving ∧ ¬ s.Fits 4 5 ∧ s.MovingLaw) ∧
      (let s := unready (asked 0x30 0x40 9 0);
        s.TakesOn 1 .resize 0 ∧ (∀ other, (s.lease other).state ≠ .moving) ∧ ∀ base, ¬ s.Fits base 9) := by
  refine ⟨⟨takesOn_of (by decide +kernel), by decide +kernel⟩, ⟨takesOn_of (by decide +kernel), by decide +kernel⟩,
    ⟨takesOn_of (by decide +kernel), takesOn_of (by decide +kernel), by decide +kernel⟩,
    ⟨takesOn_of (by decide +kernel), by decide +kernel⟩,
    ⟨takesOn_of (by decide +kernel), by decide +kernel, not_fits_of (b := 8) (by decide +kernel), ?_⟩,
    ⟨takesOn_of (by decide +kernel), by decide +kernel, no_fits_of (by omega) (by decide +kernel)⟩⟩
  unfold State.MovingLaw
  decide +kernel

theorem witness_BindAndUnbindReplaceTheAperture :
    ((posted 3 0x40 0x41 3 0 desk).TakesOn 3 .bind 1 ∧
        ((posted 3 0x40 0x41 3 0 desk).lease 1).holders.mem 3 = false) ∧
      ((asked 0x40 0x41 3 0).TakesOn 1 .bind 1 ∧ ((asked 0x40 0x41 3 0).lease 1).holders.mem 1 = true ∧
        (asked 0x40 0x41 3 0).aperture 1 3 = .unbound) ∧
      (let s := (asked 0x41 0 0 0).setAperture 1 0 (.bound 0x41);
        s.Takes 1 .unbind ∧ s.Open 1 ∧ s.aperture 1 0 = .bound 0x41) :=
  ⟨⟨takesOn_of (by decide +kernel), by decide +kernel⟩,
    ⟨takesOn_of (by decide +kernel), by decide +kernel, by decide +kernel⟩,
    ⟨takes_of (by decide +kernel), open_of (by decide +kernel), by decide +kernel⟩⟩

theorem witness_MailboxWritesPostOrAreDropped :
    (quiet.mailbox 0).state ≠ .pending ∧ ((asked 0x12 0x40 0 0).mailbox 1).state = .pending := by decide +kernel

theorem witness_ControlSpaceIgnoresOrRefuses :
    ((0x3FFFFC : BitVec 22).toNat % 4 = 0 ∧ (0x3FFFFC : BitVec 22).toNat ∉ [0x000, 0x004, 0x008, 0x018, 0x01C]) ∧
      ((0xC0400000 : BitVec 32).extractLsb' 23 9 = quiet.jumpers.base ∧ (0xC0400000 : BitVec 32).getLsbD 22 = true ∧
        12 ≤ (12 : BitVec 4).toNat) ∧
      ((0xC07FFFFE : BitVec 32).extractLsb' 23 9 = quiet.jumpers.base ∧ (0xC07FFFFE : BitVec 32).toNat % 4 ≠ 0) := by
  decide +kernel

theorem meets_of {s : State} {master : BitVec 4} {address : BitVec 32} {m : Master} {x : Aperture}
    (h : address.extractLsb' 23 9 = s.jumpers.base ∧ address.getLsbD 22 = false ∧ master.toNat = m.val ∧
      ∀ a : ApertureNo, (address.extractLsb' 20 2).toNat = a.val → s.aperture m a = x) :
    s.Meets master address m x :=
  { window := h.1, half := h.2.1, number := h.2.2.1, aperture := h.2.2.2 }

/-- The last word of an UP lease of 4 blocks, and the first byte of a DOWN one of 2 blocks. -/
theorem witness_DataReadReturnsTheLease :
    bound.Reaches 1 0xC0003FFC .word 1 0 0x3FFC ∧
      (let s := (leased 1 { heldBy 2 .shared 0x006 8 2 with direction := some .down } desk).setAperture 1 3 (.bound 0x41);
        s.Reaches 1 0xC03FE000 .byte 1 1 0x8000) := by
  refine ⟨⟨⟨0x40, meets_of (by decide +kernel), names_of (by decide +kernel)⟩, by decide +kernel,
      { base := 0, len := 4 }, by decide +kernel, Or.inl (by decide +kernel)⟩,
    ⟨⟨0x41, meets_of (by decide +kernel), names_of (by decide +kernel)⟩, by decide +kernel,
      { base := 8, len := 2 }, by decide +kernel, Or.inr (by decide +kernel)⟩⟩

theorem witness_DataWriteStoresInTheLease :
    bound.Reaches 1 0xC0000000 .byte 1 0 0 ∧ (bound.lease 0).mode = some .exclusive ∧
      (bound.lease 0).state ≠ .moving ∧ bound.SramLaw :=
  ⟨⟨⟨0x40, meets_of (by decide +kernel), names_of (by decide +kernel)⟩, by decide +kernel,
    { base := 0, len := 4 }, by decide +kernel, Or.inl (by decide +kernel)⟩, by decide +kernel, by decide +kernel,
    by unfold State.SramLaw; decide +kernel⟩

theorem witness_DataAccessIsRefusedInOrder :
    (bound.InDataWindow 0xC0000000 ∧ 12 ≤ (12 : BitVec 4).toNat) ∧ bound.Meets 1 0xC0100000 1 .unbound ∧
      (bound.setAperture 1 1 (.lost 0x41 .revoked)).Meets 1 0xC0100000 1 (.lost 0x41 .revoked) ∧
      (bound.Meets 1 0xC0000002 1 (.bound 0x40) ∧ bound.Names 0x40 0 ∧ offsetOf 0xC0000002 % widthBytes .word ≠ 0) ∧
      (bound.Meets 1 0xC0004000 1 (.bound 0x40) ∧ ∀ a, ¬ (bound.lease 0).Reaches (offsetOf 0xC0004000) a) ∧
      (let s := bound.setAperture 1 2 (.bound 0x41);
        s.Reaches 1 0xC0200000 .word 1 1 0x8000 ∧ (s.lease 1).mode ≠ some .exclusive) ∧
      (let s := (onTheMove 0 0 0 0).setAperture 1 0 (.bound 0x40);
        s.Reaches 1 0xC0000000 .word 1 0 0 ∧ (s.lease 0).mode = some .exclusive ∧ (s.lease 0).state = .moving) := by
  refine ⟨⟨⟨by decide +kernel, by decide +kernel⟩, by decide⟩, meets_of (by decide +kernel),
    meets_of (by decide +kernel),
    ⟨meets_of (by decide +kernel), names_of (by decide +kernel), by decide +kernel⟩,
    ⟨meets_of (by decide +kernel), ?_⟩,
    ⟨⟨⟨0x41, meets_of (by decide +kernel), names_of (by decide +kernel)⟩, by decide +kernel,
      { base := 8, len := 2 }, by decide +kernel, Or.inl (by decide +kernel)⟩, by decide +kernel⟩,
    ⟨⟨⟨0x40, meets_of (by decide +kernel), names_of (by decide +kernel)⟩, by decide +kernel,
      { base := 0, len := 4 }, by decide +kernel, Or.inl (by decide +kernel)⟩, by decide +kernel, by decide +kernel⟩⟩
  rintro a ⟨run, hr, ⟨-, h, -⟩ | ⟨h, -⟩⟩
  · have : (bound.lease 0).run = some { base := 0, len := 4 } := by decide +kernel
    rw [this] at hr
    cases hr
    exact absurd h (by decide +kernel)
  · exact absurd h (by decide +kernel)

theorem witness_TickCountsDown :
    (let s := due (opened 5 3 2 0 0 quiet);
      0 < s.ticks.sessionDue ∧ ∀ m, (s.session m).state = .opened → 2 ≤ (s.session m).remaining) ∧
      (let s := due (nine 0x049 [entryOf3 2, entryOf10 2]);
        0 < s.ticks.queueDue ∧ ∀ e ∈ s.queue, 2 ≤ e.remaining) := by decide +kernel

theorem witness_LapseEndsTheSession :
    let s := due (opened 5 3 1 0 0 (opened 6 3 2 0 0 (nine 0x049 [entryOf3 2])))
    0 < s.ticks.sessionDue ∧ s.QueueLaw ∧ (s.Open 5 ∧ (s.session 5).remaining = 1) ∧
      s.Open 6 ∧ (s.session 6).remaining = 2 :=
  ⟨by decide +kernel, queueLaw_of (by decide +kernel), ⟨open_of (by decide +kernel), by decide +kernel⟩,
    open_of (by decide +kernel), by decide +kernel⟩

/-- R101's own example, with master 10 for master 6: a head and an entry behind it time out, and the SHARED entry that
still counts is granted; a lease whose head still counts; and a MOVING lease whose head times out. -/
theorem witness_TimeoutEndsTheWait :
    (let s := due (nine 0x049 [entryOf3 1, entryOf11 2]);
      0 < s.ticks.queueDue ∧ s.QueueLaw ∧ entryOf3 1 ∈ s.queue ∧ entryOf11 2 ∈ s.queue) ∧
      (let others := [{ entryOf11 1 with master := 9 }, entryOf11 5];
        let s := due (nine 0x049 (entryOf10 1 :: others));
        0 < s.ticks.queueDue ∧ s.QueueLaw ∧ (s.lease 9).state = .held ∧
          s.queue.filter (fun x => x.handle == s.handle 9) = entryOf10 1 :: others ∧
          (s.lease 9).grants ((others.filter fun x => 2 ≤ x.remaining).map fun x =>
            { x with remaining := x.remaining - 1 }) = [entryOf11 4]) ∧
      (let s := due (nine 0x049 [entryOf10 2, { entryOf11 1 with handle := 0x40 }]);
        0 < s.ticks.queueDue ∧ s.QueueLaw ∧ s.queue.find? (fun x => x.handle == s.handle 9) = some (entryOf10 2)) ∧
      (let s := due (waiting 3 0x40 .acqShared 1 (moving .up 1 5));
        0 < s.ticks.queueDue ∧ s.QueueLaw ∧ (∃ e ∈ s.queue, e.remaining = 1) ∧ (s.lease 0).state = .moving) :=
  ⟨⟨by decide +kernel, queueLaw_of (by decide +kernel), by decide +kernel, by decide +kernel⟩,
    ⟨by decide +kernel, queueLaw_of (by decide +kernel), by decide +kernel, by decide +kernel, by decide +kernel⟩,
    ⟨by decide +kernel, queueLaw_of (by decide +kernel), by decide +kernel⟩,
    ⟨by decide +kernel, queueLaw_of (by decide +kernel), by decide +kernel, by decide +kernel⟩⟩

theorem witness_EngineAndPortTakeTurns_port :
    (bound.InDataWindow 0xC0000000 ∧ bound.engine.step = none) ∧
      (busy.InDataWindow 0xC0000000 ∧ busy.engine.step ≠ none ∧ busy.portWait = none) ∧
      (let s := { busy with portWait := some (access .read 0) };
        s.portWait = some (access .read 0) ∧ .scrubBurstEnd ∈ burstEnds ∧
          ∃ t, exec .scrubBurstEnd { s with portWait := none } = .next t ∧ t ≠ { s with portWait := none }) :=
  ⟨⟨⟨by decide +kernel, by decide +kernel⟩, by decide +kernel⟩,
    ⟨⟨by decide +kernel, by decide +kernel⟩, by decide +kernel, by decide +kernel⟩, rfl, by decide, _, rfl,
    fun h => absurd (congrArg (fun s => s.engine.scrubber.burstsDone) h) (by decide +kernel)⟩

theorem witness_EngineAndPortTakeTurns_engine :
    ((moving .up 1 0).MoverHasWork ∧ (moving .up 1 0).pool.scrubCount = 0) ∧
      (0 < State.reset.pool.scrubCount ∧ ¬ State.reset.MoverHasWork ∧ State.reset.LowestScrub 0) ∧
      (¬ quiet.MoverHasWork ∧ quiet.pool.scrubCount = 0) := by
  refine ⟨⟨⟨0, by decide +kernel, by decide +kernel⟩, by decide +kernel⟩,
    ⟨by decide +kernel, ?_, by decide +kernel, fun b hb => absurd hb (Nat.not_lt_zero _)⟩, ?_, by decide +kernel⟩ <;>
    (rintro ⟨r, hr, -⟩; cases hr)

theorem witness_ScrubberFillsAndFreesItsBlock :
    (lastScrub 62).portWait = none ∧
      ((lastScrub 62).engine.step = some .scrub ∧ (lastScrub 62).engine.scrubber = { block := some 511, burstsDone := 62 }) ∧
      (lastScrub 63).engine.scrubber = { block := some 511, burstsDone := 63 } ∧
      (after .takeResetAll (commanded 0xA5 0 (lastScrub 63))).engine.step = some (.cutScrub 511 63) := by
  decide +kernel

theorem witness_MoverCopiesPairedBlocks :
    ((moving .up 1 62).SramLaw ∧ (moving .up 1 62).portWait = none ∧ ((moving .up 1 62).lease 0).run = some { base := 0, len := 2 } ∧
        ((moving .up 1 62).lease 0).target = some { base := 4, len := 3 } ∧ (moving .up 1 62).engine.step = some .copy ∧
        (moving .up 1 62).engine.mover = { record := some 0, blocksCopied := 1, burstsDone := 62 }) ∧
      ((moving .down 0 63).SramLaw ∧ ((moving .down 0 63).lease 0).direction = some .down ∧
        (moving .down 0 63).engine.mover = { record := some 0, blocksCopied := 0, burstsDone := 63 }) ∧
      (let s := after .takeResetAll (commanded 0xA5 0 (moving .up 1 63));
        s.SramLaw ∧ s.portWait = none ∧ s.engine.step = some (.cutCopy 1 5 63)) ∧
      (let s := after .takeRelease (posted 1 0x21 0x40 0 0 (moving .down 1 0));
        s.SramLaw ∧ s.portWait = none ∧ s.engine.step = some (.cutCopy 1 6 0) ∧
          ∀ r, (s.lease r).target = none) := by
  unfold State.SramLaw
  decide +kernel

theorem witness_CompletionPutsTheLeaseOnItsNewRun :
    let s := moving .up 1 63
    s.portWait = none ∧ s.engine.step = some .copy ∧
      s.engine.mover = { record := some 0, blocksCopied := 1, burstsDone := 63 } ∧
      (s.lease 0).run = some { base := 0, len := 2 } ∧ (s.lease 0).target = some { base := 4, len := 3 } ∧
      (s.lease 0).holders = MasterSet.single 1 ∧ (s.lease 0).owner = some 1 := by decide +kernel

/-! A card that has every law: record 0, HELD EXCLUSIVE by master 1 with its aperture 0 bound, on run 0+1, and either
nothing else or the last burst of its move to run 2+2 in flight. SRAM is all zeros. -/

/-- The card, with or without the move. -/
def lawful (inFlight : Bool) : State :=
  let l := heldBy 1 .exclusive 0x002 0 1
  let s := (leased 0 (if inFlight then { l with state := .moving, target := some { base := 2, len := 2 } } else l)
    (opened 1 90 90 1 1 quiet)).setAperture 1 0 (.bound 0x40)
  { s with
    engine := if inFlight then { Engine.atReset with
      step := some .copy, last := .mover, mover := { record := some 0, blocksCopied := 0, burstsDone := 63 } }
      else Engine.atReset
    pending := [if inFlight then .moveCompletion else .dataWrite 1 0xC0000000 .byte 0x5A] }

theorem lawful_lease (f : Bool) (r : RecordNo) :
    (lawful f).lease r =
      if r = 0 then
        { heldBy 1 .exclusive 0x002 0 1 with
          state := if f then .moving else .held, target := if f then some { base := 2, len := 2 } else none }
      else Lease.freed 0 := by
  revert r
  cases f <;> decide +kernel

/-- Past the first four blocks every block is FREE. -/
theorem lawful_block (f : Bool) (b : Nat) :
    (lawful f).block b =
      if b = 0 then some (.run 0) else if f ∧ 2 ≤ b ∧ b < 4 then some (.target 0)
      else if b < 512 then some .free else none := by
  have h : (lawful f).pool.map.list =
      [.run 0, .free, if f then .target 0 else .free, if f then .target 0 else .free] ++ List.replicate 508 .free := by
    cases f <;> decide +kernel
  unfold State.block
  rw [h]
  match b with
  | 0 => rfl
  | 1 => cases f <;> rfl
  | 2 => cases f <;> rfl
  | 3 => cases f <;> rfl
  | b + 4 =>
    have e : ¬ (b + 4 = 0) := by omega
    have e' : ¬ (f = true ∧ 2 ≤ b + 4 ∧ b + 4 < 4) := by omega
    rw [if_neg e, if_neg e', List.getElem?_append_right (Nat.le_add_left 4 b)]
    show (List.replicate 508 BlockState.free)[b]? = _
    rw [List.getElem?_replicate]
    by_cases hb : b < 508
    · rw [if_pos hb, if_pos (by omega)]
    · rw [if_neg hb, if_neg (by omega)]

theorem lawful_byte (f : Bool) (x : Nat) : (lawful f).byteAt x = 0 := by cases f <;> rfl

theorem lawful_holdLaw (f : Bool) : (lawful f).HoldLaw where
  unheld := by cases f <;> decide +kernel
  held := by cases f <;> decide +kernel
  exclusive := by cases f <;> decide +kernel
  moving := by cases f <;> decide +kernel
  still := by cases f <;> decide +kernel
  oneMoving := by unfold State.MovingLaw; cases f <;> decide +kernel

theorem lawful_poolLaw (f : Bool) : (lawful f).PoolLaw where
  free := by cases f <;> decide +kernel
  live := by
    intro r hr
    rw [lawful_lease] at hr ⊢
    by_cases h : r = 0
    · rw [if_pos h]; exact ⟨{ base := 0, len := 1 }, by simp [heldBy]⟩
    · simp [h, Lease.freed] at hr
  moving := by
    intro r hr
    rw [lawful_lease] at hr ⊢
    by_cases h : r = 0
    · rw [if_pos h] at hr ⊢
      cases f
      · simp at hr
      · exact ⟨{ base := 2, len := 2 }, by simp [heldBy, Lease.length]⟩
    · simp [h, Lease.freed] at hr
  still := by cases f <;> decide +kernel
  runBlocks := by
    intro r b
    rw [lawful_block, lawful_lease]
    by_cases h : r = 0
    · subst h
      by_cases hb : b = 0
      · simp [heldBy, hb]
      · simp [heldBy, hb]
        split <;> simp
    · have h0 : ¬ (0 : RecordNo) = r := fun e => h e.symm
      by_cases hb : b = 0
      · simp [h, h0, hb, Lease.freed]
      · simp [h, hb, Lease.freed]
        split <;> simp
  targetBlocks := by
    intro r b
    rw [lawful_block, lawful_lease]
    by_cases hb : b = 0
    · subst hb
      by_cases h : r = 0 <;> cases f <;> simp [h, heldBy, Lease.freed]
    · by_cases h : r = 0
      · subst h
        cases f
        · simp [hb]
        · by_cases h2 : 2 ≤ b ∧ b < 4
          · simp [hb, h2]
          · simp only [hb, h2, if_false, if_true, and_false]
            split
            · simpa using h2
            · simpa using h2
      · have h0 : ¬ (0 : RecordNo) = r := fun e => h e.symm
        simp [h, hb, Lease.freed]
        split
        · simp [h0]
        · split <;> simp
  freeCount := by cases f <;> decide +kernel
  scrubCount := by cases f <;> decide +kernel
  scrubbing := by cases f <;> (intro b h; cases h)

theorem lawful_zeroLaw (f : Bool) : (lawful f).ZeroLaw where
  pool := lawful_poolLaw f
  sram := by unfold State.SramLaw; cases f <;> rfl
  zero := fun b i _ _ => lawful_byte f _
  filled := fun b i _ _ _ => lawful_byte f _
  scrubBursts := by cases f <;> (intro h; cases h)
  mover := by
    intro r hr
    cases f
    · cases hr
    · cases hr; decide +kernel
  copying := by
    intro h
    cases f
    · cases h
    · exact ⟨0, rfl, by decide +kernel⟩
  cutCopy := by cases f <;> (intro a b c h; cases h)
  cutScrub := by cases f <;> (intro a b h; cases h)
  oneMoving := (lawful_holdLaw f).oneMoving

theorem lawful_moveLaw (f : Bool) : (lawful f).MoveLaw where
  zero := lawful_zeroLaw f
  copied := fun r i j _ _ _ => by rw [lawful_byte, lawful_byte]
  copying := fun r j _ _ _ => by rw [lawful_byte, lawful_byte]
  fits := by
    intro r hr
    cases f
    · cases hr
    · cases hr; decide +kernel
  added := fun r target b j _ _ _ _ _ _ => lawful_byte f _

theorem lawful_boundLaw (f : Bool) : (lawful f).BoundLaw where
  hold := lawful_holdLaw f
  bound := by
    intro m a h hb
    have hm : m = 1 ∧ a = 0 ∧ h = 0x40 := by
      have : ∀ m a, (lawful f).aperture m a = if m = 1 ∧ a = 0 then .bound 0x40 else .unbound := by
        cases f <;> decide +kernel
      rw [this] at hb
      by_cases h' : m = 1 ∧ a = 0
      · rw [if_pos h'] at hb
        cases hb
        exact ⟨h'.1, h'.2, rfl⟩
      · rw [if_neg h'] at hb
        cases hb
    obtain ⟨rfl, rfl, rfl⟩ := hm
    exact ⟨0, names_of (by cases f <;> decide +kernel), by cases f <;> decide +kernel⟩

theorem lawful_queue (f : Bool) (e : WaitEntry) : e ∉ (lawful f).queue := by
  cases f <;> exact List.not_mem_nil

theorem witness_MoveKeepsEveryOffsetsData :
    (lawful true).MoveLaw ∧ (lawful true).portWait = none ∧ (lawful true).engine.mover.record = some 0 ∧
      ∃ t, exec .moveCompletion (lawful true) = .next t ∧ t ≠ lawful true ∧ (t.lease 0).Reaches 4096 0x3000 :=
  ⟨lawful_moveLaw true, rfl, rfl, _, rfl, fun h => absurd (congrArg (fun s => (s.lease 0).state) h) (by decide +kernel),
    { base := 2, len := 2 }, by decide +kernel, Or.inl (by decide +kernel)⟩

theorem witness_OnlyTheHolderWritesALease :
    (lawful false).ZeroLaw ∧ (lawful false).BoundLaw ∧
      ∃ t, exec (.dataWrite 1 0xC0000000 .byte 0x5A) (lawful false) = .next t ∧
        ((lawful false).lease 0).run = some { base := 0, len := 1 } ∧ Run.Holds { base := 0, len := 1 } 0 ∧
        t.byteAt 0 ≠ (lawful false).byteAt 0 :=
  ⟨lawful_zeroLaw false, lawful_boundLaw false, _, rfl, by decide +kernel, ⟨by decide, by decide⟩, by decide +kernel⟩

theorem witness_RevokeRetiresTheLease :
    ((commanded 0x01 0x25E thirty).TakesCommand .revoke ∧ (commanded 0x01 0x25E thirty).Names 0x25E 30 ∧
        ((commanded 0x01 0x25E thirty).lease 30).run = some { base := 200, len := 4 } ∧
        ((commanded 0x01 0x25E thirty).lease 30).owner = some 1 ∧ (commanded 0x01 0x25E thirty).QueueLaw ∧
        ((commanded 0x01 0x25E thirty).lease 30).state ≠ .moving) ∧
      (let s := commanded 0x01 0x40 (moving .up 1 5);
        s.TakesCommand .revoke ∧ s.Names 0x40 0 ∧ (s.lease 0).state = .moving ∧
          (s.lease 0).target = some { base := 4, len := 3 }) :=
  ⟨⟨⟨rfl, rfl⟩, names_of (by decide +kernel), by decide +kernel, by decide +kernel, queueLaw_of (by decide +kernel),
    by decide +kernel⟩, ⟨rfl, rfl⟩, names_of (by decide +kernel), by decide +kernel, by decide +kernel⟩

/-- A kept lease UP and one not kept DOWN, with a burst in flight and no waiters, and one that is awaited. -/
theorem witness_ReleaseAbandonsTheMove :
    (let s := posted 1 0x21 0x40 0 0 (moving .up 1 5);
      s.TakesOn 1 .release 0 ∧ s.QueueLaw ∧ (s.lease 0).state = .moving ∧ (s.lease 0).holders = MasterSet.single 1 ∧
        (s.lease 0).run = some { base := 0, len := 2 } ∧ (s.lease 0).target = some { base := 4, len := 3 } ∧
        s.NoWaiters (s.parameter 1) ∧ (s.lease 0).keep = true ∧ (s.lease 0).direction = some .up ∧
        s.engine.step = some .copy) ∧
      (let s := posted 1 0x21 0x40 0 0 (movingUnkept .down 1 63);
        s.TakesOn 1 .release 0 ∧ (s.lease 0).state = .moving ∧ s.NoWaiters (s.parameter 1) ∧
          (s.lease 0).keep = false ∧ (s.lease 0).direction = some .down ∧ (s.lease 0).owner = some 1 ∧
          s.engine.step = some .copy) ∧
      (let s := awaited (posted 1 0x21 0x40 0 0 (moving .up 1 5));
        s.TakesOn 1 .release 0 ∧ s.QueueLaw ∧ s.AwaitedFrom 1 0 entryOf3Shared [entryOf2Excl] ∧
          (s.lease 0).emptied.grants [entryOf3Shared, entryOf2Excl] = [entryOf3Shared]) :=
  ⟨⟨takesOn_of (by decide +kernel), queueLaw_of (by decide +kernel), by decide +kernel, by decide +kernel,
      by decide +kernel, by decide +kernel, no_waiters_of rfl, by decide +kernel, by decide +kernel,
      by decide +kernel⟩,
    ⟨takesOn_of (by decide +kernel), by decide +kernel, no_waiters_of rfl, by decide +kernel, by decide +kernel,
      by decide +kernel, by decide +kernel⟩,
    ⟨takesOn_of (by decide +kernel), queueLaw_of (by decide +kernel),
      awaitedFrom_of (holdsAlone_of (by decide +kernel)) (by decide +kernel), by decide +kernel⟩⟩

theorem witness_EvictEndsTheSession :
    ((commanded 0x02 12 thirty).TakesCommand .evict ∧ 12 ≤ (commanded 0x02 12 thirty).slot.parameter.toNat) ∧
      ((commanded 0x02 11 thirty).TakesCommand .evict ∧ (commanded 0x02 11 thirty).slot.parameter.toNat = 11 ∧
        (commanded 0x02 11 thirty).isOpen 11 = false) ∧
      ((commanded 0x02 7 thirty).TakesCommand .evict ∧ (commanded 0x02 7 thirty).Open 7 ∧
        (commanded 0x02 7 thirty).QueueLaw) :=
  ⟨⟨⟨rfl, rfl⟩, by decide +kernel⟩, ⟨⟨rfl, rfl⟩, by decide +kernel, by decide +kernel⟩,
    ⟨rfl, rfl⟩, open_of (by decide +kernel), queueLaw_of (by decide +kernel)⟩

theorem witness_ResetAllClearsTheCard :
    (commanded 0xA4 0 thirty).TakesCommand .undefined ∧
      ((commanded 0xA5 0 thirty).TakesCommand .resetAll ∧ (commanded 0xA5 0 thirty).engine.step = none) ∧
      ((commanded 0xA5 0 (lastScrub 63)).TakesCommand .resetAll ∧
        (commanded 0xA5 0 (lastScrub 63)).engine.step = some .scrub ∧
        (commanded 0xA5 0 (lastScrub 63)).engine.scrubber.block = some 511) ∧
      (let s := commanded 0xA5 0 (moving .down 1 63);
        s.TakesCommand .resetAll ∧ s.engine.step = some .copy ∧ s.engine.mover.record = some 0 ∧
          (s.lease 0).run = some { base := 0, len := 2 } ∧ (s.lease 0).target = some { base := 4, len := 3 } ∧
          (s.lease 0).direction = some .down ∧ s.engine.mover.blocksCopied = 1) ∧
      (let s := commanded 0xA5 0 (after .takeResetAll (commanded 0xA5 0 (moving .up 1 63)));
        s.TakesCommand .resetAll ∧ s.engine.step = some (.cutCopy 1 5 63)) :=
  ⟨⟨rfl, rfl⟩, ⟨⟨rfl, rfl⟩, rfl⟩, ⟨⟨rfl, rfl⟩, rfl, rfl⟩,
    ⟨⟨rfl, rfl⟩, rfl, rfl, by decide +kernel, by decide +kernel, by decide +kernel, rfl⟩,
    ⟨rfl, by decide +kernel⟩, by decide +kernel⟩

/-- A RESET-ALL while the mover copies: the burst in flight keeps the block step, of the paired blocks of a DOWN run. -/
theorem test_reset_all_cuts_the_copy :
    (after .takeResetAll (commanded 0xA5 0 (moving .down 1 7))).engine =
      { Engine.atReset with step := some (.cutCopy 1 6 7) } := by decide +kernel

theorem witness_LinkTransactionsStartAndEnd :
    ((after .linkStart quiet).link.phase = .address false ∧
        (0x58 : BitVec 7).toNat = 0x58 + (after .linkStart quiet).jumpers.linkSelect.toNat ∧
        (0x5B : BitVec 7).toNat ≠ 0x58 + (after .linkStart quiet).jumpers.linkSelect.toNat) ∧
      (atPosition 0 none quiet).link.phase ∈ [LinkPhase.pointer, .data, .sending, .silent, .address true] ∧
      quiet.link.phase ∈ [LinkPhase.idle, .address false] := by decide +kernel

theorem at_position (s : State) (position : BitVec 7) (staged : Option Staged) (f : BankField)
    (h : bankField position = f) : (atPosition position staged s).AtField f := ⟨rfl, h⟩

/-- A card whose link reads, with a value in the select register. -/
def reading (select : Byte) (position : BitVec 7) : State :=
  (thirty.setSnapshot { select := select, buffer := Table.replicate 62 0x5A }).setLink
    { Link.atReset with phase := .sending, pointer := position }

/-- The two bytes of a 16-bit field: the last block quota, the target length of a lease snapshot, the remaining count of
a session snapshot; after the first byte the rest of the card may be any other. -/
theorem witness_LinkBytesMoveThePointer :
    (quiet.setLink { Link.atReset with phase := .pointer }).link.phase = .pointer ∧
      ((reading 0xFF 0x7F).link.phase = .sending ∧ (reading 0xFF 0x7F).link.latch = none) ∧
      ((atPosition 0x05 none quiet).AtField .none ∧ (atPosition 0x09 none quiet).AtField .slotState ∧
        (atPosition 0x0A none quiet).AtField .slotAnswer ∧ (atPosition 0x7F none quiet).AtField (.snapshotBuffer 61)) ∧
      (∀ s ∈ [reading 0xFF 0x3C, reading 39 0x52, reading 64 0x50, reading 75 0x50],
        s.link.phase = .sending ∧ s.link.latch = none ∧ s.isWideLow s.link.pointer = true ∧
          ∃ t, exec (.linkReadByte true) s = .next t ∧ (quiet.setLink t.link).link = t.link) ∧
      bankField 0x3C = .wideLow (.blockQuota 11) ∧ bankField 0x7F = .snapshotBuffer 61 := by
  refine ⟨rfl, ⟨rfl, rfl⟩, ⟨at_position _ _ _ _ rfl, at_position _ _ _ _ rfl, at_position _ _ _ _ rfl,
    at_position _ _ _ _ rfl⟩, ?_, rfl, rfl⟩
  intro s hs
  have h : s.link.phase = .sending ∧ s.link.latch = none ∧ s.isWideLow s.link.pointer = true :=
    (by decide +kernel : ∀ s ∈ [reading 0xFF 0x3C, reading 39 0x52, reading 64 0x50, reading 75 0x50],
      s.link.phase = .sending ∧ s.link.latch = none ∧ s.isWideLow s.link.pointer = true) s hs
  exact ⟨h.1, h.2.1, h.2.2, _, if_pos h.1, rfl⟩

theorem witness_StagedPairIsOneChange :
    (atPosition 0x02 none quiet).AtField (.wideLow .watermark) ∧
      (atPosition 0x3C none quiet).AtField (.wideLow (.blockQuota 11)) ∧
      ((atPosition 0x06 none quiet).AtField (.wideLow .commandParameter) ∧ quiet.slot.state ≠ .pending) :=
  ⟨at_position _ _ _ _ rfl, at_position _ _ _ _ rfl, at_position _ _ _ _ rfl, by decide⟩

theorem witness_ByteFieldsStoreTheirValues :
    (atPosition 0x00 none quiet).AtField .supervisorFlags ∧ (atPosition 0x01 none quiet).AtField .supervisorEnables ∧
      (atPosition 0x04 none quiet).AtField .tickPeriodCode ∧ (atPosition 0x3E none quiet).AtField (.leaseQuota 11) ∧
      (atPosition 0x13 none quiet).AtField (.openPermission 0) ∧
      ((atPosition 0x08 none quiet).AtField .command ∧ quiet.slot.state ≠ .pending) ∧
      ((atPosition 0x06 none (commanded 1 0 quiet)).AtField (.wideLow .commandParameter) ∧
        (atPosition 0x07 none (commanded 1 0 quiet)).AtField (.wideHigh .commandParameter) ∧
        (atPosition 0x08 none (commanded 1 0 quiet)).AtField .command ∧ (commanded 1 0 quiet).slot.state = .pending) :=
  ⟨at_position _ _ _ _ rfl, at_position _ _ _ _ rfl, at_position _ _ _ _ rfl, at_position _ _ _ _ rfl,
    at_position _ _ _ _ rfl, ⟨at_position _ _ _ _ rfl, by decide⟩,
    ⟨at_position _ _ _ _ rfl, at_position _ _ _ _ rfl, at_position _ _ _ _ rfl, rfl⟩⟩

theorem witness_SelectionTakesASnapshot :
    (atPosition 0x40 none thirty).AtField .snapshotSelect ∧
      ((39 : Byte).toNat = (39 : RecordNo).val ∧ (thirty.lease 39).state = .free) ∧
      ((30 : Byte).toNat = (30 : RecordNo).val ∧ (thirty.lease 30).state ≠ .free ∧
        (thirty.lease 30).run = some { base := 200, len := 4 } ∧ (thirty.lease 30).owner = some 1) ∧
      (75 : Byte).toNat = 64 + (11 : Master).val ∧ (40 : Byte).toNat = 40 ∧ (76 : Byte).toNat = 76 :=
  ⟨at_position _ _ _ _ rfl, by decide +kernel, by decide +kernel, by decide, by decide, by decide⟩

/-- The lawful cards have every law, and each takes a step: the hypotheses of the statements about every step. -/
theorem witness_StepKeeps (f : Bool) :
    (∃ t, step (lawful f) = .next t) ∧ (lawful f).SramLaw ∧ (lawful f).PortLaw ∧ (lawful f).MailboxLaw ∧ (lawful f).PolicyLaw ∧
      (lawful f).TagLaw ∧ (lawful f).HoldLaw ∧ (lawful f).OwnerLaw ∧ (lawful f).SessionLaw ∧ (lawful f).BoundLaw ∧
      (lawful f).WaitLaw ∧ (lawful f).PoolLaw ∧ (lawful f).ZeroLaw ∧ (lawful f).MoveLaw := by
  have hq : (lawful f).QueueLaw := queueLaw_of (by cases f <;> decide +kernel)
  refine ⟨by cases f <;> exact ⟨_, rfl⟩, (lawful_zeroLaw f).sram, fun _ => rfl, ?_, ?_, ?_, lawful_holdLaw f, ⟨?_, ?_, ?_, ?_, ?_⟩,
    ⟨hq, fun m _ e he => absurd he (lawful_queue f e), ?_, ?_⟩, lawful_boundLaw f,
    ⟨lawful_holdLaw f, hq, fun e he => absurd he (lawful_queue f e), fun e he => absurd he (lawful_queue f e),
      fun e he => absurd he (lawful_queue f e), ?_, by cases f <;> decide +kernel⟩, lawful_poolLaw f, lawful_zeroLaw f, lawful_moveLaw f⟩
  · unfold State.MailboxLaw; cases f <;> decide +kernel
  · unfold State.PolicyLaw; cases f <;> decide +kernel
  · unfold State.TagLaw; cases f <;> decide +kernel
  · cases f <;> decide +kernel
  · cases f <;> decide +kernel
  · cases f <;> decide +kernel
  · cases f <;> decide +kernel
  · intro r target ht
    rw [lawful_lease] at ht ⊢
    by_cases h : r = 0
    · rw [if_pos h] at ht ⊢
      cases f
      · cases ht
      · cases ht; decide
    · rw [if_neg h] at ht
      cases ht
  · intro m hm
    have : ∀ m, (lawful f).isOpen m = false → ∀ r, ((lawful f).lease r).holders.mem m = false := by
      cases f <;> decide +kernel
    exact this m (by simpa [State.isOpen, State.Open] using hm)
  · intro m hm
    have : ∀ m, (lawful f).isOpen m = false → ∀ a, (lawful f).aperture m a = .unbound := by
      cases f <;> decide +kernel
    exact this m (by simpa [State.isOpen, State.Open] using hm)
  · intro r e he
    have := List.mem_of_mem_tail he
    exact absurd (List.mem_filter.mp this).1 (lawful_queue f e)

/-- A generation that CREATE moves on, and a record it leaves alone. -/
theorem witness_StepKeepsTagsAndGenerations :
    ∃ t, exec .takeCreate (shelfAsked 0x10 0x0300 1 0) = .next t ∧
      ((shelfAsked 0x10 0x0300 1 0).lease 2).generation = 4 ∧ (t.lease 2).generation = 5 ∧
      (t.lease 4).generation = 0 :=
  ⟨_, rfl, by decide +kernel, by decide +kernel, by decide +kernel⟩

end Sys2Proof.Tests
end

section
/-! ### The card after a reset, and stale handles -/

namespace Sys2Proof.Machine

/-- Every lease record is FREE, as RESET-ALL and a system reset leave them (R1, R184). -/
def State.AllFree (s : State) : Prop := ∀ r, ∃ generation, s.lease r = Lease.freed generation

/-- Every block is in SCRUB and the counts say so (R25, R26). -/
structure State.AllScrub (s : State) : Prop where
  map : s.pool.map = Table.replicate 512 .scrub
  freeCount : s.pool.freeCount = 0
  scrubCount : s.pool.scrubCount = 512

/-- The values of the reset condition that the laws of the card speak of, with the scrubber on block 0 (R165). -/
structure State.AtReset (s : State) : Prop where
  lease : ∀ r, s.lease r = Lease.freed 0
  queue : s.queue = []
  session : ∀ m, s.session m = Session.atReset
  policy : ∀ m, s.policy m = Policy.atReset
  mailbox : ∀ m, s.mailbox m = Mailbox.cleared 0
  aperture : ∀ m a, s.aperture m a = .unbound
  pool : s.pool = Pool.atReset 32
  engine : s.engine = Engine.scrubbingFromZero
  portWait : s.portWait = none
  sram : s.SramLaw

theorem State.systemReset_atReset (s : State) : s.systemReset.AtReset where
  lease r := Table.get_replicate r _
  queue := rfl
  session m := Table.get_replicate m _
  policy m := Table.get_replicate m _
  mailbox m := Table.get_replicate m _
  aperture m a := by
    show ((Table.replicate 12 (Table.replicate 4 Aperture.unbound)).get m).get a = _
    simp
  pool := rfl
  engine := rfl
  portWait := rfl
  sram := Memory.wf_ofCells _

theorem State.reset_atReset : State.reset.AtReset where
  lease r := Table.get_replicate r _
  queue := rfl
  session m := Table.get_replicate m _
  policy m := Table.get_replicate m _
  mailbox m := Table.get_replicate m _
  aperture m a := by
    show ((Table.replicate 12 (Table.replicate 4 Aperture.unbound)).get m).get a = _
    simp
  pool := rfl
  engine := rfl
  portWait := rfl
  sram := rfl

/-! #### The laws of records and blocks on an empty card -/

section
variable {s : State}

theorem State.AllScrub.block (h : s.AllScrub) (b : Nat) :
    s.block b = if b < 512 then some .scrub else none := by
  unfold State.block
  rw [h.map]
  exact List.getElem?_replicate

theorem State.AllFree.tagLaw (h : s.AllFree) : s.TagLaw := by
  constructor
  · intro r _
    obtain ⟨g, hr⟩ := h r
    rw [hr]; rfl
  · intro r _ hr
    obtain ⟨g, e⟩ := h r
    exact absurd (by rw [e]; rfl) hr

theorem State.AllFree.holdLaw (h : s.AllFree) : s.HoldLaw where
  unheld r _ := by obtain ⟨g, e⟩ := h r; rw [e]; exact ⟨rfl, rfl⟩
  held r hr := by obtain ⟨g, e⟩ := h r; simp [e, Lease.freed] at hr
  exclusive r hr := by obtain ⟨g, e⟩ := h r; simp [e, Lease.freed] at hr
  moving r hr := by obtain ⟨g, e⟩ := h r; simp [e, Lease.freed] at hr
  still r _ := by obtain ⟨g, e⟩ := h r; rw [e]; rfl
  oneMoving r _ hr := by obtain ⟨g, e⟩ := h r; simp [e, Lease.freed] at hr

theorem State.AllFree.poolLaw (h : s.AllFree) (hb : s.AllScrub) : s.PoolLaw where
  free r _ := by obtain ⟨g, e⟩ := h r; rw [e]; exact ⟨rfl, rfl, rfl⟩
  live r hr := by obtain ⟨g, e⟩ := h r; exact absurd (by rw [e]; rfl) hr
  moving r hr := by obtain ⟨g, e⟩ := h r; simp [e, Lease.freed] at hr
  still r _ := by obtain ⟨g, e⟩ := h r; rw [e]; rfl
  runBlocks r b := by
    obtain ⟨g, e⟩ := h r
    rw [hb.block, e]
    constructor
    · intro hs; split at hs <;> simp at hs
    · rintro ⟨_, h, _⟩; cases h
  targetBlocks r b := by
    obtain ⟨g, e⟩ := h r
    rw [hb.block, e]
    constructor
    · intro hs; split at hs <;> simp at hs
    · rintro ⟨_, h, _⟩; cases h
  freeCount := by
    rw [hb.freeCount, hb.map]
    show 0 = (List.replicate 512 BlockState.scrub).count .free
    rw [List.count_replicate]; rfl
  scrubCount := by
    rw [hb.scrubCount, hb.map]
    exact List.count_replicate_self.symm
  scrubbing b _ _ := by rw [hb.block, if_pos b.isLt]

end

namespace State.AtReset
variable {s : State} (h : s.AtReset)
include h

theorem allFree : s.AllFree := fun r => ⟨0, h.lease r⟩

theorem allScrub : s.AllScrub := by
  constructor <;> rw [h.pool] <;> rfl

theorem portLaw : s.PortLaw := fun _ => h.portWait

theorem mailboxLaw : s.MailboxLaw := by
  intro m
  rw [h.mailbox]
  exact ⟨fun hp => (nomatch hp), Nat.zero_le _, fun _ => ⟨rfl, rfl⟩⟩

theorem policyLaw : s.PolicyLaw := by
  constructor
  · rw [h.pool]; decide
  · intro m; rw [h.policy]; decide

theorem ownerLaw : s.OwnerLaw where
  free r _ := by rw [h.lease]; rfl
  still r _ := by rw [h.lease]; rfl
  leases m := by simp [h.session, Session.atReset, State.ownedRecords, h.lease, Lease.freed]
  blocks m := by simp [h.session, Session.atReset, State.ownedRecords, h.lease, Lease.freed]
  target r t ht := by rw [h.lease] at ht; cases ht

theorem queueLaw : s.QueueLaw := by
  unfold State.QueueLaw; rw [h.queue]; exact List.nodup_nil

theorem sessionLaw : s.SessionLaw where
  queue := h.queueLaw
  waits _ _ e he := by rw [h.queue] at he; cases he
  holds _ _ r := by rw [h.lease]; simp [Lease.freed, MasterSet.mem, MasterSet.empty]
  apertures m _ a := h.aperture m a

theorem boundLaw : s.BoundLaw where
  hold := h.allFree.holdLaw
  bound m a x hx := by rw [h.aperture] at hx; cases hx

theorem waitLaw : s.WaitLaw where
  hold := h.allFree.holdLaw
  queue := h.queueLaw
  named e he := by rw [h.queue] at he; cases he
  acquire e he := by rw [h.queue] at he; cases he
  upgrade e he := by rw [h.queue] at he; cases he
  head r e he := by simp [State.entriesFor, h.queue] at he
  passed r := by simp [State.entriesFor, h.queue, Lease.grants]

theorem engineStep : s.engine.step = some .scrub := by rw [h.engine]; rfl

theorem noMove : s.engine.mover.record = none := by rw [h.engine]; rfl

theorem zeroLaw : s.ZeroLaw where
  pool := h.allFree.poolLaw h.allScrub
  sram := h.sram
  zero b i hb := by rw [h.allScrub.block] at hb; split at hb <;> cases hb
  filled b i _ _ hi := by
    rw [h.engine] at hi
    exact absurd hi (Nat.not_lt_zero _)
  scrubBursts _ := by rw [h.engine]; decide
  mover r hr := by rw [h.noMove] at hr; cases hr
  copying hc := by rw [h.engineStep] at hc; cases hc
  cutCopy _ _ _ hc := by rw [h.engineStep] at hc; cases hc
  cutScrub _ _ hc := by rw [h.engineStep] at hc; cases hc
  oneMoving := h.allFree.holdLaw.oneMoving

theorem moveLaw : s.MoveLaw where
  zero := h.zeroLaw
  copied r _ _ hr := by rw [h.noMove] at hr; cases hr
  copying r _ hr := by rw [h.noMove] at hr; cases hr
  fits r hr := by rw [h.noMove] at hr; cases hr
  added r _ _ _ hr := by rw [h.noMove] at hr; cases hr

end State.AtReset

/-- Settles O50: each law holds of the reset condition. -/
theorem resetHasEveryLaw : Obligations.ResetHasEveryLaw := by
  have h := State.reset_atReset
  exact ⟨h.sram, h.portLaw, h.mailboxLaw, h.policyLaw, h.allFree.tagLaw, h.allFree.holdLaw, h.ownerLaw,
    h.sessionLaw, h.boundLaw, h.waitLaw, h.allFree.poolLaw h.allScrub, h.zeroLaw, h.moveLaw⟩

/-- Settles O44: the fields not named in State.AtReset have their values by definition. -/
theorem systemResetLeavesTheResetCondition : Obligations.SystemResetLeavesTheResetCondition := by
  intro s
  have h := s.systemReset_atReset
  refine ⟨s.systemReset, rfl, h.sram, h.lease, h.queue, h.session, h.policy, h.mailbox, h.aperture, ?_, rfl, rfl,
    rfl, rfl, rfl, rfl, rfl, rfl, rfl, rfl, rfl, rfl, rfl, rfl, ?_, rfl, rfl, rfl⟩
  · intro b hb
    rw [h.allScrub.block, if_pos hb]
  · intro i
    exact Table.get_replicate i _

/-! #### Stale handles -/

/-- A request on a lease, in an open session, whose handle names no record: only the renewal and the answer. -/
theorem takeRequest_stale {s : State} {m : Master} {q : Request} (h : s.Takes m q) (ho : s.Open m)
    (hn : ∀ r, ¬ s.Names (s.parameter m) r) (carryOut : State → Master → RecordNo → State × Answer) :
    takeRequest q (withSession (withLease carryOut)) s = .next ((s.renewed m).done m .badHandle 0 0) := by
  have hn' : ∀ r, ¬ (s.renewed m).Names ((s.renewed m).parameter m) r :=
    fun r n => hn r ⟨n.number, n.live, n.generation⟩
  rw [takeRequest_takes h, withSession_open ho, withLease_none hn']
  rfl

/-- The number a handle carries in its 16 bits (R4). -/
theorem handleOf_toNat (generation : Fin 1024) (r : RecordNo) :
    (handleOf generation r).toNat = generation.val * 64 + r.val := by
  have := generation.isLt; have := r.isLt
  unfold handleOf
  rw [BitVec.toNat_ofNat, Nat.mod_eq_of_lt (by omega)]

/-- The handle of a live record names it (R4, R5). -/
theorem State.names_handle {s : State} {r : RecordNo} (h : (s.lease r).state ≠ .free) : s.Names (s.handle r) r := by
  have := r.isLt
  constructor
  · unfold State.handle; rw [handleOf_toNat]; omega
  · exact h
  · unfold State.handle; rw [handleOf_toNat]; omega

/-- Settles O3. -/
theorem staleHandleIsRefused : Obligations.StaleHandleIsRefused := by
  refine ⟨?_, ?_, fun s r hr => ⟨State.names_handle hr, handleOf_toNat _ _⟩⟩
  · intro s m q hq h ho hn
    simp only [List.mem_cons, List.not_mem_nil, or_false] at hq
    obtain rfl | rfl | rfl | rfl | rfl | rfl | rfl | rfl := hq
    all_goals exact takeRequest_stale h ho hn _
  · intro s h hn
    have hv : revokeBody s = (s, .badHandle) := by
      unfold revokeBody
      rw [(s.validate_none_iff _).2 hn]
    show takeSupervisor .revoke revokeBody s = _
    rw [takeSupervisor_takes h, hv]
    rfl

end Sys2Proof.Machine
end

section
/-! ### What a command can do to the lease records, the pool and the scrubber

Every command is made of a few operations on the records, the pool and the engine, and of changes those do not see.
`LeaseOps` lists them once, and `LeaseOps.exec` derives from the list that a command keeps a property of the card. -/

namespace Sys2Proof.Machine

open Host (Outcome)

/-! #### Changes that the records, the blocks and the scrubber do not see -/

/-- Two cards agree on the lease records, on the blocks and their counts, and on what is being scrubbed. -/
structure State.Quiet (t s : State) : Prop where
  leases : t.leases = s.leases
  map : t.pool.map = s.pool.map
  freeCount : t.pool.freeCount = s.pool.freeCount
  scrubCount : t.pool.scrubCount = s.pool.scrubCount
  step : t.engine.step = s.engine.step
  block : t.engine.scrubber.block = s.engine.scrubber.block

namespace State.Quiet

theorem of_eq {s t : State} (leases : t.leases = s.leases) (pool : t.pool = s.pool) (engine : t.engine = s.engine) :
    t.Quiet s :=
  ⟨leases, by rw [pool], by rw [pool], by rw [pool], by rw [engine], by rw [engine]⟩

theorem refl (s : State) : s.Quiet s := of_eq rfl rfl rfl

theorem trans {s t u : State} (h : u.Quiet t) (h' : t.Quiet s) : u.Quiet s :=
  ⟨h.leases.trans h'.leases, h.map.trans h'.map, h.freeCount.trans h'.freeCount, h.scrubCount.trans h'.scrubCount,
    h.step.trans h'.step, h.block.trans h'.block⟩

theorem symm {s t : State} (h : t.Quiet s) : s.Quiet t :=
  ⟨h.leases.symm, h.map.symm, h.freeCount.symm, h.scrubCount.symm, h.step.symm, h.block.symm⟩

theorem lease {s t : State} (h : t.Quiet s) (r : RecordNo) : t.lease r = s.lease r := by
  unfold State.lease; rw [h.leases]

theorem blocks {s t : State} (h : t.Quiet s) (b : Nat) : t.block b = s.block b := by
  unfold State.block; rw [h.map]

end State.Quiet

/-- Reading a record after one record is replaced. -/
theorem State.lease_setLease (s : State) (r r' : RecordNo) (l : Lease) :
    (s.setLease r l).lease r' = if r = r' then l else s.lease r' := Table.get_set _ _ _ _

@[simp] theorem State.lease_setLease_self (s : State) (r : RecordNo) (l : Lease) : (s.setLease r l).lease r = l :=
  Table.get_set_self _ _ _

theorem State.forMasters_quiet (s : State) (set : MasterSet) (f : State → Master → State)
    (h : ∀ s m, ∃ b, f s m = { s with mailboxes := b }) : (s.forMasters set f).Quiet s := by
  obtain ⟨b, hb⟩ := s.forMasters_frame set f h
  rw [hb]
  exact .of_eq rfl rfl rfl

theorem State.allocate_quiet (s : State) (run : Run) (x : BlockState) :
    (s.allocate run x).Quiet (s.setPool (s.pool.allocate run x)) := by
  unfold State.allocate
  dsimp only
  split
  · exact .of_eq rfl rfl rfl
  · exact .refl _

theorem State.addOwnedBy_quiet (s : State) (owner : Option Master) (leases blocks : Nat) :
    (s.addOwnedBy owner leases blocks).Quiet s := by
  obtain ⟨x, h⟩ := s.addOwnedBy_frame owner leases blocks
  rw [h]
  exact .of_eq rfl rfl rfl

theorem State.dropOwnedBy_quiet (s : State) (owner : Option Master) (leases blocks : Nat) :
    (s.dropOwnedBy owner leases blocks).Quiet s := by
  obtain ⟨x, h⟩ := s.dropOwnedBy_frame owner leases blocks
  rw [h]
  exact .of_eq rfl rfl rfl

theorem State.Quiet.setLease {s t : State} (h : t.Quiet s) (r : RecordNo) (l : Lease) :
    (t.setLease r l).Quiet (s.setLease r l) :=
  ⟨by simp [h.leases], h.map, h.freeCount, h.scrubCount, h.step, h.block⟩

theorem State.Quiet.setEngine {s t : State} (h : t.Quiet s) (e : Engine) : (t.setEngine e).Quiet (s.setEngine e) :=
  ⟨h.leases, h.map, h.freeCount, h.scrubCount, rfl, rfl⟩

theorem State.Quiet.scrubRun {s t : State} (h : t.Quiet s) (run : Option Run) :
    (t.scrubRun run).Quiet (s.scrubRun run) := by
  cases run with
  | none => exact h
  | some run =>
    refine ⟨h.leases, ?_, h.freeCount, ?_, h.step, h.block⟩
    · simp [State.scrubRun, Pool.toScrub, h.map]
    · simp [State.scrubRun, Pool.toScrub, h.scrubCount]

/-! #### The shared operations, up to changes of that kind -/

theorem Lease.granted_upgrade (l : Lease) {e : WaitEntry} (h : e.kind = .upgrade) :
    l.granted e = { l with mode := some .exclusive } := by
  unfold Lease.granted; rw [h]

theorem Lease.granted_acqExcl (l : Lease) {e : WaitEntry} (h : e.kind = .acqExcl) :
    l.granted e = { l with holders := MasterSet.single e.master, mode := some .exclusive, state := .held } := by
  unfold Lease.granted; rw [h]

theorem Lease.granted_acqShared (l : Lease) {e : WaitEntry} (h : e.kind = .acqShared) :
    l.granted e = { l with holders := l.holders.insert e.master, mode := some .shared, state := .held } := by
  unfold Lease.granted; rw [h]

/-- A grant pass changes one record, by the grants in their order (R98). -/
theorem State.grantPass_quiet (s : State) (r : RecordNo) :
    (s.grantPass r).Quiet (s.setLease r ((s.grantable r).foldl Lease.granted (s.lease r))) := by
  unfold State.grantPass
  generalize s.grantable r = entries
  induction entries generalizing s with
  | nil => exact .of_eq (Table.set_get_self _ _).symm rfl rfl
  | cons e rest ih =>
    have hq : (State.grantEntry r s e).Quiet (s.setLease r ((s.lease r).granted e)) := .of_eq rfl rfl rfl
    have hl : (State.grantEntry r s e).lease r = (s.lease r).granted e := by rw [hq.lease]; simp
    rw [List.foldl_cons, List.foldl_cons]
    refine (ih _).trans ?_
    rw [hl]
    refine (hq.setLease r _).trans (.of_eq ?_ rfl rfl)
    exact Table.set_set _ _ _ _

/-- The grant pass of a lease grants what Safety.lean says of it, and nothing while it is MOVING (R97, R98). -/
theorem State.grantable_eq (s : State) (r : RecordNo) :
    s.grantable r = if (s.lease r).state = .moving then [] else (s.lease r).grants (s.entriesFor (s.handle r)) := by
  unfold State.grantable Lease.grants
  split
  · rfl
  · cases s.entriesFor (s.handle r) with
    | nil => rfl
    | cons e rest =>
      obtain ⟨m, x, kind, n⟩ := e
      cases kind <;> simp [MasterSet.empty] <;> rfl

/-- Abandonment sends the target run to SCRUB and leaves the record HELD on its run (R122). -/
theorem State.abandonMove_quiet (s : State) (r : RecordNo) (reason : MoveReason) :
    (s.abandonMove r reason).Quiet
      (((s.scrubRun (s.lease r).target).setLease r { s.lease r with state := .held, target := none }).setEngine
        (s.engine.giveUpMove (s.lease r))) :=
  State.forMasters_quiet _ _ _ fun _ _ => ⟨_, rfl⟩

/-- Stages 2 and 3 of retirement leave the records and the pool. -/
theorem State.retireNotices_quiet (s : State) (r : RecordNo) (h : Handle) (cause : RetireCause) :
    ((s.withdrawWaiters h).retireApertures r cause).Quiet s := by
  obtain ⟨q, b, e⟩ := s.withdrawWaiters_frame h
  obtain ⟨b', a, e'⟩ := (s.withdrawWaiters h).retireApertures_frame r cause
  rw [e', e]
  exact .of_eq rfl rfl rfl

/-- A record freed: its run goes to SCRUB (R20, R22). -/
theorem State.freeRecord_quiet (s : State) (r : RecordNo) :
    (s.freeRecord r).Quiet ((s.scrubRun (s.lease r).run).setLease r (Lease.freed (s.lease r).generation)) :=
  (State.dropOwnedBy_quiet _ _ _ _).setLease _ _

theorem State.Quiet.freeRecord {s t : State} (h : t.Quiet s) (r : RecordNo) :
    (t.freeRecord r).Quiet (s.freeRecord r) := by
  refine (t.freeRecord_quiet r).trans (.trans ?_ (s.freeRecord_quiet r).symm)
  rw [h.lease]
  exact (h.scrubRun _).setLease _ _

/-- Retirement is the abandonment of a move in flight, then the freeing of the record (R20). -/
theorem State.retire_quiet (s : State) (r : RecordNo) (cause : RetireCause) :
    (s.retire r cause).Quiet ((s.retireMove r).freeRecord r) :=
  (State.retireNotices_quiet _ _ _ _).freeRecord r

/-- A lease goes the way of its fate: it stays, or it is HELD with no holder and becomes IDLE or is retired (R17). -/
theorem State.settle_cases (s : State) (r : RecordNo) :
    (s.settle r = s ∧ ¬ ((s.lease r).state = .held ∧ (s.lease r).holders = 0)) ∨
      ((s.lease r).state = .held ∧ (s.lease r).holders = 0 ∧
        (s.settle r = s.setLease r { s.lease r with state := .idle, mode := none } ∨
          s.settle r = s.retire r .emptied)) := by
  unfold State.settle State.fate
  by_cases h : (s.lease r).state = .held ∧ (s.lease r).holders = MasterSet.empty
  · rw [if_pos h]
    refine .inr ⟨h.1, h.2, ?_⟩
    cases (s.lease r).keep
    · exact .inr rfl
    · exact .inl rfl
  · rw [if_neg h]
    exact .inl ⟨rfl, h⟩

@[simp] theorem State.lease_setEngine (s : State) (e : Engine) (r : RecordNo) :
    (s.setEngine e).lease r = s.lease r := rfl

@[simp] theorem State.lease_scrubRun (s : State) (run : Option Run) (r : RecordNo) :
    (s.scrubRun run).lease r = s.lease r := by
  cases run <;> rfl

@[simp] theorem State.lease_chooseStep (s : State) (r : RecordNo) : s.chooseStep.lease r = s.lease r := by
  unfold State.lease; rw [State.chooseStep_leases]

/-- A lease that a master has been removed from; the mode goes with the last holder (R11). -/
def Lease.without (l : Lease) (m : Master) : Lease :=
  { l with
    holders := l.holders.erase m
    mode := if l.holders.erase m = MasterSet.empty then none else l.mode }

/-- A lease that a master has left, when the pass that follows finds the given entries (R56, R89). -/
def Lease.left (l : Lease) (m : Master) (entries : List WaitEntry) : Lease :=
  ((l.without m).grants entries).foldl Lease.granted (l.without m)

theorem State.removeHolder_eq (s : State) (r : RecordNo) (m : Master) :
    s.removeHolder r m = s.setLease r ((s.lease r).without m) := rfl

/-- A lease that a master has left: the master is removed and the grants are made in their order (R56, R89). -/
theorem State.leave_quiet (s : State) (r : RecordNo) (m : Master) :
    (s.leave r m).Quiet
      (s.setLease r (((s.removeHolder r m).grantable r).foldl Lease.granted ((s.lease r).without m))) := by
  refine ((s.removeHolder r m).grantPass_quiet r).trans ?_
  rw [State.removeHolder_eq, State.lease_setLease_self]
  refine .of_eq ?_ rfl rfl
  exact Table.set_set _ _ _ _

/-- A lease that is not MOVING, after a master has left it: the entries are those of the card before (R89, R97). -/
theorem State.leave_lease (s : State) {r : RecordNo} (h : (s.lease r).state ≠ .moving) (m : Master) (r' : RecordNo) :
    (s.leave r m).lease r' =
      if r = r' then (s.lease r).left m (s.entriesFor (s.handle r)) else s.lease r' := by
  have hg : (s.removeHolder r m).grantable r = ((s.lease r).without m).grants (s.entriesFor (s.handle r)) := by
    have hh : (s.removeHolder r m).handle r = s.handle r := by
      unfold State.handle
      rw [State.removeHolder_eq, State.lease_setLease_self]; rfl
    rw [State.grantable_eq, hh, State.removeHolder_eq, State.lease_setLease_self]
    exact if_neg h
  rw [(s.leave_quiet r m).lease, hg, State.lease_setLease]
  rfl

theorem State.shrinkLease_quiet (s : State) (r : RecordNo) (dir : Direction) (run : Run) (len : Nat) :
    (s.shrinkLease r dir run len).Quiet
      ((s.scrubRun (some (shrunkOff dir run len))).setLease r { s.lease r with run := some (shrunkTo dir run len) }) :=
  State.dropOwnedBy_quiet _ _ _ _

theorem State.growLease_quiet (s : State) (r : RecordNo) (added grown : Run) :
    (s.growLease r added grown).Quiet
      ((s.setPool (s.pool.allocate added (.run r))).setLease r { s.lease r with run := some grown }) :=
  .trans (State.addOwnedBy_quiet _ _ _ _) ((s.allocate_quiet added (.run r)).setLease r _)

theorem State.startMove_quiet (s : State) (r : RecordNo) (target : Run) :
    (s.startMove r target).Quiet
      (((s.setPool (s.pool.allocate target (.target r))).setLease r
        { s.lease r with state := .moving, target := some target }).setEngine (s.engine.takeMove r)) :=
  ((s.allocate_quiet target (.target r)).setLease r _).setEngine _

theorem State.completeMove_quiet (s : State) (r : RecordNo) :
    (s.completeMove r).Quiet ((s.swapRuns r).setEngine s.engine.endMove) :=
  .trans (State.forMasters_quiet _ _ _ fun _ _ => ⟨_, rfl⟩) ((State.addOwnedBy_quiet _ _ _ _).setEngine _)

/-- RESET-ALL keeps the generations and frees every record (R184). -/
theorem State.resetAllBody_lease (s : State) (r : RecordNo) :
    ((resetAllBody s).1).lease r = Lease.freed (s.lease r).generation := by
  unfold State.lease resetAllBody
  rw [State.wakeEngine_leases]
  exact Table.get_map _ _ _

/-! #### Notices of RELEASE and of the wait queue -/

/-- The notices and apertures of RELEASE leave the records and the pool (R89). -/
theorem State.releaseNotices_quiet (s : State) (m : Master) (x y : Handle) :
    ((s.cancelUpgrade m x).releaseApertures m y).Quiet s := by
  have hc : (s.cancelUpgrade m x).Quiet s := by
    unfold State.cancelUpgrade
    split
    · split
      · exact .of_eq rfl rfl rfl
      · exact .refl s
    · exact .refl s
  have ha : ((s.cancelUpgrade m x).releaseApertures m y).Quiet (s.cancelUpgrade m x) := .of_eq rfl rfl rfl
  exact ha.trans hc

/-- The timeouts leave the records and the pool (R100). -/
theorem State.timeOut_quiet (s : State) : s.timeOut.Quiet s := by
  obtain ⟨b, e⟩ := foldl_mailboxes
    (fun s' e => State.endWait s' e.master
      { handle := e.handle, mode := some (WaitKind.mode e.kind), result := some .timedOut })
    (fun s b => ⟨_, rfl⟩) s.expired s
  unfold State.timeOut
  rw [e]
  exact .of_eq rfl rfl rfl

theorem Lease.unmoved_live {l : Lease} (h : l.state ≠ .free) : l.unmoved.state ≠ .free := by
  unfold Lease.unmoved
  split
  · simp
  · exact h

theorem Lease.unmoved_not_moving (l : Lease) : l.unmoved.state ≠ .moving := by
  unfold Lease.unmoved
  split
  · simp
  · next h => exact h

@[simp] theorem Lease.unmoved_holders (l : Lease) : l.unmoved.holders = l.holders := by
  unfold Lease.unmoved
  split <;> rfl

theorem State.abandonMove_lease (s : State) (r r' : RecordNo) (reason : MoveReason) :
    (s.abandonMove r reason).lease r' =
      if r = r' then { s.lease r with state := .held, target := none } else s.lease r' := by
  rw [(s.abandonMove_quiet r reason).lease]
  refine (State.lease_setLease _ r r' _).trans ?_
  cases (s.lease r).target <;> rfl

/-- RELEASE, from its third stage on, is a holder's leave (R89). -/
theorem State.releaseUpToPass_grantPass (s : State) (m : Master) (r : RecordNo) :
    (s.releaseUpToPass m r).grantPass r =
      (((s.releaseMove r).cancelUpgrade m (s.handle r)).releaseApertures m (s.handle r)).leave r m := rfl

/-- Stage 1 of RELEASE leaves the record with its move, if it was on one, abandoned (R89). -/
theorem State.releaseMove_lease (s : State) (r : RecordNo) : (s.releaseMove r).lease r = (s.lease r).unmoved := by
  unfold State.releaseMove Lease.unmoved
  split
  · rw [State.abandonMove_lease, if_pos rfl]
  · rfl

theorem Lease.granted_live {l : Lease} (e : WaitEntry) (h : l.state ≠ .free) : (l.granted e).state ≠ .free := by
  unfold Lease.granted
  split
  · exact h
  · simp
  · simp

theorem State.grantPass_live {s : State} (r : RecordNo) {r' : RecordNo} (h : (s.lease r').state ≠ .free) :
    ((s.grantPass r).lease r').state ≠ .free := by
  rw [(s.grantPass_quiet r).lease, State.lease_setLease]
  split
  · next e =>
    subst e
    exact List.foldlRecOn (motive := fun l : Lease => l.state ≠ .free) _ _ h fun l hl e _ => Lease.granted_live e hl
  · exact h

theorem State.live_of_mem_expiredHeads {s : State} {r : RecordNo} (h : r ∈ s.expiredHeads) :
    (s.lease r).state ≠ .free := by
  have := (List.mem_filter.1 h).2
  simp only [Bool.and_eq_true, bne_iff_ne] at this
  exact this.1

theorem legalLength_iff (len : Nat) : legalLength len = true ↔ 1 ≤ len ∧ len ≤ 256 := by
  unfold legalLength
  rw [Bool.and_eq_true, decide_eq_true_eq, decide_eq_true_eq]
  rfl

theorem State.setSram_quiet (s : State) (mem : Memory) : (s.setSram mem).Quiet s := .of_eq rfl rfl rfl

theorem State.zeroBurst_quiet (s : State) (block burst : Nat) : (s.zeroBurst block burst).Quiet s := s.setSram_quiet _

theorem State.copyBurst_quiet (s : State) (source target burst : Nat) : (s.copyBurst source target burst).Quiet s :=
  s.setSram_quiet _

theorem State.moverBurst_quiet (s : State) (r : RecordNo) : (s.moverBurst r).Quiet s := s.copyBurst_quiet _ _ _

/-- An engine that counts bursts or blocks keeps its step and the scrubber's block. -/
theorem State.Quiet.setEngine_count {s t : State} (h : t.Quiet s) {e : Engine} (step : e.step = s.engine.step)
    (block : e.scrubber.block = s.engine.scrubber.block) : (t.setEngine e).Quiet s :=
  ⟨h.leases, h.map, h.freeCount, h.scrubCount, step, block⟩

theorem State.checkReady_quiet (s : State) : s.checkReady.Quiet s := by
  unfold State.checkReady
  split
  · exact ⟨rfl, rfl, rfl, rfl, rfl, rfl⟩
  · exact .refl s

/-! #### The list of operations -/

/-- Retirement frees the record with its generation, and leaves the others (R20, R22). -/
theorem State.retire_lease (s : State) (r r' : RecordNo) (cause : RetireCause) :
    (s.retire r cause).lease r' = if r = r' then Lease.freed (s.lease r).generation else s.lease r' := by
  have hm : ∀ r', (s.retireMove r).lease r' = if r = r' then (s.lease r).unmoved else s.lease r' := by
    intro r'
    unfold State.retireMove Lease.unmoved
    split
    · exact s.abandonMove_lease r r' .revoked
    · split
      · next e => rw [e]
      · rfl
  rw [((s.retire_quiet r cause).trans (State.freeRecord_quiet _ r)).lease, State.lease_setLease, State.lease_scrubRun,
    hm, hm, if_pos rfl]
  split
  · unfold Lease.unmoved
    split <;> rfl
  · rfl

theorem State.movingRecord_moving {s : State} {r : RecordNo} (h : s.movingRecord = some r) :
    (s.lease r).state = .moving := by
  simpa using List.find?_some h

theorem State.movingRecord_none {s : State} (h : s.movingRecord = none) (r : RecordNo) :
    (s.lease r).state ≠ .moving := by
  simpa using List.find?_eq_none.1 h r (mem_allRecords r)

/-- A completed move puts the lease on its target run, when it has one (R120). -/
theorem State.swapRuns_cases (s : State) (r : RecordNo) :
    (s.lease r).target = none ∧ s.swapRuns r = s ∨
      ∃ target, (s.lease r).target = some target ∧
        s.swapRuns r = ((s.setPool (s.pool.remark target (.run r))).scrubRun (s.lease r).run).setLease r
          { s.lease r with state := .held, run := some target, target := none } := by
  unfold State.swapRuns
  cases h : (s.lease r).target with
  | none => exact .inl ⟨rfl, rfl⟩
  | some target => exact .inr ⟨target, rfl, rfl⟩

/-- The last stages of a session ending leave the records and the pool (R57). -/
theorem State.endStages4And5_quiet (s : State) (m : Master) (reason : EndReason) :
    (((s.unbindMaster m).closeSession m reason).endNotices m reason).Quiet s := by
  unfold State.endNotices
  split <;> exact .of_eq rfl rfl rfl

/-- The stages of a session ending, for a property `P` before the abandonment of stage 2 and `Q` after it. -/
theorem State.endSession_stages {P Q : State → Prop} {s : State} (m : Master) (reason : EndReason)
    (quiet : ∀ {s t : State}, t.Quiet s → Q s → Q t) (stage1 : P s → P (s.endStage1 m))
    (stage2 : ∀ {s : State}, P s → Q (s.endStage2 m))
    (hold : ∀ {s : State} (r : RecordNo), Q s → (s.lease r).holders.mem m = true → Q ((s.leave r m).settle r))
    (hs : P s) : Q (s.endSession m reason) := by
  have h3 : Q (((s.endStage1 m).endStage2 m).endStage3 m) := by
    refine List.foldlRecOn _ _ (stage2 (stage1 hs)) fun u hu r _ => ?_
    unfold State.endHold
    split
    · next hm => exact hold r hu hm
    · exact hu
  exact quiet (State.endStages4And5_quiet _ m reason) h3

/-- A wait entry is removed with a grant pass of a live lease at most (R54, R96). -/
theorem State.removeEntry_keeps {P : State → Prop} {s : State} (e : WaitEntry)
    (quiet : ∀ {s t : State}, t.Quiet s → P s → P t)
    (pass : ∀ {s : State} (r : RecordNo), P s → (s.lease r).state ≠ .free → P (s.grantPass r)) (hs : P s) :
    P (s.removeEntry e) := by
  have hq : (s.setQueue (dropFromQueue s.queue e.master e.handle)).Quiet s := .of_eq rfl rfl rfl
  unfold State.removeEntry
  dsimp only
  split
  · split
    · next r hr => exact pass r (quiet hq hs) ((s.validate_iff _ _).1 hr).live
    · exact quiet hq hs
  · exact quiet hq hs

/-- Stage 1 of a session ending removes one entry at most (R54). -/
theorem State.endStage1_keeps {P : State → Prop} {s : State} (m : Master)
    (quiet : ∀ {s t : State}, t.Quiet s → P s → P t)
    (pass : ∀ {s : State} (r : RecordNo), P s → (s.lease r).state ≠ .free → P (s.grantPass r)) (hs : P s) :
    P (s.endStage1 m) := by
  unfold State.endStage1
  split
  · exact State.removeEntry_keeps _ quiet pass hs
  · exact hs

/-- The operations on records, pool and scrubber that commands other than CREATE and system reset are made of, each
with what its command has checked, and a property of the card that each of them keeps. -/
structure LeaseOps (P : State → Prop) : Prop where
  /-- What the records, the blocks and the scrubber do not see. -/
  quiet : ∀ {s t : State}, t.Quiet s → P s → P t
  /-- The engine chooses its next step (R42). -/
  choose : ∀ {s : State}, P s → P s.chooseStep
  /-- A data write sets the written flag and MARK clears it (R78, R144). -/
  written : ∀ {s : State} (r : RecordNo) (w : Bool), P s → P (s.setLease r { s.lease r with written := w })
  /-- ACQUIRE grants at once (R86). -/
  acquire : ∀ {s : State} (m : Master) (r : RecordNo) (mode : Mode), P s → (s.lease r).state ≠ .free →
    s.grantableNow r mode = true → P (s.setLease r ((s.lease r).grantedNow m mode))
  /-- CONVERT changes the mode at once (R93, R94). -/
  convert : ∀ {s : State} (m : Master) (r : RecordNo) (mode : Mode), P s → (s.lease r).state ≠ .free →
    (s.lease r).state ≠ .moving → (s.lease r).holders.mem m = true →
    (mode = .exclusive → (s.lease r).holders = MasterSet.single m) →
    P (s.setLease r { s.lease r with mode := some mode })
  /-- A grant pass runs (R97). -/
  pass : ∀ {s : State} (r : RecordNo), P s → (s.lease r).state ≠ .free → P (s.grantPass r)
  /-- A holder leaves a lease, which goes the way of its fate (R17, R89). -/
  leave : ∀ {s : State} (m : Master) (r : RecordNo), P s → (s.lease r).state ≠ .free → (s.lease r).state ≠ .moving →
    (s.lease r).holders.mem m = true → P ((s.leave r m).settle r)
  /-- A move is abandoned (R122). -/
  abandon : ∀ {s : State} (r : RecordNo) (reason : MoveReason), P s → (s.lease r).state = .moving →
    P (s.abandonMove r reason)
  /-- A session ends (R53). -/
  endSession : ∀ {s : State} (m : Master) (reason : EndReason), P s → P (s.endSession m reason)
  /-- A lease is retired (R20). -/
  retire : ∀ {s : State} (r : RecordNo) (cause : RetireCause), P s → (s.lease r).state ≠ .free → P (s.retire r cause)
  /-- RESIZE shrinks (R109). -/
  shrink : ∀ {s : State} (r : RecordNo) (dir : Direction) (run : Run) (len : Nat), P s → (s.lease r).state ≠ .moving →
    (s.lease r).run = some run → 1 ≤ len → len < run.len → P (s.shrinkLease r dir run len)
  /-- RESIZE grows in place (R111). -/
  grow : ∀ {s : State} (r : RecordNo) (dir : Direction) (run added grown : Run) (len : Nat), P s →
    (s.lease r).state ≠ .free → (s.lease r).state ≠ .moving → (s.lease r).run = some run → run.len < len → len ≤ 256 →
    s.pool.growthInPlace dir run len = some (added, grown) → P (s.growLease r added grown)
  /-- RESIZE starts a move (R113). -/
  startMove : ∀ {s : State} (m : Master) (r : RecordNo) (dir : Direction) (run target : Run) (len : Nat), P s →
    (s.lease r).state ≠ .free → (s.lease r).heldExclusiveBy m = true → s.movingRecord = none →
    (s.lease r).run = some run → run.len < len → len ≤ 256 → s.pool.findRun dir len = some target →
    P (s.startMove r target)
  /-- A move completes (R120). -/
  completeMove : ∀ {s : State} (r : RecordNo), P s → P (s.completeMove r)
  /-- A block has been filled (R36). -/
  freeBlock : ∀ {s : State} (b : Block), P s → s.engine.step = some .scrub → s.engine.scrubber.block = some b →
    P ((s.setPool (s.pool.freeBlock b)).setEngine s.engine.endScrub)
  /-- RESET-ALL (R184). -/
  resetAll : ∀ {s : State}, P s → P (resetAllBody s).1

namespace LeaseOps

variable {P : State → Prop} (h : LeaseOps P)
include h

theorem same {s t : State} (hs : P s) (leases : t.leases = s.leases) (pool : t.pool = s.pool)
    (engine : t.engine = s.engine) : P t := h.quiet (.of_eq leases pool engine) hs

omit h in
/-- A command that does something under a guard and leaves the card as it is otherwise. -/
theorem next_of_ite {c : Prop} [Decidable c] {s t u : State}
    (ht : (if c then Outcome.next u else .next s : Outcome State Fault Refusal) = .next t) (hu : P u) (hs : P s) :
    P t := by
  split at ht <;> cases ht
  · exact hu
  · exact hs

/-! #### Takes -/

theorem takeRequest {q : Request} {carryOut : State → Master → State × Answer} {s t : State}
    (hb : ∀ s m, P s → P (carryOut s m).1) (ht : takeRequest q carryOut s = .next t) (hs : P s) : P t := by
  unfold Machine.takeRequest at ht
  split at ht
  · split at ht
    · cases ht
      exact h.same (hb _ _ hs) rfl rfl rfl
    · cases ht; exact hs
  · cases ht; exact hs

theorem takeSupervisor {c : SupervisorCommand} {carryOut : State → State × AnswerCode} {s t : State}
    (hb : ∀ s, P s → P (carryOut s).1) (ht : takeSupervisor c carryOut s = .next t) (hs : P s) : P t := by
  unfold Machine.takeSupervisor at ht
  split at ht
  · split at ht
    · cases ht
      exact h.same (hb _ hs) rfl rfl rfl
    · cases ht; exact hs
  · cases ht; exact hs

theorem withSession {carryOut : State → Master → State × Answer} (hb : ∀ s m, P s → P (carryOut s m).1)
    (s : State) (m : Master) (hs : P s) : P (withSession carryOut s m).1 := by
  unfold Machine.withSession
  split
  · exact hb _ _ (h.same hs rfl rfl rfl)
  · exact hs

omit h in
theorem withLease {carryOut : State → Master → RecordNo → State × Answer}
    (hb : ∀ s m r, P s → (s.lease r).state ≠ .free → P (carryOut s m r).1)
    (s : State) (m : Master) (hs : P s) : P (withLease carryOut s m).1 := by
  unfold Machine.withLease
  split
  · next r hr => exact hb _ _ _ hs ((s.validate_iff _ _).1 hr).live
  · exact hs

/-- A request that names a lease keeps the property when its body does. -/
theorem takeOnLease {q : Request} {carryOut : State → Master → RecordNo → State × Answer} {s t : State}
    (hb : ∀ s m r, P s → (s.lease r).state ≠ .free → P (carryOut s m r).1)
    (ht : Machine.takeRequest q (Machine.withSession (Machine.withLease carryOut)) s = .next t) (hs : P s) : P t :=
  h.takeRequest (h.withSession (LeaseOps.withLease hb)) ht hs

theorem wake {s : State} (hs : P s) : P s.wakeEngine := by
  unfold State.wakeEngine
  split
  · exact h.choose hs
  · exact hs

/-! #### Requests -/

theorem openBody (s : State) (m : Master) (hs : P s) : P (openBody s m).1 := by
  have hr : P (s.renewIfOpen m) := by
    unfold State.renewIfOpen
    split
    · exact h.same hs rfl rfl rfl
    · exact hs
  unfold Machine.openBody
  dsimp only
  split
  · exact hr
  · split
    · exact hr
    · split
      · exact h.same (h.wake (h.endSession m .reopened hs)) rfl rfl rfl
      · exact h.same hs rfl rfl rfl

theorem closeBody (s : State) (m : Master) (hs : P s) : P (closeBody s m).1 := by
  unfold Machine.closeBody
  split
  · exact h.wake (h.endSession m .closed hs)
  · exact hs

omit h in
theorem findBody (s : State) (m : Master) (hs : P s) : P (findBody s m).1 := by
  unfold Machine.findBody
  dsimp only
  repeat' split
  all_goals exact hs

theorem markBody (s : State) (m : Master) (r : RecordNo) (hs : P s) : P (markBody s m r).1 := by
  unfold Machine.markBody
  dsimp only
  split
  · exact hs
  · split
    · exact hs
    · exact h.written r false hs

theorem retireBody (s : State) (m : Master) (r : RecordNo) (hs : P s) (hl : (s.lease r).state ≠ .free) :
    P (retireBody s m r).1 := by
  unfold Machine.retireBody
  dsimp only
  split
  · exact hs
  · split
    · exact hs
    · split
      · exact h.wake (h.retire r .byOwner hs hl)
      · exact hs

theorem acquireBody (s : State) (m : Master) (r : RecordNo) (hs : P s) (hl : (s.lease r).state ≠ .free) :
    P (acquireBody s m r).1 := by
  unfold Machine.acquireBody
  dsimp only
  split
  · exact hs
  · split
    · exact hs
    · split
      · exact hs
      · next mode _ =>
        split
        · next hg => exact h.acquire m r mode hs hl hg
        · split
          · exact hs
          · split
            · exact hs
            · exact h.same hs rfl rfl rfl

theorem releaseBody (s : State) (m : Master) (r : RecordNo) (hs : P s) (hl : (s.lease r).state ≠ .free) :
    P (releaseBody s m r).1 := by
  unfold Machine.releaseBody
  split
  · exact hs
  · next hm =>
    have hq := (s.releaseMove r).releaseNotices_quiet m (s.handle r) (s.handle r)
    have hr := (hq.lease r).trans (s.releaseMove_lease r)
    have hp : P (s.releaseMove r) := by
      unfold State.releaseMove
      split
      · next hv => exact h.abandon r .released hs hv
      · exact hs
    dsimp only
    rw [State.releaseUpToPass_grantPass]
    refine h.wake (h.leave m r (h.quiet hq hp) ?_ ?_ ?_)
    · rw [hr]; exact Lease.unmoved_live hl
    · rw [hr]; exact Lease.unmoved_not_moving _
    · rw [hr, Lease.unmoved_holders]; simpa using hm

theorem convertBody (s : State) (m : Master) (r : RecordNo) (hs : P s) (hl : (s.lease r).state ≠ .free) :
    P (convertBody s m r).1 := by
  unfold Machine.convertBody
  dsimp only
  split
  · exact hs
  · next hm =>
    have hm : (s.lease r).holders.mem m = true := by simpa using hm
    split
    · exact hs
    · split
      · exact hs
      · next hv =>
        split
        · exact hs
        · split
          · refine h.pass r (h.convert m r .shared hs hl hv hm (by simp)) ?_
            simpa using hl
          · split
            · next ha => exact h.convert m r .exclusive hs hl hv hm fun _ => ha
            · unfold queuedUpgrade
              repeat' split
              all_goals first
                | exact hs
                | exact h.same hs rfl rfl rfl

theorem cancelBody (s : State) (m : Master) (hs : P s) : P (cancelBody s m).1 := by
  unfold Machine.cancelBody
  split
  · exact hs
  · exact State.removeEntry_keeps _ h.quiet h.pass hs

theorem growBody {s : State} {m : Master} {r : RecordNo} {dir : Direction} {run : Run} {len : Nat} (hs : P s)
    (hl : (s.lease r).state ≠ .free) (hv : (s.lease r).state ≠ .moving) (hm : (s.lease r).heldExclusiveBy m = true)
    (hr : (s.lease r).run = some run) (hlt : run.len < len) (hle : len ≤ 256) : P (growBody s r dir run len).1 := by
  unfold Machine.growBody
  split
  · exact hs
  · split
    · next hg => exact h.grow r dir run _ _ len hs hl hv hr hlt hle hg
    · unfold growByMove
      split
      · exact hs
      · next hn =>
        split
        · exact hs
        · next hf => exact h.wake (h.startMove m r dir run _ len hs hl hm hn hr hlt hle hf)

theorem resizeBody (s : State) (m : Master) (r : RecordNo) (hs : P s) (hl : (s.lease r).state ≠ .free) :
    P (resizeBody s m r).1 := by
  unfold Machine.resizeBody
  dsimp only
  split
  · exact hs
  · next hm =>
    split
    · exact hs
    · next hv =>
      split
      · exact hs
      · next hlen =>
        obtain ⟨h1, h2⟩ := (legalLength_iff _).1 (Bool.eq_true_of_not_eq_false hlen)
        split
        · next run dir hr _ =>
          split
          · exact hs
          · split
            · next hlt => exact h.wake (h.shrink r dir run _ hs hv hr h1 hlt)
            · exact h.growBody hs hl hv (by simpa using hm) hr (by omega) h2
        · exact hs

theorem bindBody (s : State) (m : Master) (r : RecordNo) (hs : P s) : P (bindBody s m r).1 := by
  unfold Machine.bindBody
  dsimp only
  split
  · exact hs
  · exact h.same hs rfl rfl rfl

/-! #### Data accesses -/

theorem takeAccess {s : State} (m : Master) (x : DataAccess) (hs : P s) : P (s.takeAccess m x) := by
  unfold State.takeAccess
  split
  · exact h.same hs rfl rfl rfl
  · exact h.same hs rfl rfl rfl
  · next r address _ =>
    split
    · exact h.same hs rfl rfl rfl
    · exact h.same (h.written r true hs) rfl rfl rfl

theorem serve {s : State} (x : Transfer) (hs : P s) : P (s.serve x) := by
  unfold State.serve
  split
  · exact h.takeAccess _ _ hs
  · exact h.same hs rfl rfl rfl

theorem servePort {s : State} (hs : P s) : P s.servePort := by
  unfold State.servePort
  split
  · exact h.serve _ (h.same hs rfl rfl rfl)
  · exact hs

theorem takeTransfer {s : State} (x : Transfer) (hs : P s) : P (s.takeTransfer x) := by
  unfold State.takeTransfer State.reachPort
  split
  · split
    · exact h.serve x hs
    · split
      · exact h.same hs rfl rfl rfl
      · exact hs
  · exact hs

/-! #### Ticks -/

theorem sessionTick {s : State} (hs : P s) : P s.sessionTick := by
  have hc : P s.countSessions := h.same hs rfl rfl rfl
  unfold State.sessionTick State.lapseAll
  split
  · exact hc
  · exact h.wake (List.foldlRecOn _ _ hc fun s hs m _ => h.endSession m .lapsed hs)

theorem queueTick {s : State} (hs : P s) : P s.queueTick := by
  unfold State.queueTick State.timeOutAll
  have hq := s.countQueue.timeOut_quiet
  have hc : P s.countQueue := h.same hs rfl rfl rfl
  refine (List.foldlRecOn (motive := fun u => P u ∧ ∀ r ∈ s.countQueue.expiredHeads, (u.lease r).state ≠ .free)
    _ _ ⟨h.quiet hq hc, ?_⟩ ?_).1
  · intro r hr
    rw [hq.lease]
    exact State.live_of_mem_expiredHeads hr
  · intro u ⟨hu, hl⟩ r hr
    exact ⟨h.pass r hu (hl r hr), fun r' hr' => State.grantPass_live r (hl r' hr')⟩

/-! #### Bursts -/

theorem cutScrubEnd {s : State} (b : Block) (burst : Nat) (hs : P s) : P (s.zeroBurst b.1 burst).endCutStep.servePort :=
  h.servePort (h.choose (h.quiet (s.zeroBurst_quiet b.1 burst) hs))

theorem scrubBurstEnd {s t : State} (ht : execScrubBurstEnd s = .next t) (hs : P s) : P t := by
  unfold execScrubBurstEnd at ht
  split at ht
  · next b _ _ =>
    split at ht
    · cases ht; exact hs
    · cases ht
      exact h.servePort (h.quiet ((s.zeroBurst_quiet b.1 _).setEngine_count rfl rfl) hs)
  · split at ht
    · cases ht; exact hs
    · cases ht; exact h.cutScrubEnd _ _ hs
  · cases ht; exact hs

theorem scrubBlockStepEnd {s t : State} (ht : execScrubBlockStepEnd s = .next t) (hs : P s) : P t := by
  unfold execScrubBlockStepEnd at ht
  split at ht
  · next b hstep hblock =>
    split at ht
    · cases ht
      have hz := h.quiet (s.zeroBurst_quiet b.1 s.engine.scrubber.burstsDone) hs
      exact h.servePort (h.choose (h.quiet (State.checkReady_quiet _) (h.freeBlock b hz hstep hblock)))
    · cases ht; exact hs
  · split at ht
    · cases ht; exact h.cutScrubEnd _ _ hs
    · cases ht; exact hs
  · cases ht; exact hs

theorem copyBurstEnd {s t : State} (ht : execCopyBurstEnd s = .next t) (hs : P s) : P t := by
  unfold execCopyBurstEnd at ht
  split at ht
  · next r _ _ =>
    split at ht
    · cases ht; exact hs
    · cases ht
      exact h.servePort (h.quiet ((s.moverBurst_quiet r).setEngine_count rfl rfl) hs)
  · cases ht
    exact h.servePort (h.choose (h.quiet (s.copyBurst_quiet _ _ _) hs))
  · cases ht; exact hs

theorem copyBlockStepEnd {s t : State} (ht : execCopyBlockStepEnd s = .next t) (hs : P s) : P t := by
  unfold execCopyBlockStepEnd at ht
  split at ht
  · next r _ _ =>
    split at ht
    · cases ht
      exact h.servePort (h.choose (h.quiet ((s.moverBurst_quiet r).setEngine_count rfl rfl) hs))
    · cases ht; exact hs
  · cases ht; exact hs

theorem moveCompletion {s t : State} (ht : execMoveCompletion s = .next t) (hs : P s) : P t := by
  unfold execMoveCompletion at ht
  split at ht
  · next r _ _ =>
    split at ht
    · cases ht
      exact h.servePort (h.choose (h.completeMove r (h.quiet (s.moverBurst_quiet r) hs)))
    · cases ht; exact hs
  · cases ht; exact hs

/-! #### Supervisor commands and the link -/

theorem revokeBody (s : State) (hs : P s) : P (revokeBody s).1 := by
  unfold Machine.revokeBody
  split
  · next r hr => exact h.wake (h.retire r .revoked hs ((s.validate_iff _ _).1 hr).live)
  · exact hs

theorem evictBody (s : State) (hs : P s) : P (evictBody s).1 := by
  unfold Machine.evictBody
  dsimp only
  split
  · split
    · exact h.wake (h.endSession _ .evicted hs)
    · exact hs
  · exact hs

theorem dataByte {effect : BankField → Option (State × Option Staged)} {s t : State}
    (he : ∀ f u staged, effect f = some (u, staged) → u.Quiet s) (ht : dataByte effect s = .next t) (hs : P s) :
    P t := by
  unfold Machine.dataByte at ht
  split at ht
  · split at ht
    · next u staged hu =>
      cases ht
      exact h.same (h.quiet (he _ _ _ hu) hs) rfl rfl rfl
    · cases ht; exact hs
  · cases ht; exact hs

/-- A data byte of the link reaches only what the records, the blocks and the scrubber do not see. -/
theorem stagedByte {value : Byte} {s t : State} (ht : execStagedByte value s = .next t) (hs : P s) : P t := by
  refine h.dataByte (fun f u staged he => ?_) ht hs
  split at he
  · split at he <;> cases he <;> exact .of_eq rfl rfl rfl
  · cases he; exact .refl s
  · cases he

theorem commandParameterCommit {value : Byte} {s t : State} (ht : execCommandParameterCommit value s = .next t)
    (hs : P s) : P t := by
  refine h.dataByte (fun f u staged he => ?_) ht hs
  split at he
  · split at he
    · cases he; exact .of_eq rfl rfl rfl
    · cases he
      unfold State.storeParameter
      split <;> exact .of_eq rfl rfl rfl
  · cases he

theorem watermarkCommit {value : Byte} {s t : State} (ht : execWatermarkCommit value s = .next t) (hs : P s) : P t := by
  refine h.dataByte (fun f u staged he => ?_) ht hs
  split at he
  · cases he
    unfold State.storeWatermark
    split
    · split
      · exact ⟨rfl, rfl, rfl, rfl, rfl, rfl⟩
      · exact .refl s
    · exact .refl s
  · cases he

theorem blockQuotaCommit {value : Byte} {s t : State} (ht : execBlockQuotaCommit value s = .next t) (hs : P s) :
    P t := by
  refine h.dataByte (fun f u staged he => ?_) ht hs
  split at he
  · cases he
    unfold State.storeBlockQuota
    split
    · split <;> exact .of_eq rfl rfl rfl
    · exact .refl s
  · cases he

theorem tickPeriodCodeWrite {value : Byte} {s t : State} (ht : execTickPeriodCodeWrite value s = .next t) (hs : P s) :
    P t := by
  refine h.dataByte (fun f u staged he => ?_) ht hs
  split at he
  · cases he
    split <;> exact .of_eq rfl rfl rfl
  · cases he

theorem leaseQuotaWrite {value : Byte} {s t : State} (ht : execLeaseQuotaWrite value s = .next t) (hs : P s) : P t := by
  refine h.dataByte (fun f u staged he => ?_) ht hs
  split at he
  · cases he
    split <;> exact .of_eq rfl rfl rfl
  · cases he

theorem commandWrite {value : Byte} {s t : State} (ht : execCommandWrite value s = .next t) (hs : P s) : P t := by
  refine h.dataByte (fun f u staged he => ?_) ht hs
  split at he
  · split at he <;> cases he <;> exact .of_eq rfl rfl rfl
  · cases he

theorem registerWriteIgnored {w : IgnoredWrite} {s t : State} (ht : execRegisterWriteIgnored w s = .next t)
    (hs : P s) : P t := by
  unfold execRegisterWriteIgnored at ht
  split at ht
  · split at ht
    · cases ht; exact h.same hs rfl rfl rfl
    · cases ht; exact hs
  · refine h.dataByte (fun f u staged he => ?_) ht hs
    split at he
    all_goals cases he
    all_goals exact .refl s

/-! #### Every command -/

/-- A command other than CREATE and system reset keeps what the operations keep. -/
theorem exec {c : Instr} {s t : State} (hc : c ≠ .takeCreate) (hr : c ≠ .systemReset)
    (ht : exec c s = .next t) (hs : P s) : P t := by
  cases c with
  | takeOpen => exact h.takeRequest h.openBody ht hs
  | takeRenew => exact h.takeRequest (h.withSession fun _ _ hs => hs) ht hs
  | takeClose => exact h.takeRequest h.closeBody ht hs
  | takeCreate => exact absurd rfl hc
  | takeFind => exact h.takeRequest (h.withSession LeaseOps.findBody) ht hs
  | takeQuery => exact h.takeOnLease (fun _ _ _ hs _ => hs) ht hs
  | takeMark => exact h.takeOnLease (fun s m r hs _ => h.markBody s m r hs) ht hs
  | takeRetire => exact h.takeOnLease h.retireBody ht hs
  | takeAcquire => exact h.takeOnLease h.acquireBody ht hs
  | takeRelease => exact h.takeOnLease h.releaseBody ht hs
  | takeConvert => exact h.takeOnLease h.convertBody ht hs
  | takeCancel => exact h.takeRequest (h.withSession h.cancelBody) ht hs
  | takeResize => exact h.takeOnLease h.resizeBody ht hs
  | takeBind => exact h.takeOnLease (fun s m r hs _ => h.bindBody s m r hs) ht hs
  | takeUnbind => exact h.takeRequest (h.withSession fun _ _ hs => h.same hs rfl rfl rfl) ht hs
  | takeUndefined => exact h.takeRequest (h.withSession fun _ _ hs => hs) ht hs
  | reqWrite m value => cases ht; exact h.same hs rfl rfl rfl
  | paramWrite m which value => cases ht; exact h.same hs rfl rfl rfl
  | eventsWrite m value => cases ht; exact h.same hs rfl rfl rfl
  | eventEnableWrite m value => cases ht; exact h.same hs rfl rfl rfl
  | registerWriteIgnored w => exact h.registerWriteIgnored ht hs
  | controlAccessError master address dir width => exact next_of_ite ht (h.same hs rfl rfl rfl) hs
  | dataRead master address width => cases ht; exact h.takeTransfer _ hs
  | dataWrite master address width lanes => cases ht; exact h.takeTransfer _ hs
  | tick => cases ht; exact h.same hs rfl rfl rfl
  | sessionCountdown => exact next_of_ite ht (h.sessionTick hs) hs
  | sessionLapse => exact next_of_ite ht (h.sessionTick hs) hs
  | waitQueueCountdown => exact next_of_ite ht (h.queueTick hs) hs
  | waitTimeout => exact next_of_ite ht (h.queueTick hs) hs
  | scrubBurstEnd => exact h.scrubBurstEnd ht hs
  | scrubBlockStepEnd => exact h.scrubBlockStepEnd ht hs
  | copyBurstEnd => exact h.copyBurstEnd ht hs
  | copyBlockStepEnd => exact h.copyBlockStepEnd ht hs
  | moveCompletion => exact h.moveCompletion ht hs
  | takeRevoke => exact h.takeSupervisor h.revokeBody ht hs
  | takeEvict => exact h.takeSupervisor h.evictBody ht hs
  | takeResetAll => exact h.takeSupervisor (fun _ hs => h.resetAll hs) ht hs
  | takeUndefinedSupervisor => exact h.takeSupervisor (fun _ hs => hs) ht hs
  | systemReset => exact absurd rfl hr
  | linkStart => cases ht; exact h.same hs rfl rfl rfl
  | linkAddress address dir =>
    simp only [Machine.exec, execLinkAddress] at ht
    split at ht
    · split at ht <;> cases ht <;> exact h.same hs rfl rfl rfl
    · cases ht; exact hs
  | linkStop => cases ht; exact h.same hs rfl rfl rfl
  | pointerByte value => exact next_of_ite ht (h.same hs rfl rfl rfl) hs
  | linkReadByte acknowledged => exact next_of_ite ht (h.same hs rfl rfl rfl) hs
  | stagedByte value => exact h.stagedByte ht hs
  | supervisorFlagsWrite value =>
    change execSupervisorFlagsWrite value s = .next t at ht
    refine h.dataByte (fun f u staged he => ?_) ht hs
    split at he <;> cases he
    exact .of_eq rfl rfl rfl
  | supervisorEnablesWrite value =>
    change execSupervisorEnablesWrite value s = .next t at ht
    refine h.dataByte (fun f u staged he => ?_) ht hs
    split at he <;> cases he
    exact .of_eq rfl rfl rfl
  | watermarkCommit value => exact h.watermarkCommit ht hs
  | tickPeriodCodeWrite value => exact h.tickPeriodCodeWrite ht hs
  | blockQuotaCommit value => exact h.blockQuotaCommit ht hs
  | leaseQuotaWrite value => exact h.leaseQuotaWrite ht hs
  | openPermissionWrite value =>
    change execOpenPermissionWrite value s = .next t at ht
    refine h.dataByte (fun f u staged he => ?_) ht hs
    split at he <;> cases he
    exact .of_eq rfl rfl rfl
  | commandParameterCommit value => exact h.commandParameterCommit ht hs
  | commandWrite value => exact h.commandWrite ht hs
  | snapshotSelect value =>
    change execSnapshotSelect value s = .next t at ht
    refine h.dataByte (fun f u staged he => ?_) ht hs
    split at he <;> cases he
    exact .of_eq rfl rfl rfl
  | linkReset => exact next_of_ite ht (h.same hs rfl rfl rfl) hs

end LeaseOps

/-! #### CREATE and the step -/

/-- The record CREATE takes is FREE (R2). -/
theorem State.firstFree_free {s : State} {r : RecordNo} (h : s.firstFree = some r) : (s.lease r).state = .free := by
  simpa using List.find?_some h

/-- The blocks of a run are given to a lease and the lease is created (R69). -/
theorem State.createLease_quiet (s : State) (m : Master) (r : RecordNo) (run : Run) :
    (s.createLease m r run).Quiet
      ((s.setPool (s.pool.allocate run (.run r))).setLease r ((s.lease r).created m (s.mailbox m) run)) :=
  have ho : ∀ u : State, (u.addOwned m 1 run.len).Quiet u := fun _ => .of_eq rfl rfl rfl
  (ho _).trans ((s.allocate_quiet run (.run r)).setLease r _)

theorem State.createLease_lease (s : State) (m : Master) (r r' : RecordNo) (run : Run) :
    (s.createLease m r run).lease r' = if r = r' then (s.lease r).created m (s.mailbox m) run else s.lease r' := by
  rw [(s.createLease_quiet m r run).lease]
  exact State.lease_setLease _ _ _ _

/-- What CREATE does to records, pool and scrubber: nothing, or a lease is created after the checks of R64 to R69. -/
theorem createBody_cases (s : State) (m : Master) :
    (createBody s m).1.Quiet s ∨
      ∃ r run, s.firstFree = some r ∧ s.tagConflict (s.mailbox m).parameter = none ∧
        legalLength (s.mailbox m).lengthField = true ∧
        s.pool.findRun (s.mailbox m).directionField (s.mailbox m).lengthField = some run ∧
        (createBody s m).1 = s.createLease m r run := by
  unfold createBody
  dsimp only
  split
  · exact .inl (.of_eq rfl rfl rfl)
  · next r hr =>
    split
    · exact .inl (.refl s)
    · next htag =>
      split
      · exact .inl (.refl s)
      · next hlen =>
        split
        · exact .inl (.refl s)
        · split
          · exact .inl (.refl s)
          · split
            · exact .inl (.refl s)
            · next run hrun => exact .inr ⟨r, run, hr, htag, Bool.eq_true_of_not_eq_false hlen, hrun, rfl⟩

/-- The take of CREATE, up to changes the records, the blocks and the scrubber do not see. -/
theorem takeCreate_cases {s t : State} (h : exec .takeCreate s = .next t) :
    t.Quiet s ∨
      ∃ (u : State) (m : Master) (r : RecordNo) (run : Run), u.Quiet s ∧ u.firstFree = some r ∧
        u.tagConflict (u.mailbox m).parameter = none ∧
        legalLength (u.mailbox m).lengthField = true ∧
        u.pool.findRun (u.mailbox m).directionField (u.mailbox m).lengthField = some run ∧
        t.Quiet (u.createLease m r run) := by
  change takeRequest .create (withSession createBody) s = .next t at h
  unfold takeRequest withSession at h
  split at h
  · next m _ =>
    split at h
    · split at h
      · cases h
        have hq : (s.renew m).Quiet s := .of_eq rfl rfl rfl
        have ha : ∀ (u : State) (a : Answer), (u.answer m a).Quiet u := fun u a => .of_eq rfl rfl rfl
        rcases createBody_cases (s.renew m) m with hc | ⟨r, run, hr, htag, hlen, hrun, e⟩
        · exact .inl ((ha _ _).trans (hc.trans hq))
        · exact .inr ⟨s.renew m, m, r, run, hq, hr, htag, hlen, hrun, e ▸ ha _ _⟩
      · cases h; exact .inl (.of_eq rfl rfl rfl)
    · cases h; exact .inl (.refl s)
  · cases h; exact .inl (.refl s)

/-- A step is a command on the card with the rest of the queue, or the card idles. -/
theorem step_cases {s t : State} (h : step s = .next t) :
    t = s ∨ ∃ c u, u.Quiet s ∧ exec c u = .next t := by
  unfold step at h
  split at h
  · cases h; exact .inl rfl
  · next c rest _ => exact .inr ⟨c, { s with pending := rest }, .of_eq rfl rfl rfl, h⟩

/-- A property of records, pool and scrubber is kept by every step, when the shared operations and CREATE keep it and
a system reset gives it. -/
theorem LeaseOps.step {P : State → Prop} (h : LeaseOps P)
    (create : ∀ {s : State} (m : Master) (r : RecordNo) (run : Run), P s → s.firstFree = some r →
      s.tagConflict (s.mailbox m).parameter = none → legalLength (s.mailbox m).lengthField = true →
      s.pool.findRun (s.mailbox m).directionField (s.mailbox m).lengthField = some run → P (s.createLease m r run))
    (reset : ∀ s : State, P s.systemReset) {s t : State} (ht : Machine.step s = .next t) (hs : P s) : P t := by
  rcases step_cases ht with rfl | ⟨c, u, hu, hc⟩
  · exact hs
  · have hs := h.quiet hu hs
    by_cases hcreate : c = .takeCreate
    · subst hcreate
      rcases takeCreate_cases hc with hq | ⟨v, m, r, run, hv, hr, htag, hlen, hrun, hq⟩
      · exact h.quiet hq hs
      · exact h.quiet hq (create m r run (h.quiet hv hs) hr htag hlen hrun)
    · by_cases hreset : c = .systemReset
      · subst hreset
        cases hc
        exact reset u
      · exact h.exec hcreate hreset hc hs

end Sys2Proof.Machine
end

section
/-! ### Tags and generations (R3, R6) -/

namespace Sys2Proof.Machine

/-- A record carries on another: its generation stays, and it has lost its tag, or keeps it and is FREE only where it
was FREE. -/
def Lease.CarriesOn (l' l : Lease) : Prop :=
  l'.generation = l.generation ∧ (l'.tag = l.tag ∧ (l'.state = .free → l.state = .free) ∨ l'.tag = 0)

/-- Every record of a card carries on that of another. -/
def State.CarriesOn (t s : State) : Prop := ∀ r, (t.lease r).CarriesOn (s.lease r)

namespace Lease.CarriesOn

theorem refl (l : Lease) : l.CarriesOn l := ⟨rfl, .inl ⟨rfl, id⟩⟩

theorem trans {l l' l'' : Lease} (h : l''.CarriesOn l') (h' : l'.CarriesOn l) : l''.CarriesOn l := by
  obtain ⟨hg, ⟨htag, hf⟩ | h0⟩ := h
  · obtain ⟨hg', ⟨htag', hf'⟩ | h0'⟩ := h'
    · exact ⟨hg.trans hg', .inl ⟨htag.trans htag', hf' ∘ hf⟩⟩
    · exact ⟨hg.trans hg', .inr (htag.trans h0')⟩
  · exact ⟨hg.trans h'.1, .inr h0⟩

/-- A change of other fields that does not free the record. -/
theorem of_eq {l l' : Lease} (generation : l'.generation = l.generation) (tag : l'.tag = l.tag)
    (live : l'.state = .free → l.state = .free) : l'.CarriesOn l := ⟨generation, .inl ⟨tag, live⟩⟩

theorem freed (l : Lease) : (Lease.freed l.generation).CarriesOn l := ⟨rfl, .inr rfl⟩

theorem granted (l : Lease) (e : WaitEntry) : (l.granted e).CarriesOn l := by
  unfold Lease.granted
  split
  · exact of_eq rfl rfl id
  · exact of_eq rfl rfl fun h => nomatch h
  · exact of_eq rfl rfl fun h => nomatch h

theorem foldl_granted (l : Lease) (entries : List WaitEntry) : (entries.foldl Lease.granted l).CarriesOn l :=
  List.foldlRecOn (motive := fun l' : Lease => l'.CarriesOn l) _ _ (.refl l) fun _ h e _ => (granted _ e).trans h

end Lease.CarriesOn

namespace State.CarriesOn

theorem refl (s : State) : s.CarriesOn s := fun _ => .refl _

theorem trans {s t u : State} (h : u.CarriesOn t) (h' : t.CarriesOn s) : u.CarriesOn s := fun r => (h r).trans (h' r)

theorem of_quiet {s t : State} (h : t.Quiet s) : t.CarriesOn s := fun r => by rw [h.lease]; exact .refl _

/-- One record is replaced by one that carries it on. -/
theorem setLease {s : State} {r : RecordNo} {l : Lease} (h : l.CarriesOn (s.lease r)) :
    (s.setLease r l).CarriesOn s := by
  intro r'
  rw [State.lease_setLease]
  split
  · next e => exact e ▸ h
  · exact .refl _

/-- The pool is changed besides. -/
theorem setLease_scrubRun {s : State} {r : RecordNo} {l : Lease} (run : Option Run) (h : l.CarriesOn (s.lease r)) :
    ((s.scrubRun run).setLease r l).CarriesOn s := by
  cases run <;> exact fun r' => setLease h r'

theorem grantPass (s : State) (r : RecordNo) : (s.grantPass r).CarriesOn s :=
  (of_quiet (s.grantPass_quiet r)).trans (setLease (.foldl_granted _ _))

theorem abandonMove (s : State) (r : RecordNo) (reason : MoveReason) : (s.abandonMove r reason).CarriesOn s :=
  (of_quiet (s.abandonMove_quiet r reason)).trans
    (setLease_scrubRun _ (.of_eq rfl rfl fun h => nomatch h))

theorem retire (s : State) (r : RecordNo) (cause : RetireCause) : (s.retire r cause).CarriesOn s := by
  have hm : (s.retireMove r).CarriesOn s := by
    unfold State.retireMove
    split
    · exact abandonMove s r .revoked
    · exact refl s
  have hf : ((s.retireMove r).freeRecord r).CarriesOn (s.retireMove r) :=
    (of_quiet (State.freeRecord_quiet _ r)).trans (setLease_scrubRun _ (.freed _))
  exact (of_quiet (s.retire_quiet r cause)).trans (hf.trans hm)

theorem leave (s : State) (r : RecordNo) (m : Master) : (s.leave r m).CarriesOn s :=
  (of_quiet (s.leave_quiet r m)).trans (setLease ((Lease.CarriesOn.foldl_granted _ _).trans (.of_eq rfl rfl id)))

theorem settle (s : State) (r : RecordNo) : (s.settle r).CarriesOn s := by
  rcases s.settle_cases r with ⟨e, -⟩ | ⟨-, -, e | e⟩
  · rw [e]; exact refl s
  · rw [e]; exact setLease (.of_eq rfl rfl fun h => nomatch h)
  · rw [e]; exact retire s r .emptied

theorem swapRuns (s : State) (r : RecordNo) : (s.swapRuns r).CarriesOn s := by
  unfold State.swapRuns
  split
  · next target _ =>
    have h : (s.setPool (s.pool.remark target (.run r))).CarriesOn s := fun r' => .refl (s.lease r')
    refine (setLease_scrubRun _ ?_).trans h
    exact .of_eq rfl rfl fun h => nomatch h
  · exact refl s

theorem shrinkLease (s : State) (r : RecordNo) (dir : Direction) (run : Run) (len : Nat) :
    (s.shrinkLease r dir run len).CarriesOn s := by
  refine (of_quiet (s.shrinkLease_quiet r dir run len)).trans (setLease_scrubRun _ ?_)
  exact .of_eq rfl rfl id

theorem growLease (s : State) (r : RecordNo) (added grown : Run) : (s.growLease r added grown).CarriesOn s := by
  refine (of_quiet (s.growLease_quiet r added grown)).trans (fun r' => ?_)
  exact setLease (s := s) (l := { s.lease r with run := some grown }) (.of_eq rfl rfl id) r'

theorem startMove (s : State) (r : RecordNo) (target : Run) : (s.startMove r target).CarriesOn s := by
  refine (of_quiet (s.startMove_quiet r target)).trans (fun r' => ?_)
  exact setLease (s := s) (l := { s.lease r with state := .moving, target := some target })
    (.of_eq rfl rfl fun h => nomatch h) r'

/-- The tags stay unique where every record carries on (R6). -/
theorem tagLaw {s t : State} (h : t.CarriesOn s) (hs : s.TagLaw) : t.TagLaw := by
  obtain ⟨hfree, huniq⟩ := hs
  have old : ∀ r, (t.lease r).tag ≠ 0 → (t.lease r).tag = (s.lease r).tag ∧ (s.lease r).state ≠ .free := by
    intro r h0
    obtain ⟨-, ⟨htag, -⟩ | h0'⟩ := h r
    · exact ⟨htag, fun hf => h0 (htag.trans (hfree r hf))⟩
    · exact absurd h0' h0
  constructor
  · intro r hr
    obtain ⟨-, ⟨htag, hf⟩ | h0⟩ := h r
    · exact htag.trans (hfree r (hf hr))
    · exact h0
  · intro r r' _ _ heq h0
    obtain ⟨ht, hl⟩ := old r h0
    obtain ⟨ht', hl'⟩ := old r' (heq ▸ h0)
    exact huniq r r' hl hl' (ht.symm.trans (heq.trans ht')) (ht ▸ h0)

end State.CarriesOn

/-- Every operation carries on the records of the card before it. -/
theorem leaseOps_carriesOn (s₀ : State) : LeaseOps (fun s => s.CarriesOn s₀) where
  quiet h hs := (State.CarriesOn.of_quiet h).trans hs
  choose hs := fun r => by rw [State.lease_chooseStep]; exact hs r
  written r w hs := by
    refine (State.CarriesOn.setLease ?_).trans hs
    exact .of_eq rfl rfl id
  acquire m r mode hs _ _ := by
    refine (State.CarriesOn.setLease ?_).trans hs
    exact .of_eq rfl rfl fun h => nomatch h
  convert m r mode hs _ _ _ _ := by
    refine (State.CarriesOn.setLease ?_).trans hs
    exact .of_eq rfl rfl id
  pass r hs _ := (State.CarriesOn.grantPass _ r).trans hs
  leave m r hs _ _ _ := (State.CarriesOn.settle _ r).trans ((State.CarriesOn.leave _ r m).trans hs)
  abandon r reason hs _ := (State.CarriesOn.abandonMove _ r reason).trans hs
  endSession m reason hs := by
    refine State.endSession_stages (P := fun s => s.CarriesOn s₀) m reason
      (fun h hs => (State.CarriesOn.of_quiet h).trans hs) ?_ ?_ ?_ hs
    · exact State.endStage1_keeps m (fun h hs => (State.CarriesOn.of_quiet h).trans hs)
        (fun r hs _ => (State.CarriesOn.grantPass _ r).trans hs)
    · intro u hu
      unfold State.endStage2
      split
      · split
        · exact (State.CarriesOn.abandonMove _ _ _).trans hu
        · exact hu
      · exact hu
    · exact fun r hu _ => (State.CarriesOn.settle _ r).trans ((State.CarriesOn.leave _ r m).trans hu)
  retire r cause hs _ := (State.CarriesOn.retire _ r cause).trans hs
  shrink r dir run len hs _ _ _ _ := (State.CarriesOn.shrinkLease _ r dir run len).trans hs
  grow r dir run added grown len hs _ _ _ _ _ _ := (State.CarriesOn.growLease _ r added grown).trans hs
  startMove m r dir run target len hs _ _ _ _ _ _ _ := (State.CarriesOn.startMove _ r target).trans hs
  completeMove {s} r hs :=
    ((State.CarriesOn.of_quiet (s.completeMove_quiet r)).trans (State.CarriesOn.swapRuns s r)).trans hs
  freeBlock b hs _ _ := hs
  resetAll {s} hs := fun r => by
    rw [State.resetAllBody_lease]
    exact (Lease.CarriesOn.freed _).trans (hs r)

/-! #### CREATE -/

/-- A tag that passes CREATE's check is 0 or on no live record (R66). -/
theorem State.tagConflict_none {s : State} {tag : BitVec 16} (h : s.tagConflict tag = none) (h0 : tag ≠ 0)
    (r : RecordNo) (hr : (s.lease r).state ≠ .free) : (s.lease r).tag ≠ tag := by
  unfold State.tagConflict State.recordWithTag at h
  rw [if_neg h0, List.find?_eq_none] at h
  simpa [hr] using h r (mem_allRecords r)

/-- The lease CREATE makes is the only one of its tag, if that is not 0 (R6, R66). -/
theorem State.createLease_tagLaw {s : State} {m : Master} {r : RecordNo} {run : Run} (hs : s.TagLaw)
    (htag : s.tagConflict (s.mailbox m).parameter = none) : (s.createLease m r run).TagLaw := by
  obtain ⟨hfree, huniq⟩ := hs
  have other : ∀ r', r ≠ r' → (s.lease r').state ≠ .free → (s.mailbox m).parameter ≠ 0 →
      (s.mailbox m).parameter ≠ (s.lease r').tag := fun r' _ hl h0 => (State.tagConflict_none htag h0 r' hl).symm
  constructor
  · intro r' hr'
    rw [State.createLease_lease] at hr' ⊢
    split at hr'
    · cases hr'
    · next hne => rw [if_neg hne]; exact hfree r' hr'
  · intro a b ha hb heq h0
    simp only [State.createLease_lease] at ha hb heq h0
    by_cases hra : r = a
    · by_cases hrb : r = b
      · exact hra.symm.trans hrb
      · rw [if_pos hra] at heq h0
        rw [if_neg hrb] at hb heq
        exact absurd heq (other b hrb hb h0)
    · by_cases hrb : r = b
      · rw [if_neg hra] at ha heq h0
        rw [if_pos hrb] at heq
        exact absurd heq.symm (other a hra ha fun e => h0 (heq.trans e))
      · rw [if_neg hra] at ha heq h0
        rw [if_neg hrb] at hb heq
        exact huniq a b ha hb heq h0

/-- The generation CREATE gives a record, in numbers (R3). -/
theorem nextGeneration_val (g : Fin 1024) :
    (nextGeneration g).val = if g.val = 0 ∨ g.val = 1023 then 1 else g.val + 1 := by
  have := g.isLt
  unfold nextGeneration
  split
  · next h =>
    by_cases h0 : g.val = 0
    · rw [if_pos (.inl h0)]; simp [h0]
    · rw [if_neg (by omega)]
  · rw [if_pos (.inr (by omega))]; rfl

theorem nextGeneration_ne_zero (g : Fin 1024) : nextGeneration g ≠ 0 := by
  intro h
  have hv := nextGeneration_val g
  rw [h] at hv
  split at hv <;> simp at hv

/-! #### The statement -/

/-- Settles O52: CREATE alone takes a record to another generation, and every other command carries the records on. -/
theorem stepKeepsTagsAndGenerations : Obligations.StepKeepsTagsAndGenerations := by
  constructor
  · intro s t ht hs
    rcases step_cases ht with rfl | ⟨c, u, hu, hc⟩
    · exact hs
    · have hs := (State.CarriesOn.of_quiet hu).tagLaw hs
      by_cases hcreate : c = .takeCreate
      · subst hcreate
        rcases takeCreate_cases hc with hq | ⟨v, m, r, run, hv, -, htag, -, -, hq⟩
        · exact (State.CarriesOn.of_quiet hq).tagLaw hs
        · exact (State.CarriesOn.of_quiet hq).tagLaw
            (State.createLease_tagLaw ((State.CarriesOn.of_quiet hv).tagLaw hs) htag)
      · by_cases hreset : c = .systemReset
        · subst hreset
          cases hc
          exact (u.systemReset_atReset).allFree.tagLaw
        · exact ((leaseOps_carriesOn u).exec hcreate hreset hc (.refl u)).tagLaw hs
  · intro s t c r hc hreset
    by_cases hcreate : c = .takeCreate
    · subst hcreate
      rcases takeCreate_cases hc with hq | ⟨v, m, r', run, hv, hr', -, -, -, hq⟩
      · rw [hq.lease]; exact ⟨.inl rfl, id⟩
      · rw [hq.lease, State.createLease_lease, hv.lease, hv.lease]
        split
        · next e =>
          subst e
          have hfree := State.firstFree_free hr'
          rw [hv.lease] at hfree
          exact ⟨.inr ⟨rfl, hfree, nextGeneration_val _⟩, fun _ => nextGeneration_ne_zero _⟩
        · exact ⟨.inl rfl, id⟩
    · have hg := ((leaseOps_carriesOn s).exec hcreate hreset hc (.refl s) r).1
      rw [hg]
      exact ⟨.inl rfl, id⟩

end Sys2Proof.Machine
end

section
/-! ### Sets of masters -/

namespace Sys2Proof.MasterSet

@[simp] theorem mem_empty (m : Master) : mem empty m = false := BitVec.getLsbD_zero

@[simp] theorem mem_single (m m' : Master) : mem (single m) m' = decide (m = m') := by
  revert m m'; decide

@[simp] theorem mem_insert (set : MasterSet) (m m' : Master) :
    mem (insert set m) m' = (mem set m' || decide (m = m')) := by
  rw [← mem_single]
  exact BitVec.getLsbD_or

@[simp] theorem mem_erase (set : MasterSet) (m m' : Master) :
    mem (erase set m) m' = (mem set m' && !decide (m = m')) := by
  have hlt := m'.isLt
  rw [← mem_single]
  unfold mem erase
  simp [hlt]

/-- Two sets with the same members are equal. -/
theorem ext {a b : MasterSet} (h : ∀ m, mem a m = mem b m) : a = b :=
  BitVec.eq_of_getLsbD_eq fun i hi => h ⟨i, hi⟩

theorem ne_zero_of_mem {set : MasterSet} {m : Master} (h : mem set m = true) : set ≠ 0 := by
  intro e
  rw [e] at h
  exact absurd ((mem_empty m).symm.trans h) Bool.false_ne_true

theorem single_ne_zero (m : Master) : single m ≠ 0 := ne_zero_of_mem (m := m) (by simp)

theorem insert_ne_zero (set : MasterSet) (m : Master) : insert set m ≠ 0 := ne_zero_of_mem (m := m) (by simp)

theorem insert_zero (m : Master) : insert 0 m = single m := by
  unfold insert; exact BitVec.zero_or

theorem erase_single (m : Master) : erase (single m) m = 0 := by
  unfold erase; exact BitVec.and_not_self _

theorem eq_of_mem_single {m m' : Master} (h : mem (single m) m' = true) : m = m' := by simpa using h

end Sys2Proof.MasterSet

/-! ### Holder sets and modes (R11, R19, R114) -/

namespace Sys2Proof.Machine

/-- What the law of holders says of one record. -/
structure Lease.HoldRule (l : Lease) : Prop where
  unheld : l.state = .free ∨ l.state = .idle → l.holders = 0 ∧ l.mode = none
  held : l.state = .held ∨ l.state = .moving → l.holders ≠ 0 ∧ l.mode ≠ none
  exclusive : l.mode = some .exclusive → ∃ m, l.holders = MasterSet.single m
  moving : l.state = .moving → l.mode = some .exclusive
  still : l.state ≠ .moving → l.target = none

/-- A lease that its last holder has left and whose fate is open: HELD, with no holder and no mode (R17). -/
structure Lease.Vacant (l : Lease) : Prop where
  state : l.state = .held
  holders : l.holders = 0
  mode : l.mode = none
  target : l.target = none

theorem State.holdLaw_iff (s : State) : s.HoldLaw ↔ (∀ r, (s.lease r).HoldRule) ∧ s.MovingLaw := by
  constructor
  · intro h
    exact ⟨fun r => ⟨h.unheld r, h.held r, h.exclusive r, h.moving r, h.still r⟩, h.oneMoving⟩
  · rintro ⟨h, hm⟩
    exact ⟨fun r => (h r).unheld, fun r => (h r).held, fun r => (h r).exclusive, fun r => (h r).moving,
      fun r => (h r).still, hm⟩

namespace Lease.HoldRule

variable {l : Lease}

/-- A lease with a holder is HELD or MOVING (R11). -/
theorem held_of_holder (h : l.HoldRule) (hne : l.holders ≠ 0) (hm : l.state ≠ .moving) : l.state = .held := by
  cases hs : l.state with
  | free => exact absurd (h.unheld (.inl hs)).1 hne
  | idle => exact absurd (h.unheld (.inr hs)).1 hne
  | held => rfl
  | moving => exact absurd hs hm

theorem freed (g : Fin 1024) : (Lease.freed g).HoldRule :=
  ⟨fun _ => ⟨rfl, rfl⟩, fun h => by simp [Lease.freed] at h, (nomatch ·), (nomatch ·), fun _ => rfl⟩

/-- A HELD lease with holders in SHARED mode. -/
theorem shared (state : l.state = .held) (holders : l.holders ≠ 0) (mode : l.mode = some .shared)
    (target : l.target = none) : l.HoldRule where
  unheld hu := by simp [state] at hu
  held _ := ⟨holders, by simp [mode]⟩
  exclusive he := by simp [mode] at he
  moving hm := by simp [state] at hm
  still _ := target

/-- A HELD lease with one holder in EXCLUSIVE mode. -/
theorem alone {m : Master} (state : l.state = .held) (holders : l.holders = MasterSet.single m)
    (mode : l.mode = some .exclusive) (target : l.target = none) : l.HoldRule where
  unheld hu := by simp [state] at hu
  held _ := ⟨holders ▸ MasterSet.single_ne_zero m, by simp [mode]⟩
  exclusive _ := ⟨m, holders⟩
  moving hm := by simp [state] at hm
  still _ := target

/-- Without a holder the rule holds of a FREE or IDLE lease. -/
theorem idle (state : l.state = .idle) (holders : l.holders = 0) (mode : l.mode = none) (target : l.target = none) :
    l.HoldRule where
  unheld _ := ⟨holders, mode⟩
  held hh := by simp [state] at hh
  exclusive he := by simp [mode] at he
  moving hm := by simp [state] at hm
  still _ := target

/-- Fields that the rule does not speak of may change. -/
theorem congr {l' : Lease} (h : l.HoldRule) (state : l'.state = l.state) (holders : l'.holders = l.holders)
    (mode : l'.mode = l.mode) (target : l'.target = l.target) : l'.HoldRule := by
  constructor
  · rw [state, holders, mode]; exact h.unheld
  · rw [state, holders, mode]; exact h.held
  · rw [holders, mode]; exact h.exclusive
  · rw [state, mode]; exact h.moving
  · rw [state, target]; exact h.still

/-- A removed holder leaves a lawful lease, or a vacant one if it was the last (R11). -/
theorem without {m : Master} (h : l.HoldRule) (hm : l.holders.mem m = true) (hs : l.state ≠ .moving) :
    (l.without m).HoldRule ∨ (l.without m).Vacant := by
  have hheld := h.held_of_holder (MasterSet.ne_zero_of_mem hm) hs
  by_cases he : l.holders.erase m = MasterSet.empty
  · exact .inr ⟨hheld, he, if_pos he, h.still hs⟩
  · have hmode : (l.without m).mode = l.mode := if_neg he
    refine .inl ⟨fun hu => ?_, fun _ => ⟨he, ?_⟩, fun hx => ?_, fun hv => absurd hv hs, h.still⟩
    · simp [Lease.without, hheld] at hu
    · rw [hmode]; exact (h.held (.inl hheld)).2
    · obtain ⟨m', hm'⟩ := h.exclusive (hmode.symm.trans hx)
      have : m' = m := MasterSet.eq_of_mem_single (hm' ▸ hm)
      exact absurd (by rw [hm', this]; exact MasterSet.erase_single m) he

end Lease.HoldRule

/-! #### Grants -/

/-- ACQ_SHARED entries granted one after another leave a SHARED lease SHARED. -/
theorem Lease.foldl_granted_shared {entries : List WaitEntry} (hk : ∀ e ∈ entries, e.kind = .acqShared) {l : Lease}
    (state : l.state = .held) (holders : l.holders ≠ 0) (mode : l.mode = some .shared) (target : l.target = none) :
    (entries.foldl Lease.granted l).HoldRule ∧ (entries.foldl Lease.granted l).state = .held := by
  induction entries generalizing l with
  | nil => exact ⟨.shared state holders mode target, state⟩
  | cons e rest ih =>
    rw [List.foldl_cons, Lease.granted_acqShared l (hk e (by simp))]
    exact ih (fun x hx => hk x (by simp [hx])) rfl (MasterSet.insert_ne_zero _ _) rfl target

/-- A pass grants nothing, or leaves the lease HELD and lawful (R98). -/
theorem Lease.foldl_grants {l : Lease} (h : l.HoldRule ∨ l.Vacant) (hs : l.state ≠ .moving)
    (entries : List WaitEntry) :
    (l.grants entries).foldl Lease.granted l = l ∨
      ((l.grants entries).foldl Lease.granted l).HoldRule ∧
        ((l.grants entries).foldl Lease.granted l).state = .held := by
  have htarget : l.target = none := h.elim (fun h => h.still hs) (fun h => h.target)
  unfold Lease.grants
  cases entries with
  | nil => exact .inl rfl
  | cons e rest =>
    dsimp only
    split
    · next hg =>
      rw [List.foldl_cons, List.foldl_nil]
      rcases hg with ⟨hk, ha⟩ | ⟨hk, -⟩
      · have hne : l.holders ≠ 0 := ha ▸ MasterSet.single_ne_zero e.master
        have hheld : l.state = .held := h.elim (fun h => h.held_of_holder hne hs) (fun h => h.state)
        rw [Lease.granted_upgrade l hk]
        exact .inr ⟨.alone hheld ha rfl htarget, hheld⟩
      · rw [Lease.granted_acqExcl l hk]
        exact .inr ⟨.alone rfl rfl rfl htarget, rfl⟩
    · split
      · next hg =>
        have hrest : ∀ x ∈ rest.takeWhile (fun x => x.kind == .acqShared), x.kind = .acqShared :=
          fun x hx => by simpa using List.mem_takeWhile_imp hx
        rw [List.foldl_cons, Lease.granted_acqShared l hg.1]
        exact .inr (Lease.foldl_granted_shared hrest rfl (MasterSet.insert_ne_zero _ _) rfl htarget)
      · exact .inl rfl

/-- A lease that a holder has left is lawful, or vacant with its fate open (R17, R89). -/
theorem Lease.HoldRule.left {l : Lease} {m : Master} (h : l.HoldRule) (hm : l.holders.mem m = true)
    (hs : l.state ≠ .moving) (entries : List WaitEntry) :
    ((l.left m entries).HoldRule ∨ (l.left m entries).Vacant) ∧ (l.left m entries).state ≠ .moving := by
  have hw := h.without hm hs
  unfold Lease.left
  rcases Lease.foldl_grants hw hs entries with e | ⟨hr, hheld⟩
  · rw [e]; exact ⟨hw, hs⟩
  · exact ⟨.inl hr, by simp [hheld]⟩

/-! #### The law of holders of the card -/

namespace State.HoldLaw

variable {s t : State}

theorem rule (h : s.HoldLaw) (r : RecordNo) : (s.lease r).HoldRule := (s.holdLaw_iff.1 h).1 r

theorem of_quiet (hq : t.Quiet s) (h : s.HoldLaw) : t.HoldLaw := by
  rw [State.holdLaw_iff] at *
  refine ⟨fun r => hq.lease r ▸ h.1 r, fun r r' => ?_⟩
  rw [hq.lease, hq.lease]
  exact h.2 r r'

/-- One record changes, to a lawful one that is MOVING only if it was. -/
theorem of_lease {r : RecordNo} {l : Lease} (h : s.HoldLaw) (ht : ∀ r', t.lease r' = if r = r' then l else s.lease r')
    (hl : l.HoldRule) (hm : l.state = .moving → (s.lease r).state = .moving) : t.HoldLaw := by
  have hmoving : ∀ r', (t.lease r').state = .moving → (s.lease r').state = .moving := by
    intro r' hr'
    rw [ht] at hr'
    split at hr'
    · next e => exact e ▸ hm hr'
    · exact hr'
  refine (State.holdLaw_iff _).2 ⟨fun r' => ?_, fun a b ha hb => h.oneMoving a b (hmoving a ha) (hmoving b hb)⟩
  rw [ht]
  split
  · exact hl
  · exact h.rule r'

theorem setLease {r : RecordNo} {l : Lease} (h : s.HoldLaw) (hl : l.HoldRule)
    (hm : l.state = .moving → (s.lease r).state = .moving) : (s.setLease r l).HoldLaw :=
  h.of_lease (s.lease_setLease r · l) hl hm

/-- A change of fields that the law does not speak of. -/
theorem same_holders {r : RecordNo} {l : Lease} (h : s.HoldLaw)
    (ht : ∀ r', t.lease r' = if r = r' then l else s.lease r') (state : l.state = (s.lease r).state)
    (holders : l.holders = (s.lease r).holders) (mode : l.mode = (s.lease r).mode)
    (target : l.target = (s.lease r).target) : t.HoldLaw :=
  h.of_lease ht ((h.rule r).congr state holders mode target) fun e => state ▸ e

theorem grantPass (h : s.HoldLaw) (r : RecordNo) : (s.grantPass r).HoldLaw := by
  refine of_quiet (s.grantPass_quiet r) ?_
  rw [s.grantable_eq]
  split
  · exact h.setLease (h.rule r) id
  · next hs =>
    rcases Lease.foldl_grants (.inl (h.rule r)) hs (s.entriesFor (s.handle r)) with e | ⟨hr, hheld⟩
    · rw [e]; exact h.setLease (h.rule r) id
    · exact h.setLease hr fun e => by simp [hheld] at e

/-- A holder's leave, with the fate of the lease, replaces one record by a lawful one that is not MOVING (R17, R89). -/
theorem leave_settle (h : s.HoldLaw) {r : RecordNo} {m : Master} (hm : (s.lease r).holders.mem m = true)
    (hs : (s.lease r).state ≠ .moving) :
    ∃ l : Lease, l.HoldRule ∧ l.state ≠ .moving ∧
      ∀ r', ((s.leave r m).settle r).lease r' = if r = r' then l else s.lease r' := by
  have hlease := s.leave_lease hs m
  obtain ⟨hl, hlm⟩ := (h.rule r).left hm hs (s.entriesFor (s.handle r))
  generalize (s.lease r).left m (s.entriesFor (s.handle r)) = l at hl hlm hlease
  have hself : (s.leave r m).lease r = l := by rw [hlease, if_pos rfl]
  rcases (s.leave r m).settle_cases r with ⟨e, hn⟩ | ⟨hheld, hempty, e | e⟩
  · rw [hself] at hn
    exact ⟨l, hl.resolve_right fun hv => hn ⟨hv.state, hv.holders⟩, hlm, fun r' => by rw [e]; exact hlease r'⟩
  · rw [hself] at hheld hempty
    have hv : l.Vacant := hl.resolve_left fun hr => (hr.held (.inl hheld)).1 hempty
    refine ⟨{ l with state := .idle, mode := none }, .idle rfl hv.holders rfl hv.target, by simp, fun r' => ?_⟩
    rw [e, State.lease_setLease, hself, hlease]
    split <;> rfl
  · refine ⟨Lease.freed l.generation, .freed _, by simp [Lease.freed], fun r' => ?_⟩
    rw [e, State.retire_lease, hself, hlease]
    split <;> rfl

theorem abandonMove (h : s.HoldLaw) {r : RecordNo} (hs : (s.lease r).state = .moving) (reason : MoveReason) :
    (s.abandonMove r reason).HoldLaw := by
  obtain ⟨m, hm⟩ := (h.rule r).exclusive ((h.rule r).moving hs)
  exact h.of_lease (fun r' => s.abandonMove_lease r r' reason) (.alone rfl hm ((h.rule r).moving hs) rfl)
    fun e => nomatch e

theorem retire (h : s.HoldLaw) (r : RecordNo) (cause : RetireCause) : (s.retire r cause).HoldLaw :=
  h.of_lease (fun r' => s.retire_lease r r' cause) (.freed _) fun e => nomatch e

/-- After stage 2 of a session ending its master holds no MOVING lease (R55). -/
theorem endStage2 (h : s.HoldLaw) (m : Master) :
    (s.endStage2 m).HoldLaw ∧
      ∀ r, ((s.endStage2 m).lease r).holders.mem m = true → ((s.endStage2 m).lease r).state ≠ .moving := by
  unfold State.endStage2
  cases hv : s.movingRecord with
  | none =>
    refine ⟨h, fun r _ hr => ?_⟩
    exact State.movingRecord_none hv r hr
  | some r =>
    have hr := State.movingRecord_moving hv
    dsimp only
    split
    · refine ⟨h.abandonMove hr _, fun r' _ hr' => ?_⟩
      rw [State.abandonMove_lease] at hr'
      split at hr'
      · cases hr'
      · next hne => exact hne (h.oneMoving r r' hr hr')
    · next hm => exact ⟨h, fun r' hm' hr' => hm (h.oneMoving r r' hr hr' ▸ hm')⟩

theorem endSession (h : s.HoldLaw) (m : Master) (reason : EndReason) : (s.endSession m reason).HoldLaw := by
  refine (State.endSession_stages (P := State.HoldLaw)
    (Q := fun s => s.HoldLaw ∧ ∀ r, (s.lease r).holders.mem m = true → (s.lease r).state ≠ .moving)
    m reason ?_ ?_ (fun h => h.endStage2 m) ?_ h).1
  · intro s t hq ⟨hs, hn⟩
    exact ⟨of_quiet hq hs, fun r => hq.lease r ▸ hn r⟩
  · exact State.endStage1_keeps m of_quiet fun r h _ => h.grantPass r
  · intro s r ⟨hs, hn⟩ hm
    obtain ⟨l, hl, hlm, hlease⟩ := hs.leave_settle hm (hn r hm)
    refine ⟨hs.of_lease hlease hl fun e => absurd e hlm, fun r' => ?_⟩
    rw [hlease]
    split
    · exact fun _ => hlm
    · exact hn r'

/-- ACQUIRE grants an IDLE lease in the mode asked for, and a SHARED one SHARED (R86). -/
theorem grantedNow (h : s.HoldLaw) {r : RecordNo} {mode : Mode} (hg : s.grantableNow r mode = true) (m : Master) :
    ((s.lease r).grantedNow m mode).HoldRule := by
  unfold State.grantableNow at hg
  simp only [Bool.and_eq_true, Bool.or_eq_true, beq_iff_eq] at hg
  obtain ⟨-, hidle | ⟨⟨hheld, hshared⟩, -⟩⟩ := hg
  · have htarget := (h.rule r).still (by simp [hidle])
    have hmode : ((s.lease r).grantedNow m mode).mode = some mode := if_pos hidle
    cases mode with
    | shared => exact .shared rfl (MasterSet.insert_ne_zero _ _) hmode htarget
    | exclusive =>
      have hholders : ((s.lease r).grantedNow m .exclusive).holders = MasterSet.single m := by
        unfold Lease.grantedNow
        rw [((h.rule r).unheld (.inr hidle)).1, MasterSet.insert_zero]
      exact .alone rfl hholders hmode htarget
  · have hmode : ((s.lease r).grantedNow m mode).mode = some .shared := by
      unfold Lease.grantedNow
      simp [hheld, hshared]
    exact .shared rfl (MasterSet.insert_ne_zero _ _) hmode ((h.rule r).still (by simp [hheld]))

/-- CONVERT of a lease its master holds (R93, R94). -/
theorem converted (h : s.HoldLaw) {r : RecordNo} {mode : Mode} {m : Master} (hs : (s.lease r).state ≠ .moving)
    (hm : (s.lease r).holders.mem m = true) (hx : mode = .exclusive → (s.lease r).holders = MasterSet.single m) :
    ({ s.lease r with mode := some mode } : Lease).HoldRule := by
  have hne := MasterSet.ne_zero_of_mem hm
  have hheld := (h.rule r).held_of_holder hne hs
  cases mode with
  | shared => exact .shared hheld hne rfl ((h.rule r).still hs)
  | exclusive => exact .alone hheld (hx rfl) rfl ((h.rule r).still hs)

/-- A move starts on a HELD EXCLUSIVE lease, and no other record is MOVING (R113, R114). -/
theorem startMove (h : s.HoldLaw) {r : RecordNo} {m : Master} (hl : (s.lease r).heldExclusiveBy m = true)
    (hn : s.movingRecord = none) (target : Run) : (s.startMove r target).HoldLaw := by
  have hlease : ∀ r', (s.startMove r target).lease r' =
      if r = r' then { s.lease r with state := .moving, target := some target } else s.lease r' :=
    fun r' => ((s.startMove_quiet r target).lease r').trans (State.lease_setLease _ _ _ _)
  have hmode : (s.lease r).mode = some .exclusive := by
    unfold Lease.heldExclusiveBy at hl
    simp only [Bool.and_eq_true, beq_iff_eq] at hl
    exact hl.2
  obtain ⟨m', hm'⟩ := (h.rule r).exclusive hmode
  have hrule : ({ s.lease r with state := .moving, target := some target } : Lease).HoldRule :=
    ⟨fun e => by simp at e, fun _ => ⟨hm' ▸ MasterSet.single_ne_zero m', by simp [hmode]⟩, fun _ => ⟨m', hm'⟩,
      fun _ => hmode, fun e => absurd rfl e⟩
  have honly : ∀ r', ((s.startMove r target).lease r').state = .moving → r' = r := by
    intro r' hr'
    rw [hlease] at hr'
    split at hr'
    · next e => exact e.symm
    · exact absurd hr' (State.movingRecord_none hn r')
  refine (State.holdLaw_iff _).2 ⟨fun r' => ?_, fun a b ha hb => (honly a ha).trans (honly b hb).symm⟩
  rw [hlease]
  split
  · exact hrule
  · exact h.rule r'

/-- A lease with a target run is MOVING, and its new run leaves it HELD EXCLUSIVE (R120). -/
theorem completeMove (h : s.HoldLaw) (r : RecordNo) : (s.completeMove r).HoldLaw := by
  refine of_quiet (s.completeMove_quiet r) ?_
  rcases s.swapRuns_cases r with ⟨-, e⟩ | ⟨target, ht, e⟩
  · rw [e]; exact (State.holdLaw_iff _).2 ⟨h.rule, h.oneMoving⟩
  · have hs : (s.lease r).state = .moving := by
      by_contra hne
      rw [(h.rule r).still hne] at ht
      cases ht
    obtain ⟨m, hm⟩ := (h.rule r).exclusive ((h.rule r).moving hs)
    refine h.of_lease (r := r) (l := { s.lease r with state := .held, run := some target, target := none })
      (fun r' => ?_) (.alone rfl hm ((h.rule r).moving hs) rfl) fun e => nomatch e
    rw [e]
    exact (State.lease_setLease _ _ _ _).trans (by rw [State.lease_scrubRun]; rfl)

end State.HoldLaw

/-- Every operation keeps the law of holders. -/
theorem leaseOps_holdLaw : LeaseOps State.HoldLaw where
  quiet := State.HoldLaw.of_quiet
  choose {s} hs := by
    refine (State.holdLaw_iff _).2 ⟨fun r => ?_, fun a b => ?_⟩
    · rw [State.lease_chooseStep]; exact hs.rule r
    · rw [State.lease_chooseStep, State.lease_chooseStep]; exact hs.oneMoving a b
  written {s} r w hs := hs.same_holders (s.lease_setLease r · _) rfl rfl rfl rfl
  acquire m r mode hs _ hg := hs.setLease (hs.grantedNow hg m) fun e => nomatch e
  convert m r mode hs _ hv hm hx := hs.setLease (hs.converted hv hm hx) id
  pass r hs _ := hs.grantPass r
  leave m r hs _ hv hm := by
    obtain ⟨l, hl, hlm, hlease⟩ := hs.leave_settle hm hv
    exact hs.of_lease hlease hl fun e => absurd e hlm
  abandon r reason hs hv := hs.abandonMove hv reason
  endSession m reason hs := hs.endSession m reason
  retire r cause hs _ := hs.retire r cause
  shrink {s} r dir run len hs _ _ _ _ :=
    hs.same_holders (l := { s.lease r with run := some (shrunkTo dir run len) })
      (fun r' => ((s.shrinkLease_quiet r dir run len).lease r').trans (State.lease_setLease _ _ _ _)) rfl rfl rfl rfl
  grow {s} r dir run added grown len hs _ _ _ _ _ _ :=
    hs.same_holders (l := { s.lease r with run := some grown })
      (fun r' => ((s.growLease_quiet r added grown).lease r').trans (State.lease_setLease _ _ _ _)) rfl rfl rfl rfl
  startMove m r dir run target len hs _ hl hn _ _ _ _ := hs.startMove hl hn target
  completeMove r hs := hs.completeMove r
  freeBlock b hs _ _ := (State.holdLaw_iff _).2 ⟨hs.rule, hs.oneMoving⟩
  resetAll {s} _ := (show (resetAllBody s).1.AllFree from fun r => ⟨_, State.resetAllBody_lease s r⟩).holdLaw

/-- CREATE makes a lease that its master holds alone (R69). -/
theorem State.HoldLaw.createLease {s : State} (h : s.HoldLaw) (m : Master) (r : RecordNo) (run : Run) :
    (s.createLease m r run).HoldLaw :=
  h.of_lease (fun r' => s.createLease_lease m r r' run) (.alone rfl rfl rfl rfl) fun e => nomatch e

/-- Settles O53. -/
theorem stepKeepsHolders : Obligations.StepKeepsHolders := fun _ _ ht hs =>
  leaseOps_holdLaw.step (fun m r run hs _ _ _ _ => hs.createLease m r run)
    (fun s => s.systemReset_atReset.allFree.holdLaw) ht hs

end Sys2Proof.Machine
end

section
/-! ### Stretches of the block map (R25, R26, R28) -/

namespace Sys2Proof.Table

/-- One entry replaced is a stretch of one entry. -/
theorem set_eq_setRun {α : Type} {n : Nat} (t : Table α n) (i : Fin n) (x : α) :
    t.set i x = t.setRun i.1 1 x := by
  refine Table.ext_get fun j => ?_
  rw [Table.get_set, Table.get_setRun]
  by_cases h : i = j
  · subst h; simp
  · have : i.1 ≠ j.1 := fun e => h (Fin.ext e)
    rw [if_neg h, if_neg (by omega)]

end Sys2Proof.Table

namespace Sys2Proof.Machine

/-- Marking a stretch of entries that were all alike moves their number from one count to the other. -/
theorem count_setRun {α : Type} [DecidableEq α] (l : List α) (base len : Nat) (x y z : α)
    (inside : ∀ b, base ≤ b → b < base + len → l[b]? = some y) :
    (setRun l base len x).count z + (if y = z then len else 0) = l.count z + (if x = z then len else 0) := by
  induction l generalizing base len with
  | nil =>
    have hlen : len = 0 := by
      by_contra h
      simpa using inside base le_rfl (by omega)
    simp [setRun, hlen]
  | cons a as ih =>
    cases base with
    | succ base =>
      have h := ih base len fun b h1 h2 => by simpa using inside (b + 1) (by omega) (by omega)
      simp only [setRun, List.count_cons]
      omega
    | zero =>
      cases len with
      | zero => simp [setRun]
      | succ len =>
        have ha : a = y := by simpa using inside 0 le_rfl (by omega)
        have h := ih 0 len fun b h1 h2 => by simpa using inside (b + 1) (by omega) (by omega)
        simp only [setRun, List.count_cons, ha, beq_iff_eq]
        split_ifs at h ⊢ <;> omega

theorem freePrefix_iff (l : List BlockState) (n : Nat) :
    freePrefix l n = true ↔ ∀ i < n, l[i]? = some .free := by
  induction n generalizing l with
  | zero => simp [freePrefix]
  | succ n ih =>
    cases l with
    | nil => simpa [freePrefix] using ⟨0, Nat.zero_le n⟩
    | cons a as =>
      rw [freePrefix, Bool.and_eq_true, beq_iff_eq, ih]
      constructor
      · rintro ⟨rfl, h⟩ i hi
        cases i with
        | zero => rfl
        | succ i => exact h i (by omega)
      · intro h
        exact ⟨by simpa using h 0 (by omega), fun i hi => by simpa using h (i + 1) (by omega)⟩

theorem lowestFit_fits {l : List BlockState} {len base b : Nat} (h : lowestFit l len base = some b) :
    ∃ k, b = base + k ∧ freePrefix (l.drop k) len = true := by
  induction l generalizing base with
  | nil => cases h
  | cons a as ih =>
    rw [lowestFit] at h
    split at h
    · next hf => cases h; exact ⟨0, rfl, hf⟩
    · obtain ⟨k, hb, hk⟩ := ih h
      exact ⟨k + 1, by omega, hk⟩

theorem highestFit_fits {l : List BlockState} {len base b : Nat} (h : highestFit l len base = some b) :
    ∃ k, b = base + k ∧ freePrefix (l.drop k) len = true := by
  induction l generalizing base with
  | nil => cases h
  | cons a as ih =>
    rw [highestFit] at h
    split at h
    · next found hf =>
      cases h
      obtain ⟨k, hb, hk⟩ := ih hf
      exact ⟨k + 1, by omega, hk⟩
    · split at h
      · next hf => cases h; exact ⟨0, rfl, hf⟩
      · cases h

/-- All the blocks of a run that the pool calls FREE are FREE. -/
theorem Pool.allFree_iff (p : Pool) (run : Run) :
    p.allFree run = true ↔ ∀ b, run.base ≤ b → b < run.base + run.len → p.map.list[b]? = some .free := by
  unfold Pool.allFree
  rw [freePrefix_iff]
  simp only [List.getElem?_drop]
  constructor
  · intro h b h1 h2
    simpa [Nat.add_sub_cancel' h1] using h (b - run.base) (by omega)
  · intro h i hi
    exact h (run.base + i) (by omega) (by omega)

/-- The run that the first-fit search finds has the length asked for, and its blocks are FREE (R28). -/
theorem Pool.findRun_fits {p : Pool} {dir : Direction} {len : Nat} {run : Run} (h : p.findRun dir len = some run) :
    run.len = len ∧ p.allFree run = true := by
  cases dir with
  | up =>
    obtain ⟨base, hb, rfl⟩ := Option.map_eq_some_iff.1 h
    obtain ⟨k, rfl, hk⟩ := lowestFit_fits hb
    refine ⟨rfl, ?_⟩
    unfold Pool.allFree
    rw [Nat.zero_add]; exact hk
  | down =>
    obtain ⟨base, hb, rfl⟩ := Option.map_eq_some_iff.1 h
    obtain ⟨k, rfl, hk⟩ := highestFit_fits hb
    refine ⟨rfl, ?_⟩
    unfold Pool.allFree
    rw [Nat.zero_add]; exact hk

theorem Pool.lowestScrub_scrub {p : Pool} {b : Block} (h : p.lowestScrub = some b) :
    p.map.list[b.val]? = some .scrub := by
  unfold Pool.lowestScrub at h
  split at h
  · next i hi =>
    split at h
    · cases h
      obtain ⟨hlt, hp, -⟩ := List.findIdx?_eq_some_iff_getElem.1 hi
      exact List.getElem?_eq_some_iff.2 ⟨hlt, by simpa using hp⟩
    · cases h
  · cases h

/-- A run of blocks that are all FREE lies in the pool. -/
theorem Pool.allFree_le {p : Pool} {run : Run} (h : p.allFree run = true) (hpos : 1 ≤ run.len) :
    run.base + run.len ≤ 512 := by
  have hb := (p.allFree_iff run).1 h (run.base + run.len - 1) (by omega) (by omega)
  have hlt := (List.getElem?_eq_some_iff.1 hb).1
  rw [p.map.length_eq] at hlt
  omega

/-- The blocks that growth in place adds to a run, and the run they make with it (R31). -/
theorem Pool.growthInPlace_spec {p : Pool} {dir : Direction} {run added grown : Run} {len : Nat} (hlt : run.len < len)
    (h : p.growthInPlace dir run len = some (added, grown)) :
    p.allFree added = true ∧ added.len = len - run.len ∧ grown.len = len ∧
      (grown.base + grown.len = added.base + added.len ∨ grown.base + grown.len = run.base + run.len) ∧
      ∀ b, grown.base ≤ b ∧ b < grown.base + grown.len ↔
        (added.base ≤ b ∧ b < added.base + added.len) ∨ run.base ≤ b ∧ b < run.base + run.len := by
  cases dir with
  | up =>
    simp only [Pool.growthInPlace] at h
    split at h
    · next hf =>
      cases h
      exact ⟨hf, rfl, rfl, .inl (by dsimp only; omega), fun b => by dsimp only; omega⟩
    · cases h
  | down =>
    simp only [Pool.growthInPlace] at h
    split at h
    · next hf =>
      cases h
      exact ⟨hf.2, rfl, rfl, .inr (by dsimp only; omega), fun b => by dsimp only; omega⟩
    · cases h

/-! ### Block map, counts and records (R13, R25, R26) -/

/-- A block lies in a run, when there is one. -/
def covers (run : Option Run) (b : Nat) : Prop := ∃ x, run = some x ∧ x.base ≤ b ∧ b < x.base + x.len

@[simp] theorem covers_none (b : Nat) : ¬ covers none b := by
  rintro ⟨_, h, _⟩
  cases h

@[simp] theorem covers_some (x : Run) (b : Nat) : covers (some x) b ↔ x.base ≤ b ∧ b < x.base + x.len := by
  simp [covers]

/-- What the law of the pool says of one record: where its runs may lie. -/
structure Lease.Placed (l : Lease) : Prop where
  free : l.state = .free → l.run = none ∧ l.target = none ∧ l.holders = 0
  live : l.state ≠ .free → ∃ run, l.run = some run ∧ 1 ≤ run.len ∧ run.len ≤ 256 ∧ run.base + run.len ≤ 512
  moving : l.state = .moving →
    ∃ target, l.target = some target ∧ l.length < target.len ∧ target.len ≤ 256 ∧ target.base + target.len ≤ 512
  still : l.state ≠ .moving → l.target = none

/-- Map and counts of a pool agree with the blocks that the records' runs and target runs have. -/
structure Pool.Agrees (p : Pool) (runs targets : RecordNo → Nat → Prop) : Prop where
  runBlocks : ∀ r b, p.map.list[b]? = some (.run r) ↔ runs r b
  targetBlocks : ∀ r b, p.map.list[b]? = some (.target r) ↔ targets r b
  freeCount : p.freeCount = p.map.list.count .free
  scrubCount : p.scrubCount = p.map.list.count .scrub

/-- The block that is being scrubbed is SCRUB (R35). -/
def State.ScrubsScrub (s : State) : Prop :=
  ∀ b, s.engine.step = some .scrub → s.engine.scrubber.block = some b → s.block b.val = some .scrub

theorem State.poolLaw_iff (s : State) :
    s.PoolLaw ↔ (∀ r, (s.lease r).Placed) ∧
      s.pool.Agrees (fun r => covers (s.lease r).run) (fun r => covers (s.lease r).target) ∧ s.ScrubsScrub := by
  constructor
  · intro h
    exact ⟨fun r => ⟨h.free r, h.live r, h.moving r, h.still r⟩,
      ⟨h.runBlocks, h.targetBlocks, h.freeCount, h.scrubCount⟩, h.scrubbing⟩
  · rintro ⟨hp, ha, hs⟩
    exact ⟨fun r => (hp r).free, fun r => (hp r).live, fun r => (hp r).moving, fun r => (hp r).still, ha.runBlocks,
      ha.targetBlocks, ha.freeCount, ha.scrubCount, hs⟩

namespace Pool.Agrees

variable {p p' : Pool} {runs targets runs' targets' : RecordNo → Nat → Prop}

theorem congr (h : p.Agrees runs targets) (hr : ∀ r b, runs' r b ↔ runs r b)
    (ht : ∀ r b, targets' r b ↔ targets r b) : p.Agrees runs' targets' :=
  ⟨fun r b => (h.runBlocks r b).trans (hr r b).symm, fun r b => (h.targetBlocks r b).trans (ht r b).symm,
    h.freeCount, h.scrubCount⟩

/-- A stretch of blocks all in one state goes to another, with the counts that follow. -/
theorem setRun {x y : BlockState} {run : Run} (h : p.Agrees runs targets)
    (map : p'.map = p.map.setRun run.base run.len x)
    (inside : ∀ b, run.base ≤ b → b < run.base + run.len → p.map.list[b]? = some y)
    (free : p'.freeCount = p.freeCount + (if x = .free then run.len else 0) - (if y = .free then run.len else 0))
    (scrub : p'.scrubCount = p.scrubCount + (if x = .scrub then run.len else 0) - (if y = .scrub then run.len else 0)) :
    p'.Agrees (fun r b => if run.base ≤ b ∧ b < run.base + run.len then x = .run r else runs r b)
      (fun r b => if run.base ≤ b ∧ b < run.base + run.len then x = .target r else targets r b) := by
  have hmap : ∀ b, p'.map.list[b]? =
      if run.base ≤ b ∧ b < run.base + run.len then some x else p.map.list[b]? := by
    intro b
    rw [map]
    refine (getElem?_setRun _ _ _ _ _).trans ?_
    by_cases hb : run.base ≤ b ∧ b < run.base + run.len
    · obtain ⟨hlt, -⟩ := List.getElem?_eq_some_iff.1 (inside b hb.1 hb.2)
      rw [if_pos hb, if_pos ⟨hb.1, hb.2, hlt⟩]
    · rw [if_neg hb, if_neg fun hc => hb ⟨hc.1, hc.2.1⟩]
  have hcount := fun z => count_setRun p.map.list run.base run.len x y z inside
  have hlist : p'.map.list = Sys2Proof.setRun p.map.list run.base run.len x := by rw [map]; rfl
  constructor
  · intro r b
    rw [hmap]
    split
    · rw [Option.some.injEq]
    · exact h.runBlocks r b
  · intro r b
    rw [hmap]
    split
    · rw [Option.some.injEq]
    · exact h.targetBlocks r b
  · have := hcount .free
    rw [free, hlist, h.freeCount]; omega
  · have := hcount .scrub
    rw [scrub, hlist, h.scrubCount]; omega

end Pool.Agrees


/-! #### Records that stay in their place -/

/-- A live record has the runs of another, and is MOVING where that is. -/
structure Lease.SamePlace (l' l : Lease) : Prop where
  run : l'.run = l.run
  target : l'.target = l.target
  live : l'.state ≠ .free
  moving : l'.state = .moving ↔ l.state = .moving

theorem Lease.Placed.samePlace {l l' : Lease} (h : l.Placed) (hl : l.state ≠ .free) (hs : l'.SamePlace l) :
    l'.Placed where
  free e := absurd e hs.live
  live _ := hs.run ▸ h.live hl
  moving e := by
    unfold Lease.length
    rw [hs.run, hs.target]
    exact h.moving (hs.moving.1 e)
  still e := hs.target ▸ h.still fun c => e (hs.moving.2 c)

theorem Lease.samePlace_granted {l l' : Lease} (h : l'.SamePlace l) (hm : l.state ≠ .moving) (e : WaitEntry) :
    (l'.granted e).SamePlace l := by
  unfold Lease.granted
  split
  · exact ⟨h.run, h.target, h.live, h.moving⟩
  · exact ⟨h.run, h.target, by simp, by simp [hm]⟩
  · exact ⟨h.run, h.target, by simp, by simp [hm]⟩

theorem Lease.samePlace_foldl_granted {l l' : Lease} (h : l'.SamePlace l) (hm : l.state ≠ .moving)
    (entries : List WaitEntry) : (entries.foldl Lease.granted l').SamePlace l :=
  List.foldlRecOn (motive := fun l' : Lease => l'.SamePlace l) _ _ h fun _ h e _ => Lease.samePlace_granted h hm e

theorem Lease.placed_freed (g : Fin 1024) : (Lease.freed g).Placed :=
  ⟨fun _ => ⟨rfl, rfl, rfl⟩, fun h => absurd rfl h, (nomatch ·), fun _ => rfl⟩

/-- A block state that no record but one has to do with. -/
def BlockState.OnlyOf (x : BlockState) (r : RecordNo) : Prop := ∀ r', r ≠ r' → x ≠ .run r' ∧ x ≠ .target r'

theorem BlockState.onlyOf_free (r : RecordNo) : BlockState.free.OnlyOf r := fun _ _ => ⟨by simp, by simp⟩
theorem BlockState.onlyOf_scrub (r : RecordNo) : BlockState.scrub.OnlyOf r := fun _ _ => ⟨by simp, by simp⟩
theorem BlockState.onlyOf_run (r : RecordNo) : (BlockState.run r).OnlyOf r := fun _ h => ⟨by simpa using h, by simp⟩
theorem BlockState.onlyOf_target (r : RecordNo) : (BlockState.target r).OnlyOf r :=
  fun _ h => ⟨by simp, by simpa using h⟩

/-! #### The law of the pool -/

namespace State.PoolLaw

variable {s t : State}

theorem placed (h : s.PoolLaw) (r : RecordNo) : (s.lease r).Placed := (s.poolLaw_iff.1 h).1 r

theorem agrees (h : s.PoolLaw) :
    s.pool.Agrees (fun r => covers (s.lease r).run) (fun r => covers (s.lease r).target) := (s.poolLaw_iff.1 h).2.1

theorem scrubsScrub (h : s.PoolLaw) : s.ScrubsScrub := (s.poolLaw_iff.1 h).2.2

theorem of_quiet (hq : t.Quiet s) (h : s.PoolLaw) : t.PoolLaw := by
  refine t.poolLaw_iff.2 ⟨fun r => hq.lease r ▸ h.placed r, ⟨fun r b => ?_, fun r b => ?_, ?_, ?_⟩, fun b hs hb => ?_⟩
  · rw [hq.map, hq.lease]; exact h.runBlocks r b
  · rw [hq.map, hq.lease]; exact h.targetBlocks r b
  · rw [hq.freeCount, hq.map]; exact h.freeCount
  · rw [hq.scrubCount, hq.map]; exact h.scrubCount
  · rw [hq.blocks]; exact h.scrubbing b (hq.step ▸ hs) (hq.block ▸ hb)

/-- A run of a record has its blocks in the map. -/
theorem run_block (h : s.PoolLaw) {r : RecordNo} {run : Run} (hr : (s.lease r).run = some run) (b : Nat)
    (h1 : run.base ≤ b) (h2 : b < run.base + run.len) : s.block b = some (.run r) :=
  (h.runBlocks r b).2 ⟨run, hr, h1, h2⟩

theorem target_block (h : s.PoolLaw) {r : RecordNo} {target : Run} (hr : (s.lease r).target = some target) (b : Nat)
    (h1 : target.base ≤ b) (h2 : b < target.base + target.len) : s.block b = some (.target r) :=
  (h.targetBlocks r b).2 ⟨target, hr, h1, h2⟩

/-- A block in another state is in no run of a record. -/
theorem not_covers_run (h : s.PoolLaw) {b : Nat} {y : BlockState} {r : RecordNo} (hb : s.block b = some y)
    (hy : y ≠ .run r) : ¬ covers (s.lease r).run b :=
  fun hc => hy (Option.some.inj (hb.symm.trans ((h.runBlocks r b).2 hc)))

theorem not_covers_target (h : s.PoolLaw) {b : Nat} {y : BlockState} {r : RecordNo} (hb : s.block b = some y)
    (hy : y ≠ .target r) : ¬ covers (s.lease r).target b :=
  fun hc => hy (Option.some.inj (hb.symm.trans ((h.targetBlocks r b).2 hc)))

/-- A record changes and its runs do not. -/
theorem setLease (h : s.PoolLaw) {r : RecordNo} {l : Lease} (placed : l.Placed) (run : l.run = (s.lease r).run)
    (target : l.target = (s.lease r).target) : (s.setLease r l).PoolLaw := by
  refine (State.poolLaw_iff _).2 ⟨fun r' => ?_, h.agrees.congr (fun r' b => ?_) (fun r' b => ?_), h.scrubbing⟩
  all_goals
    rw [State.lease_setLease]
    split
  · exact placed
  · exact h.placed r'
  · next e => rw [run, e]
  · rfl
  · next e => rw [target, e]
  · rfl

theorem setLease_samePlace (h : s.PoolLaw) {r : RecordNo} {l : Lease} (hl : (s.lease r).state ≠ .free)
    (hs : l.SamePlace (s.lease r)) : (s.setLease r l).PoolLaw :=
  h.setLease ((h.placed r).samePlace hl hs) hs.run hs.target

/-- A stretch of blocks that have to do with one record only, all in one state, goes to another state, and the
record's runs follow. -/
theorem restretch {r : RecordNo} {l : Lease} {run : Run} {x y : BlockState} (h : s.PoolLaw)
    (lease : ∀ r', t.lease r' = if r = r' then l else s.lease r') (placed : l.Placed)
    (map : t.pool.map = s.pool.map.setRun run.base run.len x)
    (inside : ∀ b, run.base ≤ b → b < run.base + run.len → s.block b = some y)
    (hx : x.OnlyOf r) (hy : y.OnlyOf r)
    (runs : ∀ b, covers l.run b ↔
      if run.base ≤ b ∧ b < run.base + run.len then x = .run r else covers (s.lease r).run b)
    (targets : ∀ b, covers l.target b ↔
      if run.base ≤ b ∧ b < run.base + run.len then x = .target r else covers (s.lease r).target b)
    (free : t.pool.freeCount =
      s.pool.freeCount + (if x = .free then run.len else 0) - (if y = .free then run.len else 0))
    (scrub : t.pool.scrubCount =
      s.pool.scrubCount + (if x = .scrub then run.len else 0) - (if y = .scrub then run.len else 0))
    (scrubs : t.ScrubsScrub) : t.PoolLaw := by
  have other : ∀ r' b, r ≠ r' → run.base ≤ b ∧ b < run.base + run.len →
      ¬ covers (s.lease r').run b ∧ ¬ covers (s.lease r').target b := by
    intro r' b hne hb
    exact ⟨h.not_covers_run (inside b hb.1 hb.2) (hy r' hne).1,
      h.not_covers_target (inside b hb.1 hb.2) (hy r' hne).2⟩
  refine t.poolLaw_iff.2 ⟨fun r' => ?_,
    (h.agrees.setRun map inside free scrub).congr (fun r' b => ?_) (fun r' b => ?_), scrubs⟩
  all_goals
    rw [lease]
    split
  · exact placed
  · exact h.placed r'
  · next e => subst e; exact runs b
  · next hne =>
    split
    · next hb => exact iff_of_false (other r' b hne hb).1 (hx r' hne).1
    · rfl
  · next e => subst e; exact targets b
  · next hne =>
    split
    · next hb => exact iff_of_false (other r' b hne hb).2 (hx r' hne).2
    · rfl

/-- A stretch that was not SCRUB leaves the block that is being scrubbed. -/
theorem scrubs_setRun {run : Run} {x y : BlockState} (h : s.ScrubsScrub)
    (map : t.pool.map = s.pool.map.setRun run.base run.len x)
    (inside : ∀ b, run.base ≤ b → b < run.base + run.len → s.block b = some y) (hy : y ≠ .scrub)
    (step : t.engine.step = some .scrub → s.engine.step = some .scrub)
    (block : t.engine.scrubber.block = s.engine.scrubber.block) : t.ScrubsScrub := by
  intro b hs hb
  have hscrub := h b (step hs) (block ▸ hb)
  unfold State.block
  rw [map]
  refine (getElem?_setRun _ _ _ _ _).trans ?_
  rw [if_neg fun hc => hy (Option.some.inj ((inside _ hc.1 hc.2.1).symm.trans hscrub))]
  exact hscrub

/-- The engine changes, and starts no step of the scrubber. -/
theorem setEngine (h : s.PoolLaw) {e : Engine}
    (he : ∀ b, e.step = some .scrub → e.scrubber.block = some b → s.block b.val = some .scrub) :
    (s.setEngine e).PoolLaw := (State.poolLaw_iff _).2 ⟨h.placed, h.agrees, he⟩

/-- Blocks of one record go to SCRUB, and its runs no longer have them (R33, R34). -/
theorem toScrub {r : RecordNo} {l : Lease} {run : Run} {y : BlockState} (h : s.PoolLaw)
    (hy : y = .run r ∨ y = .target r) (inside : ∀ b, run.base ≤ b → b < run.base + run.len → s.block b = some y)
    (placed : l.Placed)
    (runs : ∀ b, covers l.run b ↔ covers (s.lease r).run b ∧ ¬ (run.base ≤ b ∧ b < run.base + run.len))
    (targets : ∀ b, covers l.target b ↔ covers (s.lease r).target b ∧ ¬ (run.base ≤ b ∧ b < run.base + run.len)) :
    ((s.setPool (s.pool.toScrub run)).setLease r l).PoolLaw := by
  have hyfree : y ≠ .free := by rcases hy with rfl | rfl <;> simp
  have hyscrub : y ≠ .scrub := by rcases hy with rfl | rfl <;> simp
  have hyonly : y.OnlyOf r := by
    rcases hy with rfl | rfl
    · exact BlockState.onlyOf_run r
    · exact BlockState.onlyOf_target r
  refine h.restretch (State.lease_setLease _ r · l) placed rfl inside (BlockState.onlyOf_scrub r) hyonly
    (fun b => ?_) (fun b => ?_) ?_ ?_ (scrubs_setRun h.scrubsScrub rfl inside hyscrub id rfl)
  · rw [runs]
    by_cases hb : run.base ≤ b ∧ b < run.base + run.len <;> simp [hb]
  · rw [targets]
    by_cases hb : run.base ≤ b ∧ b < run.base + run.len <;> simp [hb]
  · simp [hyfree, Pool.toScrub]
  · simp [hyscrub, Pool.toScrub]

/-- FREE blocks go to one record, whose runs then have them (R29, R31, R32). -/
theorem allocate {r : RecordNo} {l : Lease} {run : Run} {x : BlockState} (h : s.PoolLaw)
    (hx : x = .run r ∨ x = .target r) (inside : s.pool.allFree run = true) (placed : l.Placed)
    (runs : ∀ b, covers l.run b ↔
      if run.base ≤ b ∧ b < run.base + run.len then x = .run r else covers (s.lease r).run b)
    (targets : ∀ b, covers l.target b ↔
      if run.base ≤ b ∧ b < run.base + run.len then x = .target r else covers (s.lease r).target b) :
    ((s.setPool (s.pool.allocate run x)).setLease r l).PoolLaw := by
  have inside := (s.pool.allFree_iff run).1 inside
  have hxfree : x ≠ .free := by rcases hx with rfl | rfl <;> simp
  have hxscrub : x ≠ .scrub := by rcases hx with rfl | rfl <;> simp
  have hxonly : x.OnlyOf r := by
    rcases hx with rfl | rfl
    · exact BlockState.onlyOf_run r
    · exact BlockState.onlyOf_target r
  refine h.restretch (State.lease_setLease _ r · l) placed rfl inside hxonly (BlockState.onlyOf_free r)
    runs targets ?_ ?_ (scrubs_setRun h.scrubsScrub rfl inside (by simp) id rfl)
  · simp [hxfree, Pool.allocate]
  · simp [hxscrub, Pool.allocate]

/-! #### The operations -/

theorem chooseStep (h : s.PoolLaw) : s.chooseStep.PoolLaw := by
  unfold State.chooseStep State.startScrubStep
  split
  · exact h.setEngine fun b hs _ => nomatch hs
  · split
    · split
      · next b hb =>
        refine h.setEngine fun b' _ hb' => ?_
        cases hb'
        exact Pool.lowestScrub_scrub hb
      · exact h.setEngine fun b hs _ => nomatch hs
    · exact h.setEngine fun b hs _ => nomatch hs

theorem grantPass (h : s.PoolLaw) {r : RecordNo} (hl : (s.lease r).state ≠ .free) : (s.grantPass r).PoolLaw := by
  have hself : (s.lease r).SamePlace (s.lease r) := ⟨rfl, rfl, hl, Iff.rfl⟩
  refine of_quiet (s.grantPass_quiet r) (h.setLease_samePlace hl ?_)
  rw [s.grantable_eq]
  split
  · exact hself
  · next hm => exact Lease.samePlace_foldl_granted hself hm _

/-- A record with a holder is not FREE. -/
theorem live_of_holder (h : s.PoolLaw) {r : RecordNo} {m : Master} (hm : (s.lease r).holders.mem m = true) :
    (s.lease r).state ≠ .free := by
  intro hf
  rw [(h.free r hf).2.2] at hm
  exact absurd hm (by simp [MasterSet.mem])

theorem leave (h : s.PoolLaw) {r : RecordNo} (hl : (s.lease r).state ≠ .free) (m : Master) :
    (s.leave r m).PoolLaw ∧ ((s.leave r m).lease r).state ≠ .free := by
  have hr : (s.removeHolder r m).PoolLaw := h.setLease_samePlace hl ⟨rfl, rfl, hl, Iff.rfl⟩
  have hlr : ((s.removeHolder r m).lease r).state ≠ .free := by
    rw [State.removeHolder_eq, State.lease_setLease_self]; exact hl
  exact ⟨hr.grantPass hlr, State.grantPass_live r hlr⟩

theorem abandonMove (h : s.PoolLaw) {r : RecordNo} (hm : (s.lease r).state = .moving) (reason : MoveReason) :
    (s.abandonMove r reason).PoolLaw := by
  obtain ⟨target, ht, -⟩ := h.moving r hm
  have hl : (s.lease r).state ≠ .free := by simp [hm]
  refine of_quiet (s.abandonMove_quiet r reason) ?_
  rw [ht]
  have hp : ((s.setPool (s.pool.toScrub target)).setLease r
      { s.lease r with state := .held, target := none }).PoolLaw := by
    refine h.toScrub (.inr rfl) (h.target_block ht)
      ⟨(nomatch ·), fun _ => h.live r hl, (nomatch ·), fun _ => rfl⟩ (fun b => ?_) (fun b => ?_)
    · exact ⟨fun hc => ⟨hc, fun hb => h.not_covers_run (h.target_block ht b hb.1 hb.2) (by simp) hc⟩, And.left⟩
    · rw [ht, covers_some]
      exact iff_of_false (covers_none b) fun hc => hc.2 hc.1
  refine hp.setEngine fun b hs hb => hp.scrubbing b ?_ hb
  change s.engine.step = some .scrub
  unfold Engine.giveUpMove at hs
  dsimp only at hs
  split at hs
  · cases hs
  · exact hs

theorem freeRecord (h : s.PoolLaw) {r : RecordNo} (hl : (s.lease r).state ≠ .free)
    (hm : (s.lease r).state ≠ .moving) : (s.freeRecord r).PoolLaw := by
  obtain ⟨run, hr, -⟩ := h.live r hl
  refine of_quiet (s.freeRecord_quiet r) ?_
  rw [hr]
  refine h.toScrub (.inl rfl) (h.run_block hr) (Lease.placed_freed _) (fun b => ?_) (fun b => ?_)
  · rw [hr, covers_some]
    exact iff_of_false (covers_none b) fun hc => hc.2 hc.1
  · rw [h.still r hm]
    exact iff_of_false (covers_none b) fun hc => covers_none b hc.1

theorem retire (h : s.PoolLaw) {r : RecordNo} (hl : (s.lease r).state ≠ .free) (cause : RetireCause) :
    (s.retire r cause).PoolLaw := by
  refine of_quiet (s.retire_quiet r cause) ?_
  unfold State.retireMove
  split
  · next hm =>
    refine (h.abandonMove hm .revoked).freeRecord ?_ ?_
    all_goals
      rw [State.abandonMove_lease, if_pos rfl]
      simp
  · next hm => exact h.freeRecord hl hm

theorem settle (h : s.PoolLaw) {r : RecordNo} (hl : (s.lease r).state ≠ .free) : (s.settle r).PoolLaw := by
  rcases s.settle_cases r with ⟨e, -⟩ | ⟨hheld, -, e | e⟩
  · rw [e]; exact h
  · rw [e]; exact h.setLease_samePlace hl ⟨rfl, rfl, by simp, by simp [hheld]⟩
  · rw [e]; exact h.retire hl .emptied

theorem endSession (h : s.PoolLaw) (m : Master) (reason : EndReason) : (s.endSession m reason).PoolLaw := by
  refine State.endSession_stages (P := State.PoolLaw) m reason of_quiet ?_ ?_ ?_ h
  · exact State.endStage1_keeps m of_quiet fun r h hl => h.grantPass hl
  · intro s h
    unfold State.endStage2
    split
    · next r hr =>
      split
      · exact h.abandonMove (State.movingRecord_moving hr) _
      · exact h
    · exact h
  · intro s r h hm
    obtain ⟨hp, hl⟩ := h.leave (h.live_of_holder hm) m
    exact hp.settle hl

theorem shrinkLease (h : s.PoolLaw) {r : RecordNo} {run : Run} {len : Nat} (dir : Direction)
    (hm : (s.lease r).state ≠ .moving) (hr : (s.lease r).run = some run) (h1 : 1 ≤ len) (hlt : len < run.len) :
    (s.shrinkLease r dir run len).PoolLaw := by
  have hl : (s.lease r).state ≠ .free := fun hf => by
    rw [(h.free r hf).1] at hr; cases hr
  obtain ⟨run', hr', -, h256, h512⟩ := h.live r hl
  cases hr.symm.trans hr'
  have hoff : ∀ b, (shrunkOff dir run len).base ≤ b ∧ b < (shrunkOff dir run len).base + (shrunkOff dir run len).len ↔
      (run.base ≤ b ∧ b < run.base + run.len) ∧
        ¬ ((shrunkTo dir run len).base ≤ b ∧ b < (shrunkTo dir run len).base + (shrunkTo dir run len).len) := by
    intro b
    cases dir <;> simp only [shrunkOff, shrunkTo] <;> omega
  have hto : ∀ b, (shrunkTo dir run len).base ≤ b ∧ b < (shrunkTo dir run len).base + (shrunkTo dir run len).len →
      run.base ≤ b ∧ b < run.base + run.len := by
    intro b
    cases dir <;> simp only [shrunkTo] <;> omega
  refine of_quiet (s.shrinkLease_quiet r dir run len)
    (h.toScrub (.inl rfl) (fun b b1 b2 => ?_) ?_ (fun b => ?_) (fun b => ?_))
  · have := ((hoff b).1 ⟨b1, b2⟩).1
    exact h.run_block hr b this.1 this.2
  · refine ⟨fun e => absurd e hl, fun _ => ⟨_, rfl, ?_⟩, fun e => absurd e hm, fun _ => h.still r hm⟩
    cases dir <;> simp only [shrunkTo] <;> omega
  · rw [hr, covers_some, covers_some, hoff]
    have := hto b
    tauto
  · rw [show ({ s.lease r with run := some (shrunkTo dir run len) } : Lease).target = none from h.still r hm]
    simp

theorem growLease (h : s.PoolLaw) {r : RecordNo} {dir : Direction} {run added grown : Run} {len : Nat}
    (hl : (s.lease r).state ≠ .free) (hm : (s.lease r).state ≠ .moving) (hr : (s.lease r).run = some run)
    (hlt : run.len < len) (hle : len ≤ 256) (hg : s.pool.growthInPlace dir run len = some (added, grown)) :
    (s.growLease r added grown).PoolLaw := by
  obtain ⟨hfree, hadded, hgrown, hend, hblocks⟩ := Pool.growthInPlace_spec hlt hg
  have hfits := Pool.allFree_le hfree (by omega)
  obtain ⟨run', hr', -, -, h512⟩ := h.live r hl
  cases hr.symm.trans hr'
  refine of_quiet (s.growLease_quiet r added grown) (h.allocate (.inl rfl) hfree
    ⟨fun e => absurd e hl, fun _ => ⟨grown, rfl, by omega⟩, fun e => absurd e hm, fun _ => h.still r hm⟩
    (fun b => ?_) (fun b => ?_))
  · rw [hr, covers_some, covers_some, hblocks]
    split
    · next hb => exact iff_of_true (.inl hb) rfl
    · next hb => exact or_iff_right hb
  · rw [show ({ s.lease r with run := some grown } : Lease).target = none from h.still r hm]
    simp

theorem startMove (h : s.PoolLaw) {r : RecordNo} {dir : Direction} {run target : Run} {len : Nat}
    (hl : (s.lease r).state ≠ .free) (hn : s.movingRecord = none) (hr : (s.lease r).run = some run)
    (hlt : run.len < len) (hle : len ≤ 256) (hf : s.pool.findRun dir len = some target) :
    (s.startMove r target).PoolLaw := by
  obtain ⟨hlen, hfree⟩ := Pool.findRun_fits hf
  have hfits := Pool.allFree_le hfree (by omega)
  have hlength : (s.lease r).length = run.len := by unfold Lease.length; rw [hr]
  have htarget := h.still r (State.movingRecord_none hn r)
  have hp : ((s.setPool (s.pool.allocate target (.target r))).setLease r
      { s.lease r with state := .moving, target := some target }).PoolLaw := by
    refine h.allocate (.inr rfl) hfree ⟨(nomatch ·), fun _ => h.live r hl, fun _ => ⟨target, rfl, ?_, by omega⟩,
      fun e => absurd rfl e⟩ (fun b => ?_) (fun b => ?_)
    · show (s.lease r).length < target.len
      omega
    · split
      · next hb =>
        exact iff_of_false (h.not_covers_run ((s.pool.allFree_iff target).1 hfree b hb.1 hb.2) (by simp)) (by simp)
      · rfl
    · rw [htarget, covers_some]
      split
      · next hb => exact iff_of_true hb rfl
      · next hb => exact iff_of_false hb (covers_none b)
  exact of_quiet (s.startMove_quiet r target) (hp.setEngine hp.scrubbing)

theorem createLease (h : s.PoolLaw) {r : RecordNo} {dir : Direction} {run : Run} {len : Nat} (m : Master)
    (hr : s.firstFree = some r) (hlen : legalLength len = true) (hf : s.pool.findRun dir len = some run) :
    (s.createLease m r run).PoolLaw := by
  obtain ⟨rfl, hfree⟩ := Pool.findRun_fits hf
  obtain ⟨h1, h256⟩ := (legalLength_iff _).1 hlen
  obtain ⟨hrun, htarget, -⟩ := h.free r (State.firstFree_free hr)
  refine of_quiet (s.createLease_quiet m r run) (h.allocate (.inl rfl) hfree
    ⟨(nomatch ·), fun _ => ⟨run, rfl, h1, h256, Pool.allFree_le hfree h1⟩, (nomatch ·), fun _ => rfl⟩
    (fun b => ?_) (fun b => ?_))
  · rw [hrun]
    show covers (some run) b ↔ _
    rw [covers_some]
    split
    · next hb => exact iff_of_true hb rfl
    · next hb => exact iff_of_false hb (covers_none b)
  · rw [htarget]
    show covers none b ↔ _
    simp

/-- A record with a target run is MOVING, with both runs in the pool (R32). -/
theorem moving_of_target (h : s.PoolLaw) {r : RecordNo} {target : Run} (ht : (s.lease r).target = some target) :
    ∃ run, (s.lease r).run = some run ∧ 1 ≤ target.len ∧ target.len ≤ 256 ∧ target.base + target.len ≤ 512 := by
  have hm : (s.lease r).state = .moving := by
    by_contra hne
    rw [h.still r hne] at ht
    cases ht
  obtain ⟨run, hr, -⟩ := h.live r (by simp [hm])
  obtain ⟨target', ht', hlt, h256, h512⟩ := h.moving r hm
  cases ht.symm.trans ht'
  exact ⟨run, hr, by omega, h256, h512⟩

/-- The target run is marked as the run and the old run goes to SCRUB: map and counts agree with the records, but for
the one that moves, which has its target run as its run (R34, R120). -/
theorem swapped_agrees (h : s.PoolLaw) {r : RecordNo} {run target : Run} (hr : (s.lease r).run = some run)
    (ht : (s.lease r).target = some target) :
    ((s.pool.remark target (.run r)).toScrub run).Agrees
        (fun r' => covers (if r = r' then some target else (s.lease r').run))
        (fun r' => covers (if r = r' then none else (s.lease r').target)) ∧
      ((s.setPool (s.pool.remark target (.run r))).setPool
        ((s.pool.remark target (.run r)).toScrub run)).ScrubsScrub := by
  have htarget := h.target_block ht
  have hold := h.run_block hr
  have hmarked := h.agrees.setRun (p' := s.pool.remark target (.run r)) rfl htarget
    (by simp [Pool.remark]) (by simp [Pool.remark])
  have hrun : ∀ b, run.base ≤ b → b < run.base + run.len →
      (s.pool.remark target (.run r)).map.list[b]? = some (.run r) := by
    refine fun b h1 h2 => (hmarked.runBlocks r b).2 ?_
    split
    · rfl
    · exact ⟨run, hr, h1, h2⟩
  have hscrubbed := hmarked.setRun (p' := (s.pool.remark target (.run r)).toScrub run) rfl hrun
    (by simp [Pool.toScrub]) (by simp [Pool.toScrub])
  have hscrubs : (s.setPool (s.pool.remark target (.run r))).ScrubsScrub :=
    scrubs_setRun h.scrubsScrub rfl htarget (by simp) id rfl
  refine ⟨hscrubbed.congr (fun r' b => ?_) (fun r' b => ?_), scrubs_setRun hscrubs rfl hrun (by simp) id rfl⟩
  · by_cases hb : run.base ≤ b ∧ b < run.base + run.len
    · rw [if_pos hb]
      refine iff_of_false ?_ (by simp)
      split
      · rw [covers_some]
        exact fun hc => h.not_covers_run (htarget b hc.1 hc.2) (by simp) ⟨run, hr, hb⟩
      · next hne => exact h.not_covers_run (hold b hb.1 hb.2) (by simpa using hne)
    · rw [if_neg hb]
      by_cases hc : target.base ≤ b ∧ b < target.base + target.len
      · rw [if_pos hc]
        split
        · next e => exact iff_of_true ((covers_some target b).2 hc) (e ▸ rfl)
        · next hne =>
          exact iff_of_false (h.not_covers_run (htarget b hc.1 hc.2) (by simp)) (by simpa using hne)
      · rw [if_neg hc]
        split
        · next e =>
          rw [← e, hr, covers_some, covers_some]
          exact iff_of_false hc hb
        · rfl
  · by_cases hb : run.base ≤ b ∧ b < run.base + run.len
    · rw [if_pos hb]
      refine iff_of_false ?_ (by simp)
      split
      · exact covers_none b
      · exact h.not_covers_target (hold b hb.1 hb.2) (by simp)
    · rw [if_neg hb]
      by_cases hc : target.base ≤ b ∧ b < target.base + target.len
      · rw [if_pos hc]
        refine iff_of_false ?_ (by simp)
        split
        · exact covers_none b
        · next hne => exact h.not_covers_target (htarget b hc.1 hc.2) (by simpa using hne)
      · rw [if_neg hc]
        split
        · next e =>
          rw [← e, ht, covers_some]
          exact iff_of_false (covers_none b) hc
        · rfl

/-- The target run becomes the run (R120). -/
theorem completeMove (h : s.PoolLaw) (r : RecordNo) : (s.completeMove r).PoolLaw := by
  refine of_quiet (s.completeMove_quiet r) ?_
  rcases s.swapRuns_cases r with ⟨-, e⟩ | ⟨target, ht, e⟩
  · rw [e]
    exact h.setEngine h.scrubbing
  · obtain ⟨run, hr, h1, h256, h512⟩ := h.moving_of_target ht
    obtain ⟨hagrees, hscrubs⟩ := h.swapped_agrees hr ht
    rw [e, hr]
    refine (State.poolLaw_iff _).2 ⟨fun r' => ?_, hagrees.congr (fun r' b => ?_) (fun r' b => ?_), hscrubs⟩
    all_goals
      rw [State.lease_setEngine, State.lease_setLease]
      split
    · exact ⟨(nomatch ·), fun _ => ⟨target, rfl, h1, h256, h512⟩, (nomatch ·), fun _ => rfl⟩
    · exact h.placed r'
    all_goals rfl

end State.PoolLaw

/-- Every operation keeps the law of the pool. -/
theorem leaseOps_poolLaw : LeaseOps State.PoolLaw where
  quiet := State.PoolLaw.of_quiet
  choose hs := hs.chooseStep
  written {s} r w hs := by
    have hp := hs.placed r
    exact hs.setLease ⟨hp.free, hp.live, hp.moving, hp.still⟩ rfl rfl
  acquire {s} m r mode hs hl hg := by
    refine hs.setLease_samePlace hl ⟨rfl, rfl, by simp [Lease.grantedNow], ?_⟩
    unfold State.grantableNow at hg
    simp only [Bool.and_eq_true, Bool.or_eq_true, beq_iff_eq] at hg
    rcases hg with ⟨-, e | ⟨⟨e, -⟩, -⟩⟩ <;> simp [Lease.grantedNow, e]
  convert m r mode hs hl _ _ _ := hs.setLease_samePlace hl ⟨rfl, rfl, hl, Iff.rfl⟩
  pass r hs hl := hs.grantPass hl
  leave m r hs hl _ _ := (hs.leave hl m).1.settle (hs.leave hl m).2
  abandon r reason hs hm := hs.abandonMove hm reason
  endSession m reason hs := hs.endSession m reason
  retire r cause hs hl := hs.retire hl cause
  shrink r dir run len hs hm hr h1 hlt := hs.shrinkLease dir hm hr h1 hlt
  grow r dir run added grown len hs hl hm hr hlt hle hg := hs.growLease hl hm hr hlt hle hg
  startMove m r dir run target len hs hl _ hn hr hlt hle hf := hs.startMove hl hn hr hlt hle hf
  completeMove r hs := hs.completeMove r
  freeBlock {s} b hs hstep hblock := by
    have hin : ∀ c, b.val ≤ c ∧ c < b.val + 1 → s.block c = some .scrub := by
      intro c hc
      have : c = b.val := by omega
      exact this ▸ hs.scrubbing b hstep hblock
    refine hs.restretch (t := (s.setPool (s.pool.freeBlock b)).setEngine s.engine.endScrub) (r := 0)
      (run := { base := b.val, len := 1 }) (x := .free) (y := .scrub) (l := s.lease 0) (fun r' => ?_) (hs.placed 0)
      (Table.set_eq_setRun _ _ _) (fun c h1 h2 => ?_) (BlockState.onlyOf_free 0) (BlockState.onlyOf_scrub 0)
      (fun c => ?_) (fun c => ?_) (by simp [Pool.freeBlock]) (by simp [Pool.freeBlock]) (fun _ _ e => nomatch e)
    · split
      · next e => exact e ▸ rfl
      · rfl
    · exact hin c ⟨h1, h2⟩
    · split
      · next hc => exact iff_of_false (hs.not_covers_run (hin c hc) (by simp)) (by simp)
      · rfl
    · split
      · next hc => exact iff_of_false (hs.not_covers_target (hin c hc) (by simp)) (by simp)
      · rfl
  resetAll {s} _ := by
    refine (show (resetAllBody s).1.AllFree from fun r => ⟨_, State.resetAllBody_lease s r⟩).poolLaw ?_
    have hp : (resetAllBody s).1.pool = Pool.atReset s.pool.watermark := by
      unfold resetAllBody
      exact State.wakeEngine_pool _
    constructor <;> rw [hp] <;> rfl

/-- Settles O58. -/
theorem stepKeepsThePool : Obligations.StepKeepsThePool := fun _ _ ht hs =>
  leaseOps_poolLaw.step (fun m _ _ hs hr _ hlen hrun => hs.createLease m hr hlen hrun)
    (fun s => s.systemReset_atReset.allFree.poolLaw s.systemReset_atReset.allScrub) ht hs

end Sys2Proof.Machine
end

section
/-! ### What a completed move leaves of the data (R10, R115 to R117) -/

namespace Sys2Proof.Machine

/-- The last burst of a move in flight, in a card that keeps its laws: the record, its run and its target run. -/
structure State.LastBurst (s : State) (r : RecordNo) (run target : Run) : Prop where
  law : s.MoveLaw
  record : s.engine.mover.record = some r
  step : s.engine.step = some .copy
  bursts : s.engine.mover.burstsDone = 63
  blocks : s.engine.mover.blocksCopied + 1 = run.len
  hasRun : (s.lease r).run = some run
  hasTarget : (s.lease r).target = some target
  longer : run.len < target.len
  short : target.len ≤ 256

/-- A lease on its target run (R120). -/
def Lease.onTarget (l : Lease) (target : Run) : Lease := { l with state := .held, run := some target, target := none }

theorem Lease.length_eq {l : Lease} {run : Run} (h : l.run = some run) : l.length = run.len := by
  unfold Lease.length; rw [h]

theorem Lease.sourceBlock_eq {l : Lease} {run : Run} (h : l.run = some run) (i : Nat) :
    l.sourceBlock i = run.base + i := by
  unfold Lease.sourceBlock; rw [h]

theorem Lease.targetBlock_up {l : Lease} {target : Run} (h : l.target = some target) (hd : l.direction = some .up)
    (i : Nat) : l.targetBlock i = target.base + i := by
  unfold Lease.targetBlock; rw [h, hd]

theorem Lease.targetBlock_down {l : Lease} {run target : Run} (hr : l.run = some run) (h : l.target = some target)
    (hd : l.direction = some .down) (i : Nat) : l.targetBlock i = target.base + (target.len - run.len) + i := by
  unfold Lease.targetBlock; rw [h, hd, Lease.length_eq hr]

/-- The target blocks follow one another as the blocks of the run do (R115). -/
theorem Lease.targetBlock_add (l : Lease) (i : Nat) : l.targetBlock i = l.targetBlock 0 + i := by
  unfold Lease.targetBlock
  split <;> omega

/-- Completion of a move leaves SRAM and the access at the port. -/
theorem State.completeMove_frame (s : State) (r : RecordNo) :
    (s.completeMove r).sram = s.sram ∧ (s.completeMove r).portWait = s.portWait := by
  have hswap : (s.swapRuns r).sram = s.sram ∧ (s.swapRuns r).portWait = s.portWait := by
    rcases s.swapRuns_cases r with ⟨-, e⟩ | ⟨target, -, e⟩
    · rw [e]; exact ⟨rfl, rfl⟩
    · rw [e]; cases (s.lease r).run <;> exact ⟨rfl, rfl⟩
  unfold State.completeMove
  obtain ⟨x, hx⟩ := (s.swapRuns r).addOwnedBy_frame (s.lease r).owner 0
    ((s.lease r).targetLength - (s.lease r).length)
  obtain ⟨b, hb⟩ := State.forMasters_frame
    (((s.swapRuns r).addOwnedBy (s.lease r).owner 0 ((s.lease r).targetLength - (s.lease r).length)).setEngine
      s.engine.endMove) (s.lease r).holders
    (fun s' m => s'.endMove m
      { handle := s.handle r, result := some .done, reason := .none, length := (s.lease r).targetLength })
    fun _ _ => ⟨_, rfl⟩
  rw [hb, hx]
  exact hswap

/-- The record of a completed move is on its target run (R120). -/
theorem State.completeMove_lease {s : State} {r : RecordNo} {target : Run} (h : (s.lease r).target = some target) :
    (s.completeMove r).lease r = (s.lease r).onTarget target := by
  rw [(s.completeMove_quiet r).lease, State.lease_setEngine]
  rcases s.swapRuns_cases r with ⟨hn, -⟩ | ⟨target', ht, e⟩
  · rw [hn] at h; cases h
  · cases h.symm.trans ht
    rw [e, State.lease_setLease_self]
    rfl

/-- A MOVE_COMPLETION that changes the card ends the last burst of the move: the burst is copied and the record goes on
its target run. -/
theorem moveCompletion_effect {s t : State} {r : RecordNo} (law : s.MoveLaw) (hw : s.portWait = none)
    (hr : s.engine.mover.record = some r) (ht : exec .moveCompletion s = .next t) (hne : t ≠ s) :
    ∃ run target, s.LastBurst r run target ∧ t.sram = (s.moverBurst r).sram ∧
      t.lease r = (s.lease r).onTarget target := by
  have hm := law.zero.mover r hr
  obtain ⟨run, hrun, -⟩ := law.zero.pool.live r (by simp [hm])
  obtain ⟨target, htarget, hlonger, h256, -⟩ := law.zero.pool.moving r hm
  have hfits := law.fits r hr
  rw [Lease.length_eq hrun] at hlonger hfits
  change execMoveCompletion s = .next t at ht
  unfold execMoveCompletion at ht
  split at ht
  · next r' hstep hr' =>
    cases hr.symm.trans hr'
    split at ht
    · next hlast =>
      rw [Bool.and_eq_true] at hlast
      obtain ⟨h1, h2⟩ := hlast
      unfold lastBurst at h1
      unfold State.lastCopyStep at h2
      rw [decide_eq_true_eq, Lease.length_eq hrun] at h2
      have h63 : s.engine.mover.burstsDone = 63 := by
        have : s.engine.mover.burstsDone + 1 = 64 := by simpa [Config.burstsPerBlock] using h1
        omega
      have hquiet : (s.moverBurst r).portWait = s.portWait := State.setSram_portWait _ _
      obtain ⟨hsram, hport⟩ := (s.moverBurst r).completeMove_frame r
      rw [State.servePort_none (by rw [State.chooseStep_portWait, hport, hquiet, hw])] at ht
      cases ht
      refine ⟨run, target, ⟨law, hr, hstep, h63, by omega, hrun, htarget, hlonger, h256⟩, ?_, ?_⟩
      · rw [State.chooseStep_sram, hsram]
      · have hlease := (s.moverBurst_quiet r).lease r
        rw [State.lease_chooseStep, State.completeMove_lease (target := target) (by rw [hlease]; exact htarget), hlease]
    · cases ht; exact absurd rfl hne
  · cases ht; exact absurd rfl hne

namespace State.LastBurst

variable {s : State} {r : RecordNo} {run target : Run} (h : s.LastBurst r run target)
include h

/-- The bytes of SRAM after the last burst: 64 bytes of the last target block are the source's (R116). -/
theorem read_moverBurst (x : Nat) :
    (s.moverBurst r).byteAt x =
      if (s.lease r).targetBlock (run.len - 1) * 4096 + 4032 ≤ x ∧
          x < (s.lease r).targetBlock (run.len - 1) * 4096 + 4096 then
        s.byteAt ((s.lease r).sourceBlock (run.len - 1) * 4096 + 4032 +
          (x - ((s.lease r).targetBlock (run.len - 1) * 4096 + 4032)))
      else s.byteAt x := by
  have hb : s.engine.mover.blocksCopied = run.len - 1 := by have := h.blocks; omega
  have hr := Memory.read_copy h.law.zero.sram ((s.lease r).sourceBlock (run.len - 1) * 4096 + 4032)
    ((s.lease r).targetBlock (run.len - 1) * 4096 + 4032) 64 x
  unfold State.byteAt State.moverBurst State.copyBurst
  rw [State.setSram_sram, h.bursts, hb]
  exact hr

/-- After the last burst every block of the run has its data in its target block (R115, R116). -/
theorem copied {i j : Nat} (hi : i < run.len) (hj : j < 4096) :
    (s.moverBurst r).byteAt ((s.lease r).targetBlock i * 4096 + j) =
      s.byteAt ((s.lease r).sourceBlock i * 4096 + j) := by
  have hb := h.blocks
  have hti := (s.lease r).targetBlock_add i
  have htn := (s.lease r).targetBlock_add (run.len - 1)
  rw [h.read_moverBurst]
  by_cases hlast : i = run.len - 1
  · subst hlast
    by_cases hburst : 4032 ≤ j
    · rw [if_pos (by omega)]
      exact congrArg s.byteAt (by omega)
    · rw [if_neg (by omega)]
      have := h.law.copying r j h.record h.step (by rw [h.bursts]; omega)
      rwa [show s.engine.mover.blocksCopied = run.len - 1 by omega] at this
  · rw [if_neg (by omega)]
    exact h.law.copied r i j h.record (by omega) hj

/-- After the last burst the blocks that the move adds hold zeros (R115). -/
theorem added {b j : Nat} (h1 : target.base ≤ b) (h2 : b < target.base + target.len) (hj : j < 4096)
    (hb : ∀ i, i < run.len → b ≠ (s.lease r).targetBlock i) : (s.moverBurst r).byteAt (b * 4096 + j) = 0 := by
  have hne := hb (run.len - 1) (by have := h.blocks; omega)
  rw [h.read_moverBurst, if_neg (by omega)]
  exact h.law.added r target b j h.record h.hasTarget h1 h2 hj fun i hi => hb i (Lease.length_eq h.hasRun ▸ hi)

/-- An offset that reaches byte `j` of block `i` of the run reaches byte `j` of its target block on the new run
(R10, R115). -/
theorem reaches_onTarget {offset a : Nat} (ha : (s.lease r).Reaches offset a) :
    ∃ i, i < run.len ∧ a = (s.lease r).sourceBlock i * 4096 + offset % 4096 ∧
      ((s.lease r).onTarget target).Reaches offset ((s.lease r).targetBlock i * 4096 + offset % 4096) := by
  have hlonger := h.longer
  have hshort := h.short
  obtain ⟨run', hrun', hcase⟩ := ha
  cases h.hasRun.symm.trans hrun'
  rcases hcase with ⟨hd, hlt, rfl⟩ | ⟨hd, hge, hlt, rfl⟩
  · have hblock : offset / 4096 < run.len := by omega
    have hvalid : offset < target.len * 4096 := hlt.trans_le (Nat.mul_le_mul_right 4096 hlonger.le)
    refine ⟨offset / 4096, hblock, ?_, target, rfl, .inl ⟨hd, hvalid, ?_⟩⟩
    · rw [Lease.sourceBlock_eq h.hasRun]
    · rw [Lease.targetBlock_up h.hasTarget hd]
  · have hblock : run.len + offset / 4096 - 256 < run.len := by omega
    have hvalid : 1048576 - target.len * 4096 ≤ offset :=
      (Nat.sub_le_sub_left (Nat.mul_le_mul_right 4096 hlonger.le) _).trans hge
    have hsource : run.base + run.len + offset / 4096 - 256 = run.base + (run.len + offset / 4096 - 256) := by omega
    have htarget : target.base + (target.len - run.len) + (run.len + offset / 4096 - 256) =
        target.base + target.len + offset / 4096 - 256 := by omega
    refine ⟨run.len + offset / 4096 - 256, hblock, ?_, target, rfl, .inr ⟨hd, hvalid, hlt, ?_⟩⟩
    · rw [Lease.sourceBlock_eq h.hasRun, hsource]
    · rw [Lease.targetBlock_down h.hasRun h.hasTarget hd, htarget]

/-- An offset that is valid on the new run and was not on the old one reaches a byte of a block that the move adds
(R10, R115). -/
theorem reaches_added {offset a : Nat} (ha : ((s.lease r).onTarget target).Reaches offset a)
    (hn : ∀ a, ¬ (s.lease r).Reaches offset a) :
    ∃ b, a = b * 4096 + offset % 4096 ∧ target.base ≤ b ∧ b < target.base + target.len ∧
      ∀ i, i < run.len → b ≠ (s.lease r).targetBlock i := by
  have hlonger := h.longer
  have hshort := h.short
  obtain ⟨target', ht', hcase⟩ := ha
  cases ht'
  rcases hcase with ⟨hd, hlt, rfl⟩ | ⟨hd, hge, hlt, rfl⟩
  · have hout : ¬ offset < run.len * 4096 := fun hin => hn _ ⟨run, h.hasRun, .inl ⟨hd, hin, rfl⟩⟩
    refine ⟨_, rfl, by omega, by omega, fun i hi => ?_⟩
    rw [Lease.targetBlock_up h.hasTarget hd]; omega
  · have hout : ¬ 1048576 - run.len * 4096 ≤ offset := fun hin => hn _ ⟨run, h.hasRun, .inr ⟨hd, hin, hlt, rfl⟩⟩
    refine ⟨_, rfl, by omega, by omega, fun i hi => ?_⟩
    rw [Lease.targetBlock_down h.hasRun h.hasTarget hd]; omega

end State.LastBurst

/-- Settles O38: the offset reaches the paired block on the new run, or a block that the move adds. -/
theorem moveKeepsEveryOffsetsData : Obligations.MoveKeepsEveryOffsetsData := by
  intro s t r law hw hr ht hne
  obtain ⟨run, target, h, hsram, hlease⟩ := moveCompletion_effect law hw hr ht hne
  have hbyte : ∀ x, t.byteAt x = (s.moverBurst r).byteAt x := fun x => by unfold State.byteAt; rw [hsram]
  rw [hlease]
  constructor
  · intro offset a ha
    obtain ⟨i, hi, rfl, hreach⟩ := h.reaches_onTarget ha
    exact ⟨_, hreach, (hbyte _).trans (h.copied hi (Nat.mod_lt _ (by decide)))⟩
  · intro offset a ha hn
    obtain ⟨b, rfl, h1, h2, hb⟩ := h.reaches_added ha hn
    exact (hbyte _).trans (h.added h1 h2 (Nat.mod_lt _ (by decide)) hb)

end Sys2Proof.Machine
end

section
/-! ### What a command other than a data access, a burst end or a system reset can do to the port, the mailboxes, the
policy and the memory engine

`LeaseOps` looks past all of these but the block step. `CardOps` lists the same commands' operations with them in view. -/

namespace Sys2Proof.Machine

open Host (Outcome)

/-- The law of mailboxes, for one mailbox (R151, R158, R163). -/
structure Mailbox.Lawful (b : Mailbox) : Prop where
  pending : b.state = .pending → b.answer = .none ∧ b.answer0 = 0 ∧ b.answer1 = 0
  count : b.lostRecord.count ≤ 15
  clear : b.events.getLsbD 3 = false → b.lostRecord.handle = 0 ∧ b.lostRecord.count = 0

/-- The ranges of a stored policy (R175). -/
structure Policy.Lawful (p : Policy) : Prop where
  leaseQuota : p.leaseQuota ≤ 40
  blockQuota : p.blockQuota ≤ 512

theorem State.mailboxLaw_iff (s : State) : s.MailboxLaw ↔ ∀ m, (s.mailbox m).Lawful :=
  ⟨fun h m => ⟨(h m).1, (h m).2.1, (h m).2.2⟩, fun h m => ⟨(h m).pending, (h m).count, (h m).clear⟩⟩

theorem State.policyLaw_iff (s : State) : s.PolicyLaw ↔ s.pool.watermark ≤ 511 ∧ ∀ m, (s.policy m).Lawful :=
  ⟨fun h => ⟨h.1, fun m => ⟨(h.2 m).1, (h.2 m).2⟩⟩, fun h => ⟨h.1, fun m => ⟨(h.2 m).leaseQuota, (h.2 m).blockQuota⟩⟩⟩

/-! #### What is done to a mailbox -/

namespace Mailbox.Lawful

variable {b : Mailbox}

/-- Raising a flag leaves LOST set where it was. -/
theorem raise (h : b.Lawful) (f : EventFlag) : (b.raise f).Lawful where
  pending := h.pending
  count := h.count
  clear hc := by
    unfold Mailbox.raise at hc
    rw [BitVec.getLsbD_or, Bool.or_eq_false_iff] at hc
    exact h.clear hc.1

/-- Fields other than the LOST record and the flags change; a PENDING mailbox stays cleared. -/
theorem edit {b' : Mailbox} (h : b.Lawful)
    (pending : b'.state = .pending → b'.answer = .none ∧ b'.answer0 = 0 ∧ b'.answer1 = 0)
    (lostRecord : b'.lostRecord = b.lostRecord) (events : b'.events = b.events) : b'.Lawful where
  pending := pending
  count := lostRecord ▸ h.count
  clear hc := lostRecord ▸ h.clear (events ▸ hc)

/-- A post clears the answer (R151, R158). -/
theorem writeReq (h : b.Lawful) (value : Word) : (b.writeReq value).Lawful := by
  unfold Mailbox.writeReq
  split
  · exact h.raise _
  · exact ⟨fun _ => ⟨rfl, rfl, rfl⟩, h.count, h.clear⟩

theorem writeParam (h : b.Lawful) (which : ParamWord) (value : Word) : (b.writeParam which value).Lawful := by
  unfold Mailbox.writeParam
  split
  · exact h.raise _
  · cases which <;> exact ⟨h.pending, h.count, h.clear⟩

/-- Clearing LOST empties the LOST record (R163). -/
theorem clearEvents (h : b.Lawful) (value : Word) : (b.clearEvents value).Lawful := by
  unfold Mailbox.clearEvents
  refine ⟨h.pending, ?_, fun hc => ?_⟩
  all_goals
    dsimp only
    split
  · exact h.count
  · exact Nat.zero_le _
  · next hk =>
    rw [BitVec.getLsbD_and, Bool.and_eq_false_iff] at hc
    exact h.clear (hc.resolve_right fun hn => by rw [show EventFlag.lost.position = 3 from rfl, hn] at hk; cases hk)
  · exact ⟨rfl, rfl⟩

/-- A refused access touches the fault record and its flags only (R145). -/
theorem recordFault (h : b.Lawful) (record : FaultRecord) : (b.recordFault record).Lawful := by
  unfold Mailbox.recordFault
  split
  · exact h.raise _
  · refine raise (b := { b with faultRecord := record }) ?_ .fault
    exact h.edit h.pending rfl rfl

theorem cleared (enables : BitVec 8) : (Mailbox.cleared enables).Lawful :=
  ⟨fun _ => ⟨rfl, rfl, rfl⟩, Nat.zero_le _, fun _ => ⟨rfl, rfl⟩⟩

end Mailbox.Lawful

/-- A mailbox with LOST set and a count within its bound (R163). -/
theorem Mailbox.lawful_of_lost {b : Mailbox} (state : b.state = .pending → b.answer = .none ∧ b.answer0 = 0 ∧ b.answer1 = 0)
    (count : b.lostRecord.count ≤ 15) : (b.raise .lost).Lawful := by
  refine ⟨state, count, fun hc => ?_⟩
  unfold Mailbox.raise at hc
  rw [BitVec.getLsbD_or, Bool.or_eq_false_iff] at hc
  exact absurd hc.2 (by decide)

/-! #### Changes that none of these see -/

/-- A card with the records, the mailboxes, the policy, the pool, the engine, the port and SRAM of another. -/
def State.Same (t s : State) : Prop :=
  t = { s with
    queue := t.queue, sessions := t.sessions, apertures := t.apertures, ticks := t.ticks, lastServed := t.lastServed
    slot := t.slot, supervisor := t.supervisor, snapshot := t.snapshot, link := t.link, jumpers := t.jumpers
    busAnswer := t.busAnswer, resets := t.resets, pending := t.pending }

/-- The operations that commands other than data accesses, burst ends and system reset are made of, each with what its
command has checked, and a property of the card that each of them keeps. -/
structure CardOps (P : State → Prop) : Prop where
  /-- What is none of the fields in view. -/
  unseen : ∀ {s t : State}, P s → t.Same s → P t
  /-- A mailbox changes within its law. -/
  mail : ∀ {s : State} (m : Master) (b : Mailbox), P s → ((s.mailbox m).Lawful → b.Lawful) → P (s.setMailbox m b)
  /-- A policy is stored (R175). -/
  policy : ∀ {s : State} (m : Master) (p : Policy), P s → ((s.policy m).Lawful → p.Lawful) → P (s.setPolicy m p)
  /-- The watermark is stored (R176). -/
  watermark : ∀ {s : State} (w : Nat), P s → w ≤ 511 → P (s.setPool { s.pool with watermark := w })
  /-- An idle engine chooses (R42). -/
  choose : ∀ {s : State}, P s → s.engine.step = none → P s.chooseStep
  /-- A live record changes and stays on its runs. -/
  rewrite : ∀ {s : State} (r : RecordNo) (l : Lease), P s → (s.lease r).state ≠ .free → l.SamePlace (s.lease r) →
    P (s.setLease r l)
  /-- A grant pass runs (R97). -/
  pass : ∀ {s : State} (r : RecordNo), P s → (s.lease r).state ≠ .free → P (s.grantPass r)
  /-- A holder leaves a lease, which goes the way of its fate (R17, R89). -/
  leave : ∀ {s : State} (m : Master) (r : RecordNo), P s → (s.lease r).holders.mem m = true →
    P ((s.leave r m).settle r)
  /-- A move is abandoned (R122). -/
  abandon : ∀ {s : State} (r : RecordNo) (reason : MoveReason), P s → (s.lease r).state = .moving →
    P (s.abandonMove r reason)
  /-- A lease is retired (R20). -/
  retire : ∀ {s : State} (r : RecordNo) (cause : RetireCause), P s → (s.lease r).state ≠ .free → P (s.retire r cause)
  /-- CREATE makes a lease (R69). -/
  create : ∀ {s : State} (m : Master) (r : RecordNo) (dir : Direction) (len : Nat) (run : Run), P s →
    s.firstFree = some r → legalLength len = true → s.pool.findRun dir len = some run → P (s.createLease m r run)
  /-- RESIZE shrinks (R109). -/
  shrink : ∀ {s : State} (r : RecordNo) (dir : Direction) (run : Run) (len : Nat), P s → (s.lease r).state ≠ .moving →
    (s.lease r).run = some run → 1 ≤ len → len < run.len → P (s.shrinkLease r dir run len)
  /-- RESIZE grows in place (R111). -/
  grow : ∀ {s : State} (r : RecordNo) (dir : Direction) (run added grown : Run) (len : Nat), P s →
    (s.lease r).state ≠ .free → (s.lease r).state ≠ .moving → (s.lease r).run = some run → run.len < len → len ≤ 256 →
    s.pool.growthInPlace dir run len = some (added, grown) → P (s.growLease r added grown)
  /-- RESIZE starts a move (R113). -/
  startMove : ∀ {s : State} (r : RecordNo) (dir : Direction) (run target : Run) (len : Nat), P s →
    (s.lease r).state ≠ .free → s.movingRecord = none → (s.lease r).run = some run → run.len < len → len ≤ 256 →
    s.pool.findRun dir len = some target → P (s.startMove r target)
  /-- RESET-ALL (R184). -/
  resetAll : ∀ {s : State}, P s → P (resetAllBody s).1

namespace CardOps

variable {P : State → Prop} (h : CardOps P)
include h

/-! #### Shared operations -/

theorem wake {s : State} (hs : P s) : P s.wakeEngine := by
  unfold State.wakeEngine
  split
  · next hn => exact h.choose hs hn
  · exact hs

theorem raise {s : State} (m : Master) (f : EventFlag) (hs : P s) : P (s.raise m f) :=
  h.mail m _ hs fun hb => hb.raise f

theorem endWait {s : State} (m : Master) (record : WaitRecord) (hs : P s) : P (s.endWait m record) := by
  refine h.mail m _ hs fun hb => Mailbox.Lawful.raise ?_ .waitEnd
  exact hb.edit hb.pending rfl rfl

theorem removeEntry {s : State} (e : WaitEntry) (hs : P s) : P (s.removeEntry e) := by
  have hq : P (s.setQueue (dropFromQueue s.queue e.master e.handle)) := h.unseen hs rfl
  unfold State.removeEntry
  dsimp only
  split
  · split
    · next r hr => exact h.pass r hq ((s.validate_iff _ _).1 hr).live
    · exact hq
  · exact hq

/-- A session ends: an entry is removed, a move abandoned, the master's leases left, and the notices given (R53). -/
theorem endSession {s : State} (m : Master) (reason : EndReason) (hs : P s) : P (s.endSession m reason) := by
  have h1 : P (s.endStage1 m) := by
    unfold State.endStage1
    split
    · exact h.removeEntry _ hs
    · exact hs
  have h2 : P ((s.endStage1 m).endStage2 m) := by
    unfold State.endStage2
    split
    · next r hr =>
      split
      · exact h.abandon r _ h1 (State.movingRecord_moving hr)
      · exact h1
    · exact h1
  have h3 : P (((s.endStage1 m).endStage2 m).endStage3 m) := by
    refine List.foldlRecOn _ _ h2 fun u hu r _ => ?_
    unfold State.endHold
    split
    · next hm => exact h.leave m r hu hm
    · exact hu
  have h5 : P (((((s.endStage1 m).endStage2 m).endStage3 m).unbindMaster m).closeSession m reason) := h.unseen h3 rfl
  unfold State.endSession State.endNotices
  split
  · exact h.unseen (h.raise m .sessionEnd h5) rfl
  · exact h.raise m .sessionEnd h5
  · exact h5

/-! #### Takes -/

/-- An answered mailbox is DONE (R154). -/
theorem answer {s : State} (m : Master) (a : Answer) (hs : P s) : P (s.answer m a) := by
  refine h.unseen (h.mail m _ hs fun hb => Mailbox.Lawful.raise ?_ .done) rfl
  exact hb.edit (fun e => nomatch e) rfl rfl

theorem takeRequest {q : Request} {carryOut : State → Master → State × Answer} {s t : State}
    (hb : ∀ s m, P s → P (carryOut s m).1) (ht : takeRequest q carryOut s = .next t) (hs : P s) : P t := by
  unfold Machine.takeRequest at ht
  split at ht
  · next m _ =>
    split at ht
    · cases ht
      exact h.answer m _ (hb s m hs)
    · cases ht; exact hs
  · cases ht; exact hs

theorem takeSupervisor {c : SupervisorCommand} {carryOut : State → State × AnswerCode} {s t : State}
    (hb : ∀ s, P s → P (carryOut s).1) (ht : takeSupervisor c carryOut s = .next t) (hs : P s) : P t := by
  unfold Machine.takeSupervisor at ht
  split at ht
  · split at ht
    · cases ht
      exact h.unseen (hb _ hs) rfl
    · cases ht; exact hs
  · cases ht; exact hs

theorem withSession {carryOut : State → Master → State × Answer} (hb : ∀ s m, P s → P (carryOut s m).1)
    (s : State) (m : Master) (hs : P s) : P (withSession carryOut s m).1 := by
  unfold Machine.withSession
  split
  · exact hb _ _ (h.unseen hs rfl)
  · exact hs

/-- A request of an open session that names a lease keeps the property when its body does. -/
theorem takeOnLease {q : Request} {carryOut : State → Master → RecordNo → State × Answer} {s t : State}
    (hb : ∀ s m r, P s → (s.lease r).state ≠ .free → P (carryOut s m r).1)
    (ht : Machine.takeRequest q (Machine.withSession (Machine.withLease carryOut)) s = .next t) (hs : P s) : P t :=
  h.takeRequest (h.withSession (LeaseOps.withLease hb)) ht hs

/-! #### Requests -/

theorem openBody (s : State) (m : Master) (hs : P s) : P (openBody s m).1 := by
  have hr : P (s.renewIfOpen m) := by
    unfold State.renewIfOpen
    split
    · exact h.unseen hs rfl
    · exact hs
  unfold Machine.openBody
  dsimp only
  split
  · exact hr
  · split
    · exact hr
    · split
      · exact h.unseen (h.wake (h.endSession m .reopened hs)) rfl
      · exact h.unseen hs rfl

theorem closeBody (s : State) (m : Master) (hs : P s) : P (closeBody s m).1 := by
  unfold Machine.closeBody
  split
  · exact h.wake (h.endSession m .closed hs)
  · exact hs

/-- Only the answer that follows the last check creates a lease. -/
theorem createBody (s : State) (m : Master) (hs : P s) : P (createBody s m).1 := by
  unfold Machine.createBody
  dsimp only
  split
  · exact h.unseen hs rfl
  · next r hr =>
    split
    · exact hs
    · split
      · exact hs
      · next hlen =>
        split
        · exact hs
        · split
          · exact hs
          · split
            · exact hs
            · next run hrun => exact h.create m r _ _ run hs hr (Bool.eq_true_of_not_eq_false hlen) hrun

theorem markBody (s : State) (m : Master) (r : RecordNo) (hs : P s) (hl : (s.lease r).state ≠ .free) :
    P (markBody s m r).1 := by
  unfold Machine.markBody
  dsimp only
  split
  · exact hs
  · split
    · exact hs
    · exact h.rewrite r _ hs hl ⟨rfl, rfl, hl, Iff.rfl⟩

theorem retireBody (s : State) (m : Master) (r : RecordNo) (hs : P s) (hl : (s.lease r).state ≠ .free) :
    P (retireBody s m r).1 := by
  unfold Machine.retireBody
  dsimp only
  split
  · exact hs
  · split
    · exact hs
    · split
      · exact h.wake (h.retire r .byOwner hs hl)
      · exact hs

omit h in
/-- ACQUIRE grants a lease that is IDLE or HELD, and leaves it on its runs (R86). -/
theorem samePlace_grantedNow {s : State} {r : RecordNo} {mode : Mode} (hg : s.grantableNow r mode = true) (m : Master) :
    ((s.lease r).grantedNow m mode).SamePlace (s.lease r) := by
  refine ⟨rfl, rfl, by simp [Lease.grantedNow], ?_⟩
  unfold State.grantableNow at hg
  simp only [Bool.and_eq_true, Bool.or_eq_true, beq_iff_eq] at hg
  rcases hg with ⟨-, e | ⟨⟨e, -⟩, -⟩⟩ <;> simp [Lease.grantedNow, e]

theorem acquireBody (s : State) (m : Master) (r : RecordNo) (hs : P s) (hl : (s.lease r).state ≠ .free) :
    P (acquireBody s m r).1 := by
  unfold Machine.acquireBody
  dsimp only
  split
  · exact hs
  · split
    · exact hs
    · split
      · exact hs
      · split
        · next hg => exact h.rewrite r _ hs hl (samePlace_grantedNow hg m)
        · split
          · exact hs
          · split
            · exact hs
            · exact h.unseen hs rfl

/-- The first stages of RELEASE leave the record live and with its holders (R89). -/
theorem releaseBody (s : State) (m : Master) (r : RecordNo) (hs : P s) : P (releaseBody s m r).1 := by
  unfold Machine.releaseBody
  split
  · exact hs
  · next hm =>
    have hmove : P (s.releaseMove r) := by
      unfold State.releaseMove
      split
      · next hv => exact h.abandon r .released hs hv
      · exact hs
    have hcancel : P ((s.releaseMove r).cancelUpgrade m (s.handle r)) := by
      unfold State.cancelUpgrade
      split
      · split
        · exact h.endWait _ _ (h.unseen hmove rfl)
        · exact hmove
      · exact hmove
    have hlease := (((s.releaseMove r).releaseNotices_quiet m (s.handle r) (s.handle r)).lease r).trans
      (s.releaseMove_lease r)
    dsimp only
    rw [State.releaseUpToPass_grantPass]
    refine h.wake (h.leave m r (h.unseen hcancel rfl) ?_)
    rw [hlease, Lease.unmoved_holders]
    simpa using hm

theorem convertBody (s : State) (m : Master) (r : RecordNo) (hs : P s) (hl : (s.lease r).state ≠ .free) :
    P (convertBody s m r).1 := by
  have hmode : ∀ mode, P (s.setLease r { s.lease r with mode := some mode }) :=
    fun mode => h.rewrite r _ hs hl ⟨rfl, rfl, hl, Iff.rfl⟩
  unfold Machine.convertBody
  dsimp only
  split
  · exact hs
  · split
    · exact hs
    · split
      · exact hs
      · split
        · exact hs
        · split
          · refine h.pass r (hmode _) ?_
            rw [State.lease_setLease_self]; exact hl
          · split
            · exact hmode _
            · unfold queuedUpgrade
              split
              · exact hs
              · split
                · exact hs
                · split
                  · exact hs
                  · exact h.unseen hs rfl

theorem cancelBody (s : State) (m : Master) (hs : P s) : P (cancelBody s m).1 := by
  unfold Machine.cancelBody
  split
  · exact hs
  · exact h.removeEntry _ hs

theorem growBody {s : State} {r : RecordNo} {dir : Direction} {run : Run} {len : Nat} (hs : P s)
    (hl : (s.lease r).state ≠ .free) (hv : (s.lease r).state ≠ .moving) (hr : (s.lease r).run = some run)
    (hlt : run.len < len) (hle : len ≤ 256) : P (growBody s r dir run len).1 := by
  unfold Machine.growBody
  split
  · exact hs
  · split
    · next hg => exact h.grow r dir run _ _ len hs hl hv hr hlt hle hg
    · unfold growByMove
      split
      · exact hs
      · next hn =>
        split
        · exact hs
        · next hf => exact h.wake (h.startMove r dir run _ len hs hl hn hr hlt hle hf)

theorem resizeBody (s : State) (m : Master) (r : RecordNo) (hs : P s) (hl : (s.lease r).state ≠ .free) :
    P (resizeBody s m r).1 := by
  unfold Machine.resizeBody
  dsimp only
  split
  · exact hs
  · split
    · exact hs
    · next hv =>
      split
      · exact hs
      · next hlen =>
        obtain ⟨h1, h2⟩ := (legalLength_iff _).1 (Bool.eq_true_of_not_eq_false hlen)
        split
        · next run dir hr _ =>
          split
          · exact hs
          · split
            · next hlt => exact h.wake (h.shrink r dir run _ hs hv hr h1 hlt)
            · exact h.growBody hs hl hv hr (by omega) h2
        · exact hs

theorem bindBody (s : State) (m : Master) (r : RecordNo) (hs : P s) : P (bindBody s m r).1 := by
  unfold Machine.bindBody
  dsimp only
  split
  · exact hs
  · exact h.unseen hs rfl

/-! #### Ticks -/

theorem sessionTick {s : State} (hs : P s) : P s.sessionTick := by
  have hc : P s.countSessions := h.unseen hs rfl
  unfold State.sessionTick State.lapseAll
  split
  · exact hc
  · exact h.wake (List.foldlRecOn _ _ hc fun s hs m _ => h.endSession m .lapsed hs)

theorem queueTick {s : State} (hs : P s) : P s.queueTick := by
  have hc : P s.countQueue := h.unseen hs rfl
  have ht : P s.countQueue.timeOut :=
    h.unseen (List.foldlRecOn (motive := P) _ _ hc fun u hu e _ => h.endWait _ _ hu) rfl
  refine (List.foldlRecOn (motive := fun u => P u ∧ ∀ r ∈ s.countQueue.expiredHeads, (u.lease r).state ≠ .free)
    _ _ ⟨ht, fun r hr => ?_⟩ fun u ⟨hu, hl⟩ r hr => ?_).1
  · rw [s.countQueue.timeOut_quiet.lease]
    exact State.live_of_mem_expiredHeads hr
  · exact ⟨h.pass r hu (hl r hr), fun r' hr' => State.grantPass_live r (hl r' hr')⟩

/-! #### Supervisor commands and the link -/

theorem revokeBody (s : State) (hs : P s) : P (revokeBody s).1 := by
  unfold Machine.revokeBody
  split
  · next r hr => exact h.wake (h.retire r .revoked hs ((s.validate_iff _ _).1 hr).live)
  · exact hs

theorem evictBody (s : State) (hs : P s) : P (evictBody s).1 := by
  unfold Machine.evictBody
  dsimp only
  split
  · split
    · exact h.wake (h.endSession _ .evicted hs)
    · exact hs
  · exact hs

theorem dataByte {effect : BankField → Option (State × Option Staged)} {s t : State}
    (he : ∀ f u staged, effect f = some (u, staged) → P u) (ht : dataByte effect s = .next t) (hs : P s) : P t := by
  unfold Machine.dataByte at ht
  split at ht
  · split at ht
    · next u staged hu =>
      cases ht
      exact h.unseen (he _ _ _ hu) rfl
    · cases ht; exact hs
  · cases ht; exact hs

theorem watermarkCommit {value : Byte} {s t : State} (ht : execWatermarkCommit value s = .next t) (hs : P s) : P t := by
  refine h.dataByte (fun f u staged he => ?_) ht hs
  split at he
  · cases he
    unfold State.storeWatermark
    split
    · split
      · next hw => exact h.watermark _ hs hw
      · exact hs
    · exact hs
  · cases he

theorem blockQuotaCommit {value : Byte} {s t : State} (ht : execBlockQuotaCommit value s = .next t) (hs : P s) :
    P t := by
  refine h.dataByte (fun f u staged he => ?_) ht hs
  split at he
  · cases he
    unfold State.storeBlockQuota
    split
    · split
      · next hq => exact h.policy _ _ hs fun hp => ⟨hp.leaseQuota, hq⟩
      · exact hs
    · exact hs
  · cases he

theorem leaseQuotaWrite {value : Byte} {s t : State} (ht : execLeaseQuotaWrite value s = .next t) (hs : P s) : P t := by
  refine h.dataByte (fun f u staged he => ?_) ht hs
  split at he
  · cases he
    split
    · next hq => exact h.policy _ _ hs fun hp => ⟨hq, hp.blockQuota⟩
    · exact hs
  · cases he

theorem tickPeriodCodeWrite {value : Byte} {s t : State} (ht : execTickPeriodCodeWrite value s = .next t) (hs : P s) :
    P t := by
  refine h.dataByte (fun f u staged he => ?_) ht hs
  split at he
  · cases he
    split
    · exact h.unseen hs rfl
    · exact hs
  · cases he

theorem stagedByte {value : Byte} {s t : State} (ht : execStagedByte value s = .next t) (hs : P s) : P t := by
  refine h.dataByte (fun f u staged he => ?_) ht hs
  split at he
  · split at he <;> cases he <;> exact h.unseen hs rfl
  · cases he; exact hs
  · cases he

theorem commandParameterCommit {value : Byte} {s t : State} (ht : execCommandParameterCommit value s = .next t)
    (hs : P s) : P t := by
  refine h.dataByte (fun f u staged he => ?_) ht hs
  split at he
  · split at he
    · cases he; exact h.unseen hs rfl
    · cases he
      unfold State.storeParameter
      split <;> exact h.unseen hs rfl
  · cases he

theorem commandWrite {value : Byte} {s t : State} (ht : execCommandWrite value s = .next t) (hs : P s) : P t := by
  refine h.dataByte (fun f u staged he => ?_) ht hs
  split at he
  · split at he <;> cases he <;> exact h.unseen hs rfl
  · cases he

theorem registerWriteIgnored {w : IgnoredWrite} {s t : State} (ht : execRegisterWriteIgnored w s = .next t)
    (hs : P s) : P t := by
  cases w with
  | control m offset value => exact LeaseOps.next_of_ite ht (h.unseen hs rfl) hs
  | link value =>
    unfold execRegisterWriteIgnored at ht
    refine h.dataByte (fun f u staged he => ?_) ht hs
    split at he
    all_goals cases he
    all_goals exact hs

theorem linkAddress {address : BitVec 7} {dir : AccessDir} {s t : State} (ht : execLinkAddress address dir s = .next t)
    (hs : P s) : P t := by
  unfold execLinkAddress at ht
  split at ht
  · split at ht <;> cases ht <;> exact h.unseen hs rfl
  · cases ht; exact hs

/-! #### Every command but the three kinds -/

/-- A command that is no data access, no burst end and no system reset keeps what the operations keep. -/
theorem exec {c : Instr} {s t : State} (hc : ∀ x, c ≠ dataCommand x) (hb : c ∉ burstEnds) (hr : c ≠ .systemReset)
    (ht : exec c s = .next t) (hs : P s) : P t := by
  cases c with
  | takeOpen => exact h.takeRequest h.openBody ht hs
  | takeRenew => exact h.takeRequest (h.withSession fun _ _ hs => hs) ht hs
  | takeClose => exact h.takeRequest h.closeBody ht hs
  | takeCreate => exact h.takeRequest (h.withSession h.createBody) ht hs
  | takeFind => exact h.takeRequest (h.withSession LeaseOps.findBody) ht hs
  | takeQuery => exact h.takeOnLease (fun _ _ _ hs _ => hs) ht hs
  | takeMark => exact h.takeOnLease h.markBody ht hs
  | takeRetire => exact h.takeOnLease h.retireBody ht hs
  | takeAcquire => exact h.takeOnLease h.acquireBody ht hs
  | takeRelease => exact h.takeOnLease (fun s m r hs _ => h.releaseBody s m r hs) ht hs
  | takeConvert => exact h.takeOnLease h.convertBody ht hs
  | takeCancel => exact h.takeRequest (h.withSession h.cancelBody) ht hs
  | takeResize => exact h.takeOnLease h.resizeBody ht hs
  | takeBind => exact h.takeOnLease (fun s m r hs _ => h.bindBody s m r hs) ht hs
  | takeUnbind => exact h.takeRequest (h.withSession fun s m hs => h.unseen (t := (unbindBody s m).1) hs rfl) ht hs
  | takeUndefined => exact h.takeRequest (h.withSession fun _ _ hs => hs) ht hs
  | reqWrite m value => cases ht; exact h.unseen (h.mail m _ hs fun hb => hb.writeReq value) rfl
  | paramWrite m which value => cases ht; exact h.unseen (h.mail m _ hs fun hb => hb.writeParam which value) rfl
  | eventsWrite m value => cases ht; exact h.unseen (h.mail m _ hs fun hb => hb.clearEvents value) rfl
  | eventEnableWrite m value =>
    cases ht
    exact h.unseen (h.mail m { s.mailbox m with enables := value.setWidth 8 } hs fun hb => hb.edit hb.pending rfl rfl) rfl
  | registerWriteIgnored w => exact h.registerWriteIgnored ht hs
  | controlAccessError master address dir width => exact LeaseOps.next_of_ite ht (h.unseen hs rfl) hs
  | dataRead master address width => exact absurd rfl (hc ⟨master, address, .read, width, 0⟩)
  | dataWrite master address width lanes => exact absurd rfl (hc ⟨master, address, .write, width, lanes⟩)
  | tick => cases ht; exact h.unseen hs rfl
  | sessionCountdown => exact LeaseOps.next_of_ite ht (h.sessionTick hs) hs
  | sessionLapse => exact LeaseOps.next_of_ite ht (h.sessionTick hs) hs
  | waitQueueCountdown => exact LeaseOps.next_of_ite ht (h.queueTick hs) hs
  | waitTimeout => exact LeaseOps.next_of_ite ht (h.queueTick hs) hs
  | scrubBurstEnd => exact absurd (by simp [burstEnds]) hb
  | scrubBlockStepEnd => exact absurd (by simp [burstEnds]) hb
  | copyBurstEnd => exact absurd (by simp [burstEnds]) hb
  | copyBlockStepEnd => exact absurd (by simp [burstEnds]) hb
  | moveCompletion => exact absurd (by simp [burstEnds]) hb
  | takeRevoke => exact h.takeSupervisor h.revokeBody ht hs
  | takeEvict => exact h.takeSupervisor h.evictBody ht hs
  | takeResetAll => exact h.takeSupervisor (fun _ hs => h.resetAll hs) ht hs
  | takeUndefinedSupervisor => exact h.takeSupervisor (fun _ hs => hs) ht hs
  | systemReset => exact absurd rfl hr
  | linkStart => cases ht; exact h.unseen hs rfl
  | linkAddress address dir => exact h.linkAddress ht hs
  | linkStop => cases ht; exact h.unseen hs rfl
  | pointerByte value => exact LeaseOps.next_of_ite ht (h.unseen hs rfl) hs
  | linkReadByte acknowledged => exact LeaseOps.next_of_ite ht (h.unseen hs rfl) hs
  | stagedByte value => exact h.stagedByte ht hs
  | supervisorFlagsWrite value =>
    change execSupervisorFlagsWrite value s = .next t at ht
    refine h.dataByte (fun f u staged he => ?_) ht hs
    split at he <;> cases he
    exact h.unseen hs rfl
  | supervisorEnablesWrite value =>
    change execSupervisorEnablesWrite value s = .next t at ht
    refine h.dataByte (fun f u staged he => ?_) ht hs
    split at he <;> cases he
    exact h.unseen hs rfl
  | watermarkCommit value => exact h.watermarkCommit ht hs
  | tickPeriodCodeWrite value => exact h.tickPeriodCodeWrite ht hs
  | blockQuotaCommit value => exact h.blockQuotaCommit ht hs
  | leaseQuotaWrite value => exact h.leaseQuotaWrite ht hs
  | openPermissionWrite value =>
    change execOpenPermissionWrite value s = .next t at ht
    refine h.dataByte (fun f u staged he => ?_) ht hs
    split at he <;> cases he
    exact h.policy _ _ hs fun hp => ⟨hp.leaseQuota, hp.blockQuota⟩
  | commandParameterCommit value => exact h.commandParameterCommit ht hs
  | commandWrite value => exact h.commandWrite ht hs
  | snapshotSelect value =>
    change execSnapshotSelect value s = .next t at ht
    refine h.dataByte (fun f u staged he => ?_) ht hs
    split at he <;> cases he
    exact h.unseen hs rfl
  | linkReset => exact LeaseOps.next_of_ite ht (h.unseen hs rfl) hs

end CardOps

end Sys2Proof.Machine
end

section
/-! ### The end of a burst, and what waits at the port (R35, R36, R42 to R44, R116) -/

namespace Sys2Proof.Machine

theorem lastBurst_iff (n : Nat) : lastBurst n = true ↔ n = 63 := by
  unfold lastBurst
  rw [beq_iff_eq]
  exact Nat.succ_inj

/-- A command ends the burst in flight and leaves a card, before the port serves an access that waits. -/
inductive State.BurstEnds (s : State) : Instr → State → Prop
  | scrub {b : Block} (step : s.engine.step = some .scrub) (block : s.engine.scrubber.block = some b)
      (more : s.engine.scrubber.burstsDone ≠ 63) :
      s.BurstEnds .scrubBurstEnd ((s.zeroBurst b.1 s.engine.scrubber.burstsDone).setEngine s.engine.countScrubBurst)
  | scrubBlock {b : Block} (step : s.engine.step = some .scrub) (block : s.engine.scrubber.block = some b)
      (last : s.engine.scrubber.burstsDone = 63) :
      s.BurstEnds .scrubBlockStepEnd ((s.zeroBurst b.1 63).endScrubStep b)
  | cutScrub {b : Block} {burst : Nat} {c : Instr} (step : s.engine.step = some (.cutScrub b burst))
      (command : c = if burst = 63 then .scrubBlockStepEnd else .scrubBurstEnd) :
      s.BurstEnds c (s.zeroBurst b.1 burst).chooseStep
  | copy {r : RecordNo} (step : s.engine.step = some .copy) (record : s.engine.mover.record = some r)
      (more : s.engine.mover.burstsDone ≠ 63) :
      s.BurstEnds .copyBurstEnd ((s.moverBurst r).setEngine s.engine.countCopyBurst)
  | cutCopy {source target burst : Nat} (step : s.engine.step = some (.cutCopy source target burst)) :
      s.BurstEnds .copyBurstEnd (s.copyBurst source target burst).chooseStep
  | copyBlock {r : RecordNo} (step : s.engine.step = some .copy) (record : s.engine.mover.record = some r)
      (last : s.engine.mover.burstsDone = 63) (more : s.engine.mover.blocksCopied + 1 < (s.lease r).length) :
      s.BurstEnds .copyBlockStepEnd ((s.moverBurst r).setEngine s.engine.countCopyBlock).chooseStep
  | complete {r : RecordNo} (step : s.engine.step = some .copy) (record : s.engine.mover.record = some r)
      (last : s.engine.mover.burstsDone = 63) (all : (s.lease r).length ≤ s.engine.mover.blocksCopied + 1) :
      s.BurstEnds .moveCompletion ((s.moverBurst r).completeMove r).chooseStep

/-- The command carries out the end of the burst, and the port then serves the access that waits (R44). -/
theorem State.BurstEnds.exec {s u : State} {c : Instr} (h : s.BurstEnds c u) : exec c s = .next u.servePort := by
  cases h with
  | scrub step block more =>
    change execScrubBurstEnd s = _
    unfold execScrubBurstEnd
    rw [step, block]
    simp [lastBurst_iff, more]
  | scrubBlock step block last =>
    change execScrubBlockStepEnd s = _
    unfold execScrubBlockStepEnd
    rw [step, block]
    simp [lastBurst_iff, last]
  | cutScrub step command =>
    subst command
    split
    · next h63 =>
      change execScrubBlockStepEnd s = _
      unfold execScrubBlockStepEnd
      rw [step]
      simp [lastBurst_iff, h63, State.endCutStep]
    · next h63 =>
      change execScrubBurstEnd s = _
      unfold execScrubBurstEnd
      rw [step]
      simp [lastBurst_iff, h63, State.endCutStep]
  | copy step record more =>
    change execCopyBurstEnd s = _
    unfold execCopyBurstEnd
    rw [step, record]
    simp [lastBurst_iff, more]
  | cutCopy step =>
    change execCopyBurstEnd s = _
    unfold execCopyBurstEnd
    rw [step]
    rfl
  | copyBlock step record last more =>
    change execCopyBlockStepEnd s = _
    unfold execCopyBlockStepEnd
    rw [step, record]
    simp [lastBurst_iff, last, State.lastCopyStep, Nat.not_le.2 more]
  | complete step record last all =>
    change execMoveCompletion s = _
    unfold execMoveCompletion
    rw [step, record]
    simp [lastBurst_iff, last, State.lastCopyStep, all]

/-- The end of a burst that is not in flight leaves the card (log entry 3). -/
theorem exec_burstEnds {c : Instr} {s t : State} (hc : c ∈ burstEnds) (ht : exec c s = .next t) :
    t = s ∨ ∃ u, s.BurstEnds c u ∧ t = u.servePort := by
  simp only [burstEnds, List.mem_cons, List.not_mem_nil, or_false] at hc
  obtain rfl | rfl | rfl | rfl | rfl := hc
  · change execScrubBurstEnd s = .next t at ht
    unfold execScrubBurstEnd at ht
    split at ht
    · next step block =>
      split at ht
      · cases ht; exact .inl rfl
      · next hl => cases ht; exact .inr ⟨_, .scrub step block (mt (lastBurst_iff _).2 hl), rfl⟩
    · next step =>
      split at ht
      · cases ht; exact .inl rfl
      · next hl => cases ht; exact .inr ⟨_, .cutScrub step (if_neg (mt (lastBurst_iff _).2 hl)).symm, rfl⟩
    · cases ht; exact .inl rfl
  · change execScrubBlockStepEnd s = .next t at ht
    unfold execScrubBlockStepEnd at ht
    split at ht
    · next step block =>
      split at ht
      · next hl =>
        cases ht
        have h63 := (lastBurst_iff _).1 hl
        rw [h63]
        exact .inr ⟨_, .scrubBlock step block h63, rfl⟩
      · cases ht; exact .inl rfl
    · next step =>
      split at ht
      · next hl => cases ht; exact .inr ⟨_, .cutScrub step (if_pos ((lastBurst_iff _).1 hl)).symm, rfl⟩
      · cases ht; exact .inl rfl
    · cases ht; exact .inl rfl
  · change execCopyBurstEnd s = .next t at ht
    unfold execCopyBurstEnd at ht
    split at ht
    · next step record =>
      split at ht
      · cases ht; exact .inl rfl
      · next hl => cases ht; exact .inr ⟨_, .copy step record (mt (lastBurst_iff _).2 hl), rfl⟩
    · next step => cases ht; exact .inr ⟨_, .cutCopy step, rfl⟩
    · cases ht; exact .inl rfl
  · change execCopyBlockStepEnd s = .next t at ht
    unfold execCopyBlockStepEnd at ht
    split at ht
    · next step record =>
      split at ht
      · next hl =>
        cases ht
        rw [Bool.and_eq_true, Bool.not_eq_true', State.lastCopyStep, decide_eq_false_iff_not, lastBurst_iff] at hl
        exact .inr ⟨_, .copyBlock step record hl.1 (Nat.lt_of_not_le hl.2), rfl⟩
      · cases ht; exact .inl rfl
    · cases ht; exact .inl rfl
  · change execMoveCompletion s = .next t at ht
    unfold execMoveCompletion at ht
    split at ht
    · next step record =>
      split at ht
      · next hl =>
        cases ht
        rw [Bool.and_eq_true, State.lastCopyStep, decide_eq_true_eq, lastBurst_iff] at hl
        exact .inr ⟨_, .complete step record hl.1 hl.2, rfl⟩
      · cases ht; exact .inl rfl
    · cases ht; exact .inl rfl

/-- A data access at the card: it is none of the card's or meets a busy port where one waits, it is served at a free
port, or it waits (R44, R187). -/
theorem State.takeTransfer_cases (s : State) (x : Transfer) :
    s.takeTransfer x = s ∨ s.engine.step = none ∧ s.takeTransfer x = s.serve x ∨
      s.engine.step ≠ none ∧ s.takeTransfer x = s.setPortWait (some x) := by
  unfold State.takeTransfer
  split
  · by_cases hstep : s.engine.step = none
    · exact .inr (.inl ⟨hstep, State.reachPort_free hstep x⟩)
    · by_cases hw : s.portWait = none
      · exact .inr (.inr ⟨hstep, State.reachPort_waits hstep hw x⟩)
      · refine .inl ?_
        unfold State.reachPort
        rw [if_neg hstep, if_neg hw]
  · exact .inl rfl

/-- A data access is the transfer that its command carries. -/
theorem exec_dataCommand {x : Transfer} (hx : x.dir = .read → x.lanes = 0) (s : State) :
    exec (dataCommand x) s = .next (s.takeTransfer x) := by
  obtain ⟨master, address, dir, width, lanes⟩ := x
  cases dir with
  | read =>
    cases hx rfl
    rfl
  | write => rfl

/-- Every data command carries a transfer, a read one with no data lines. -/
theorem exists_dataCommand (x : Transfer) :
    ∃ y, dataCommand x = dataCommand y ∧ y.dir = x.dir ∧ (y.dir = .read → y.lanes = 0) := by
  obtain ⟨master, address, dir, width, lanes⟩ := x
  cases dir with
  | read => exact ⟨⟨master, address, .read, width, 0⟩, rfl, rfl, fun _ => rfl⟩
  | write => exact ⟨⟨master, address, .write, width, lanes⟩, rfl, rfl, fun e => nomatch e⟩

/-- A command is of one of four kinds; a data access, the end of a burst and a system reset are told apart. -/
theorem exec_kinds {c : Instr} {s t : State} (ht : exec c s = .next t) :
    c = .systemReset ∧ t = s.systemReset ∨
      (∃ x, c = dataCommand x ∧ t = s.takeTransfer x) ∨
      c ∈ burstEnds ∧ (t = s ∨ ∃ u, s.BurstEnds c u ∧ t = u.servePort) ∨
      (∀ x, c ≠ dataCommand x) ∧ c ∉ burstEnds ∧ c ≠ .systemReset := by
  by_cases hr : c = .systemReset
  · subst hr
    cases ht
    exact .inl ⟨rfl, rfl⟩
  · by_cases hb : c ∈ burstEnds
    · exact .inr (.inr (.inl ⟨hb, exec_burstEnds hb ht⟩))
    · by_cases hx : ∃ x, c = dataCommand x
      · obtain ⟨x, rfl⟩ := hx
        obtain ⟨y, hy, -, hlanes⟩ := exists_dataCommand x
        rw [hy, exec_dataCommand hlanes] at ht
        cases ht
        exact .inr (.inl ⟨y, hy, rfl⟩)
      · exact .inr (.inr (.inr ⟨fun x e => hx ⟨x, e⟩, hb, hr⟩))

/-- The port is left free, and serves the access that waited. -/
theorem State.servePort_keeps {P : State → Prop} {s : State} (hs : P (s.setPortWait none))
    (serve : ∀ x, P ((s.setPortWait none).serve x)) : P s.servePort := by
  cases hw : s.portWait with
  | none =>
    have he : s.setPortWait none = s := by rw [← hw]; rfl
    rw [State.servePort_none hw, ← he]
    exact hs
  | some x =>
    rw [State.servePort_some hw]
    exact serve x

/-- A step keeps what the shared operations keep, when an access at the port and the end of a burst do and a system
reset gives it. -/
theorem CardOps.step {P : State → Prop} (h : CardOps P)
    (wait : ∀ {s : State} (x : Transfer), P s → s.engine.step ≠ none → P (s.setPortWait (some x)))
    (serve : ∀ {s : State} (x : Transfer), P s → P (s.serve x))
    (burst : ∀ {s u : State} {c : Instr}, P s → s.BurstEnds c u → P (u.setPortWait none))
    (reset : ∀ s : State, P s.systemReset) {s t : State} (ht : Machine.step s = .next t) (hs : P s) : P t := by
  unfold Machine.step at ht
  split at ht
  · cases ht; exact hs
  · next c rest _ =>
    have hs : P { s with pending := rest } := h.unseen hs rfl
    rcases exec_kinds ht with ⟨-, rfl⟩ | ⟨x, -, rfl⟩ | ⟨-, rfl | ⟨u, hu, rfl⟩⟩ | ⟨hx, hb, hr⟩
    · exact reset _
    · rcases State.takeTransfer_cases { s with pending := rest } x with e | ⟨-, e⟩ | ⟨hstep, e⟩
      · rw [e]; exact hs
      · rw [e]; exact serve x hs
      · rw [e]; exact wait x hs hstep
    · exact hs
    · exact State.servePort_keeps (burst hs hu) fun x => serve x (burst hs hu)
    · exact h.exec hx hb hr ht hs

end Sys2Proof.Machine
end

section
/-! ### The engine's choice (R35, R42) -/

namespace Sys2Proof.Machine

theorem State.moverHasWork_iff (s : State) : s.moverHasWork = true ↔ s.MoverHasWork := by
  unfold State.moverHasWork State.MoverHasWork
  cases s.engine.mover.record with
  | none => simp
  | some r => simp

theorem State.scrubberHasWork_iff (s : State) : s.scrubberHasWork = true ↔ 0 < s.pool.scrubCount := decide_eq_true_iff

/-- The search for a SCRUB block finds the lowest-numbered one (R35). -/
theorem State.LowestScrub.eq {s : State} {b : Block} (h : s.LowestScrub b) : s.pool.lowestScrub = some b := by
  obtain ⟨hb, hlow⟩ := h
  have hidx : s.pool.map.list.findIdx? (fun x => x == .scrub) = some b.val := by
    obtain ⟨hlt, hget⟩ := List.getElem?_eq_some_iff.1 hb
    refine List.findIdx?_eq_some_iff_getElem.2 ⟨hlt, by simpa using hget, fun j hj => ?_⟩
    have hne := hlow ⟨j, hj.trans b.isLt⟩ hj
    intro he
    exact hne (List.getElem?_eq_some_iff.2 ⟨hj.trans hlt, by simpa using he⟩)
  unfold Pool.lowestScrub
  rw [hidx]
  simp

/-- The mover's turn, or the scrubber has no work. -/
theorem State.chooseStep_copy {s : State} (hm : s.MoverHasWork)
    (hs : s.pool.scrubCount = 0 ∨ s.engine.last = .scrubber) : s.chooseStep = s.setEngine s.engine.startCopy := by
  unfold State.chooseStep
  refine if_pos ?_
  rw [Bool.and_eq_true, s.moverHasWork_iff, Bool.or_eq_true, Bool.not_eq_true', ← Bool.not_eq_true,
    s.scrubberHasWork_iff, beq_iff_eq]
  exact ⟨hm, hs.imp_left fun e => by omega⟩

/-- The scrubber's turn, or the mover has no work. -/
theorem State.chooseStep_scrub {s : State} {b : Block} (hs : 0 < s.pool.scrubCount)
    (hm : ¬ s.MoverHasWork ∨ s.engine.last = .mover) (hb : s.LowestScrub b) :
    s.chooseStep = s.setEngine (s.engine.startScrub b) := by
  have hwork := s.scrubberHasWork_iff.2 hs
  unfold State.chooseStep State.startScrubStep
  rw [if_neg, if_pos hwork, hb.eq]
  rw [Bool.and_eq_true, s.moverHasWork_iff, hwork]
  rintro ⟨hw, hl⟩
  rcases hm with hm | hm
  · exact hm hw
  · rw [hm] at hl; cases hl

/-- No work for either client. -/
theorem State.chooseStep_idle {s : State} (hm : ¬ s.MoverHasWork) (hs : s.pool.scrubCount = 0) :
    s.chooseStep = s.setEngine s.engine.goIdle := by
  unfold State.chooseStep
  rw [if_neg, if_neg]
  · rw [s.scrubberHasWork_iff]; omega
  · rw [Bool.and_eq_true, s.moverHasWork_iff]
    exact fun h => hm h.1

/-- What the engine can choose. -/
theorem State.chooseStep_cases (s : State) :
    s.MoverHasWork ∧ s.chooseStep = s.setEngine s.engine.startCopy ∨
      (∃ b : Block, s.block b.val = some .scrub ∧ s.chooseStep = s.setEngine (s.engine.startScrub b)) ∨
      s.chooseStep = s.setEngine s.engine.goIdle := by
  unfold State.chooseStep State.startScrubStep
  split
  · next hm =>
    rw [Bool.and_eq_true, s.moverHasWork_iff] at hm
    exact .inl ⟨hm.1, rfl⟩
  · split
    · split
      · next b hb => exact .inr (.inl ⟨b, Pool.lowestScrub_scrub hb, rfl⟩)
      · exact .inr (.inr rfl)
    · exact .inr (.inr rfl)

/-- The choice looks at the records, the pool and the engine, and not at the step that ends. -/
theorem State.chooseStep_congr {s t : State} (leases : t.leases = s.leases) (pool : t.pool = s.pool)
    (engine : t.engine.goIdle = s.engine.goIdle) : t.chooseStep = t.setEngine s.chooseStep.engine := by
  have hcopy : t.engine.startCopy = s.engine.startCopy := by
    show t.engine.goIdle.startCopy = s.engine.goIdle.startCopy
    rw [engine]
  have hscrub : ∀ b, t.engine.startScrub b = s.engine.startScrub b := by
    intro b
    show t.engine.goIdle.startScrub b = s.engine.goIdle.startScrub b
    rw [engine]
  have hmover : t.engine.mover = s.engine.mover := by
    show t.engine.goIdle.mover = s.engine.goIdle.mover
    rw [engine]
  have hlast : t.engine.last = s.engine.last := by
    show t.engine.goIdle.last = s.engine.goIdle.last
    rw [engine]
  have hm : t.moverHasWork = s.moverHasWork := by
    unfold State.moverHasWork State.lease
    rw [hmover, leases]
  have hs : t.scrubberHasWork = s.scrubberHasWork := by
    unfold State.scrubberHasWork
    rw [pool]
  unfold State.chooseStep
  rw [hm, hs, hlast]
  split
  · rw [hcopy]; rfl
  · split
    · unfold State.startScrubStep
      rw [pool]
      split
      · rw [hscrub]; rfl
      · rw [engine]; rfl
    · rw [engine]; rfl

theorem State.chooseStep_goIdle (s : State) : (s.setEngine s.engine.goIdle).chooseStep = s.chooseStep := by
  rw [State.chooseStep_congr (s := s) (t := s.setEngine s.engine.goIdle) rfl rfl rfl]
  obtain ⟨e, he⟩ := s.chooseStep_frame
  rw [he]
  rfl

/-- With every block in SCRUB the lowest-numbered one is block 0 (R38). -/
theorem State.AllScrub.lowestScrub {s : State} (h : s.AllScrub) : s.LowestScrub 0 :=
  ⟨by rw [h.block]; rfl, fun b hb => absurd hb (Nat.not_lt_zero _)⟩

end Sys2Proof.Machine
end

section
/-! ### SRAM's form, the port, the mailboxes and the policy (R44, R151, R158, R163, R175, R176) -/

namespace Sys2Proof.Machine

/-- An operation leaves SRAM, the access at the port, the policy and the watermark, and lets no block step vanish. -/
structure State.Keeps (t s : State) : Prop where
  sram : t.sram = s.sram
  portWait : t.portWait = s.portWait
  policies : t.policies = s.policies
  watermark : t.pool.watermark = s.pool.watermark
  busy : s.engine.step ≠ none → t.engine.step ≠ none

namespace State.Keeps

variable {s t u : State}

theorem refl (s : State) : s.Keeps s := ⟨rfl, rfl, rfl, rfl, id⟩

theorem trans (h : u.Keeps t) (h' : t.Keeps s) : u.Keeps s :=
  ⟨h.sram.trans h'.sram, h.portWait.trans h'.portWait, h.policies.trans h'.policies, h.watermark.trans h'.watermark,
    h.busy ∘ h'.busy⟩

theorem of_same (h : t.Same s) : t.Keeps s := by
  rw [h]
  exact ⟨rfl, rfl, rfl, rfl, id⟩

theorem setLease (s : State) (r : RecordNo) (l : Lease) : (s.setLease r l).Keeps s := ⟨rfl, rfl, rfl, rfl, id⟩

theorem setMailbox (s : State) (m : Master) (b : Mailbox) : (s.setMailbox m b).Keeps s := ⟨rfl, rfl, rfl, rfl, id⟩

theorem forMasters (s : State) (set : MasterSet) (f : State → Master → State)
    (h : ∀ s m, ∃ b, f s m = { s with mailboxes := b }) : (s.forMasters set f).Keeps s := by
  obtain ⟨b, e⟩ := s.forMasters_frame set f h
  rw [e]
  exact ⟨rfl, rfl, rfl, rfl, id⟩

theorem scrubRun (s : State) (run : Option Run) : (s.scrubRun run).Keeps s := by
  cases run <;> exact ⟨rfl, rfl, rfl, rfl, id⟩

theorem allocate (s : State) (run : Run) (x : BlockState) : (s.allocate run x).Keeps s := by
  unfold State.allocate
  dsimp only
  split <;> exact ⟨rfl, rfl, rfl, rfl, id⟩

theorem addOwnedBy (s : State) (owner : Option Master) (a b : Nat) : (s.addOwnedBy owner a b).Keeps s := by
  cases owner <;> exact ⟨rfl, rfl, rfl, rfl, id⟩

theorem dropOwnedBy (s : State) (owner : Option Master) (a b : Nat) : (s.dropOwnedBy owner a b).Keeps s := by
  cases owner <;> exact ⟨rfl, rfl, rfl, rfl, id⟩

theorem grantPass (s : State) (r : RecordNo) : (s.grantPass r).Keeps s := by
  obtain ⟨l, q, m, e⟩ := s.grantPass_frame r
  rw [e]
  exact ⟨rfl, rfl, rfl, rfl, id⟩

theorem leave (s : State) (r : RecordNo) (m : Master) : (s.leave r m).Keeps s := by
  obtain ⟨l, q, b, e⟩ := s.leave_frame r m
  rw [e]
  exact ⟨rfl, rfl, rfl, rfl, id⟩

/-- A move that is given up cuts the step of its burst, which lasts (R43). -/
theorem giveUpMove (s : State) (l : Lease) : (s.setEngine (s.engine.giveUpMove l)).Keeps s := by
  refine ⟨rfl, rfl, rfl, rfl, fun h => ?_⟩
  show (s.engine.giveUpMove l).step ≠ none
  unfold Engine.giveUpMove
  dsimp only
  split
  · simp
  · exact h

theorem abandonMove (s : State) (r : RecordNo) (reason : MoveReason) : (s.abandonMove r reason).Keeps s := by
  have hengine : (s.scrubRun (s.lease r).target).engine = s.engine := by cases (s.lease r).target <;> rfl
  refine (forMasters _ _ _ fun _ _ => ⟨_, rfl⟩).trans ?_
  rw [← hengine]
  exact (giveUpMove ((s.scrubRun (s.lease r).target).setLease r _) _).trans
    ((setLease _ r _).trans (scrubRun s _))

theorem retire (s : State) (r : RecordNo) (cause : RetireCause) : (s.retire r cause).Keeps s := by
  have hmove : (s.retireMove r).Keeps s := by
    unfold State.retireMove
    split
    · exact abandonMove s r .revoked
    · exact refl s
  have hnotices : (((s.retireMove r).withdrawWaiters (s.handle r)).retireApertures r cause).Keeps (s.retireMove r) := by
    obtain ⟨q, b, e⟩ := (s.retireMove r).withdrawWaiters_frame (s.handle r)
    obtain ⟨b', a, e'⟩ := ((s.retireMove r).withdrawWaiters (s.handle r)).retireApertures_frame r cause
    rw [e', e]
    exact ⟨rfl, rfl, rfl, rfl, id⟩
  exact (setLease _ r _).trans ((dropOwnedBy _ _ _ _).trans ((scrubRun _ _).trans (hnotices.trans hmove)))

theorem settle (s : State) (r : RecordNo) : (s.settle r).Keeps s := by
  rcases s.settle_cases r with ⟨e, -⟩ | ⟨-, -, e | e⟩
  · rw [e]; exact refl s
  · rw [e]; exact setLease s r _
  · rw [e]; exact retire s r .emptied

theorem createLease (s : State) (m : Master) (r : RecordNo) (run : Run) : (s.createLease m r run).Keeps s :=
  have hsession : ∀ u : State, (u.addOwned m 1 run.len).Keeps u := fun _ => ⟨rfl, rfl, rfl, rfl, id⟩
  (hsession _).trans ((setLease _ r _).trans (allocate s run _))

theorem shrinkLease (s : State) (r : RecordNo) (dir : Direction) (run : Run) (len : Nat) :
    (s.shrinkLease r dir run len).Keeps s :=
  (dropOwnedBy _ _ _ _).trans ((setLease _ r _).trans (scrubRun s _))

theorem growLease (s : State) (r : RecordNo) (added grown : Run) : (s.growLease r added grown).Keeps s :=
  (addOwnedBy _ _ _ _).trans ((setLease _ r _).trans (allocate s added _))

theorem startMove (s : State) (r : RecordNo) (target : Run) : (s.startMove r target).Keeps s := by
  have hengine : ∀ u : State, u.engine = s.engine → (u.setEngine (s.engine.takeMove r)).Keeps u :=
    fun u e => ⟨rfl, rfl, rfl, rfl, fun h => show s.engine.step ≠ none from e ▸ h⟩
  obtain ⟨p, x, e⟩ := s.allocate_frame target (.target r)
  refine (hengine _ ?_).trans ((setLease _ r _).trans (allocate s target _))
  rw [e]
  rfl


/-- An idle engine that chooses had no block step to lose. -/
theorem chooseStep (s : State) (h : s.engine.step = none) : s.chooseStep.Keeps s := by
  obtain ⟨e, he⟩ := s.chooseStep_frame
  rw [he]
  exact ⟨rfl, rfl, rfl, rfl, fun hne => absurd h hne⟩

end State.Keeps

/-- The card as RESET-ALL clears it, before the engine chooses (R184). -/
def State.resetCleared (s : State) : State :=
  { s with
    leases := s.leases.map fun l => Lease.freed l.generation
    queue := []
    sessions := s.sessions.map Session.resetAll
    mailboxes := Table.zipWith resetAllMailbox s.sessions s.mailboxes
    apertures := Table.replicate 12 (Table.replicate 4 .unbound)
    pool := Pool.atReset s.pool.watermark
    engine := { Engine.atReset with step := s.engine.cutStep s }
    lastServed := 11
    supervisor := { s.supervisor with flags := 0 }
    snapshot := Snapshot.atReset }

theorem resetAllBody_eq (s : State) : (resetAllBody s).1 = s.resetCleared.wakeEngine := rfl

theorem State.resetCleared_allFree (s : State) : s.resetCleared.AllFree := fun r => ⟨_, Table.get_map _ _ r⟩

theorem State.resetCleared_allScrub (s : State) : s.resetCleared.AllScrub := ⟨rfl, rfl, rfl⟩

/-- RESET-ALL keeps a burst in flight or starts the scrub (R40, R42). -/
theorem State.resetAllBody_busy (s : State) : (resetAllBody s).1.engine.step ≠ none := by
  rw [resetAllBody_eq]
  unfold State.wakeEngine
  split
  · rw [State.chooseStep_scrub (show 0 < 512 by decide) (.inl ?_) s.resetCleared_allScrub.lowestScrub]
    · exact fun e => nomatch e
    · rintro ⟨r, hr, -⟩
      cases hr
  · next h => exact h

theorem State.Keeps.resetAll (s : State) : (resetAllBody s).1.Keeps s := by
  rw [resetAllBody_eq]
  obtain ⟨e, he⟩ := s.resetCleared.wakeEngine_frame
  refine ⟨?_, ?_, ?_, ?_, fun _ => resetAllBody_eq s ▸ s.resetAllBody_busy⟩ <;> rw [he] <;> rfl

/-- A property of SRAM, the access at the port, the policy and the presence of a block step is kept, when the two
stores of the link keep it. -/
theorem CardOps.of_keeps {P : State → Prop} (keeps : ∀ {s t : State}, t.Keeps s → P s → P t)
    (policy : ∀ {s : State} (m : Master) (p : Policy), P s → ((s.policy m).Lawful → p.Lawful) → P (s.setPolicy m p))
    (watermark : ∀ {s : State} (w : Nat), P s → w ≤ 511 → P (s.setPool { s.pool with watermark := w })) :
    CardOps P where
  unseen hs h := keeps (.of_same h) hs
  mail m b hs _ := keeps (.setMailbox _ m b) hs
  policy := policy
  watermark := watermark
  choose hs h := keeps (.chooseStep _ h) hs
  rewrite r l hs _ _ := keeps (.setLease _ r l) hs
  pass r hs _ := keeps (.grantPass _ r) hs
  leave m r hs _ := keeps ((State.Keeps.settle _ r).trans (.leave _ r m)) hs
  abandon r reason hs _ := keeps (.abandonMove _ r reason) hs
  retire r cause hs _ := keeps (.retire _ r cause) hs
  create m r _ _ run hs _ _ _ := keeps (.createLease _ m r run) hs
  shrink r dir run len hs _ _ _ _ := keeps (.shrinkLease _ r dir run len) hs
  grow r _ _ added grown _ hs _ _ _ _ _ _ := keeps (.growLease _ r added grown) hs
  startMove r _ _ target _ hs _ _ _ _ _ _ := keeps (.startMove _ r target) hs
  resetAll hs := keeps (.resetAll _) hs

/-- Commands that are no data access, no burst end and no system reset leave SRAM. -/
theorem cardOps_sram (s₀ : State) : CardOps (fun s => s.sram = s₀.sram) :=
  .of_keeps (fun h hs => h.sram.trans hs) (fun _ _ hs _ => hs) (fun _ hs _ => hs)

/-! #### SRAM's canonical form -/

theorem wf_storeLanes {mem : Memory} (h : mem.wf = true) (lanes : Word) (address lane n : Nat) :
    (storeLanes mem lanes address lane n).wf = true := by
  induction n with
  | zero => exact h
  | succ n ih => exact Memory.wf_write ih _ _

/-- What the port serves changes no record or SRAM, or is a write of a lease's bytes that sets its written flag
(R138, R143). -/
theorem State.serve_cases (s : State) (x : Transfer) :
    (∃ b a, s.serve x = { s with mailboxes := b, busAnswer := a }) ∨
      ∃ m r address, masterOfNumber x.master = some m ∧ x.dir = .write ∧
        s.checkAccess m (dataAccess x.address x.dir x.width x.lanes) = .perform r address ∧
        s.serve x = (s.writeData r (dataAccess x.address x.dir x.width x.lanes) address).respond .ack 0 := by
  unfold State.serve
  cases hm : masterOfNumber x.master with
  | none => exact .inl ⟨_, _, rfl⟩
  | some m =>
    dsimp only
    unfold State.takeAccess
    cases hc : s.checkAccess m (dataAccess x.address x.dir x.width x.lanes) with
    | refuse reason => exact .inl ⟨_, _, rfl⟩
    | retry => exact .inl ⟨_, _, rfl⟩
    | perform r address =>
      cases hd : x.dir with
      | read => exact .inl ⟨_, _, rfl⟩
      | write => exact .inr ⟨m, r, address, rfl, rfl, hd ▸ hc, rfl⟩

theorem State.SramLaw.serve {s : State} (h : s.SramLaw) (x : Transfer) : (s.serve x).SramLaw := by
  rcases s.serve_cases x with ⟨b, a, e⟩ | ⟨m, r, address, -, -, -, e⟩
  · rw [e]; exact h
  · rw [e]; exact wf_storeLanes h _ _ _ _

theorem State.SramLaw.of_eq {s t : State} (h : s.SramLaw) (e : t.sram = s.sram) : t.SramLaw := by
  unfold State.SramLaw
  rw [e]
  exact h

theorem State.SramLaw.zeroBurst {s : State} (h : s.SramLaw) (block burst : Nat) : (s.zeroBurst block burst).SramLaw := by
  unfold State.SramLaw State.zeroBurst
  rw [State.setSram_sram]
  exact Memory.wf_zero h _ _

theorem State.SramLaw.copyBurst {s : State} (h : s.SramLaw) (source target burst : Nat) :
    (s.copyBurst source target burst).SramLaw := by
  unfold State.SramLaw State.copyBurst
  rw [State.setSram_sram]
  exact Memory.wf_copy h _ _ _

theorem State.SramLaw.moverBurst {s : State} (h : s.SramLaw) (r : RecordNo) : (s.moverBurst r).SramLaw :=
  h.copyBurst _ _ _

theorem State.checkReady_sram (s : State) : s.checkReady.sram = s.sram := by
  unfold State.checkReady
  split <;> rfl

theorem State.endScrubStep_sram (s : State) (b : Block) : (s.endScrubStep b).sram = s.sram := by
  unfold State.endScrubStep
  rw [State.chooseStep_sram, State.checkReady_sram, State.setEngine_sram, State.setPool_sram]

theorem State.BurstEnds.sramLaw {s u : State} {c : Instr} (h : s.BurstEnds c u) (hs : s.SramLaw) : u.SramLaw := by
  cases h with
  | scrub => exact (hs.zeroBurst _ _).of_eq (State.setEngine_sram _ _)
  | scrubBlock => exact (hs.zeroBurst _ _).of_eq (State.endScrubStep_sram _ _)
  | cutScrub => exact (hs.zeroBurst _ _).of_eq (State.chooseStep_sram _)
  | copy => exact (hs.moverBurst _).of_eq (State.setEngine_sram _ _)
  | cutCopy => exact (hs.copyBurst _ _ _).of_eq (State.chooseStep_sram _)
  | copyBlock => exact (hs.moverBurst _).of_eq ((State.chooseStep_sram _).trans (State.setEngine_sram _ _))
  | complete => exact (hs.moverBurst _).of_eq ((State.chooseStep_sram _).trans (State.completeMove_frame _ _).1)

theorem sramLaw_step {s t : State} (ht : step s = .next t) (hs : s.SramLaw) : t.SramLaw := by
  have hops : CardOps State.SramLaw := .of_keeps (fun h hs => hs.of_eq h.sram)
    (fun _ _ hs _ => hs) (fun _ hs _ => hs)
  exact hops.step (fun _ hs _ => hs) (fun x hs => hs.serve x) (fun hs hu => hu.sramLaw hs)
    (fun s => s.systemReset_atReset.sram) ht hs

/-! #### The port -/

theorem portLaw_step {s t : State} (ht : step s = .next t) (hs : s.PortLaw) : t.PortLaw := by
  have hops : CardOps State.PortLaw := .of_keeps
    (fun h hs hn => h.portWait.trans (hs (not_not.1 fun hne => h.busy hne hn))) (fun _ _ hs _ => hs) (fun _ hs _ => hs)
  refine hops.step (fun x _ hstep hn => absurd hn hstep) (fun x hs hn => ?_) (fun _ _ _ => rfl)
    (fun s => s.systemReset_atReset.portLaw) ht hs
  rw [State.serve_engine] at hn
  rw [State.serve_portWait]
  exact hs hn

end Sys2Proof.Machine
end

section
/-! ### The policy and the mailboxes (R151, R158, R163, R175, R176) -/

namespace Sys2Proof.Machine

theorem State.Keeps.swapRuns (s : State) (r : RecordNo) : (s.swapRuns r).Keeps s := by
  rcases s.swapRuns_cases r with ⟨-, e⟩ | ⟨target, -, e⟩
  · rw [e]; exact .refl s
  · rw [e]
    have hmark : (s.setPool (s.pool.remark target (.run r))).Keeps s := ⟨rfl, rfl, rfl, rfl, id⟩
    exact (State.Keeps.setLease _ r _).trans ((State.Keeps.scrubRun _ _).trans hmark)

/-- The mover gives up its move, and its block step is left for the choice that follows. -/
theorem State.Keeps.completeMove (s : State) (r : RecordNo) : (s.completeMove r).Keeps s := by
  have hengine : (s.swapRuns r).engine = s.engine := by
    rcases s.swapRuns_cases r with ⟨-, e⟩ | ⟨target, -, e⟩
    · rw [e]
    · rw [e]; cases (s.lease r).run <;> rfl
  have hend : ∀ u : State, u.engine = s.engine → (u.setEngine s.engine.endMove).Keeps u :=
    fun u e => ⟨rfl, rfl, rfl, rfl, fun h => show s.engine.step ≠ none from e ▸ h⟩
  obtain ⟨x, hx⟩ := (s.swapRuns r).addOwnedBy_frame (s.lease r).owner 0
    ((s.lease r).targetLength - (s.lease r).length)
  refine (State.Keeps.forMasters _ _ _ fun _ _ => ⟨_, rfl⟩).trans
    ((hend _ ?_).trans ((State.Keeps.addOwnedBy _ _ _ _).trans (.swapRuns s r)))
  rw [hx]
  exact hengine

/-! #### The policy -/

theorem State.PolicyLaw.of_eq {s t : State} (h : s.PolicyLaw) (policies : t.policies = s.policies)
    (watermark : t.pool.watermark = s.pool.watermark) : t.PolicyLaw := by
  unfold State.PolicyLaw State.policy
  rw [policies, watermark]
  exact h

/-- The end of the scrubber's step changes the pool but for the watermark, the supervisor's flags and the engine. -/
theorem State.endScrubStep_frame (s : State) (b : Block) :
    ∃ p x e, s.endScrubStep b = { s with pool := p, supervisor := x, engine := e } ∧
      p.watermark = s.pool.watermark := by
  unfold State.endScrubStep
  obtain ⟨e, he⟩ := State.chooseStep_frame ((s.setPool (s.pool.freeBlock b)).setEngine s.engine.endScrub).checkReady
  rw [he]
  unfold State.checkReady
  split <;> exact ⟨_, _, _, rfl, rfl⟩

theorem State.PolicyLaw.setSram {s : State} (h : s.PolicyLaw) (mem : Memory) : (s.setSram mem).PolicyLaw :=
  h.of_eq (s.setSram_policies mem) (by rw [s.setSram_pool mem])

theorem State.PolicyLaw.chooseStep {s : State} (h : s.PolicyLaw) : s.chooseStep.PolicyLaw :=
  h.of_eq s.chooseStep_policies (by rw [s.chooseStep_pool])

theorem State.PolicyLaw.setEngine {s : State} (h : s.PolicyLaw) (e : Engine) : (s.setEngine e).PolicyLaw :=
  h.of_eq (s.setEngine_policies e) (by rw [s.setEngine_pool e])

theorem State.BurstEnds.policyLaw {s u : State} {c : Instr} (h : s.BurstEnds c u) (hs : s.PolicyLaw) :
    u.PolicyLaw := by
  cases h with
  | scrub => exact (hs.setSram _).setEngine _
  | @scrubBlock b =>
    obtain ⟨p, x, e, he, hw⟩ := (s.zeroBurst b.1 63).endScrubStep_frame b
    rw [he]
    exact State.PolicyLaw.of_eq (s := s.zeroBurst b.1 63) (hs.setSram _) rfl hw
  | cutScrub => exact (hs.setSram _).chooseStep
  | copy => exact (hs.setSram _).setEngine _
  | cutCopy => exact (hs.setSram _).chooseStep
  | copyBlock => exact ((hs.setSram _).setEngine _).chooseStep
  | @complete r =>
    have hk := State.Keeps.completeMove (s.moverBurst r) r
    exact (State.PolicyLaw.of_eq (s := s.moverBurst r) (hs.setSram _) hk.policies hk.watermark).chooseStep

theorem policyLaw_step {s t : State} (ht : step s = .next t) (hs : s.PolicyLaw) : t.PolicyLaw := by
  have hops : CardOps State.PolicyLaw := by
    refine .of_keeps (fun h hs => hs.of_eq h.policies h.watermark) (fun {s} m p hs hp => ?_) (fun w hs hw => ⟨hw, hs.2⟩)
    obtain ⟨hw, hall⟩ := s.policyLaw_iff.1 hs
    refine (State.policyLaw_iff _).2 ⟨hw, fun m' => ?_⟩
    have hget : (s.setPolicy m p).policy m' = if m = m' then p else s.policy m' := Table.get_set _ _ _ _
    rw [hget]
    split
    · exact hp (hall m)
    · exact hall m'
  exact hops.step (fun _ hs _ => hs)
    (fun x hs => hs.of_eq (State.serve_policies _ x) (by rw [State.serve_pool]))
    (fun hs hu => (hu.policyLaw hs).of_eq rfl rfl) (fun s => s.systemReset_atReset.policyLaw) ht hs

/-! #### The mailboxes -/

/-- Each mailbox of a card is lawful where that of another is. -/
def State.Mails (t s : State) : Prop := ∀ m, (s.mailbox m).Lawful → (t.mailbox m).Lawful

namespace State.Mails

variable {s t u : State}

theorem trans (h : u.Mails t) (h' : t.Mails s) : u.Mails s := fun m => h m ∘ h' m

theorem of_eq (h : t.mailboxes = s.mailboxes) : t.Mails s := by
  intro m hm
  unfold State.mailbox
  rw [h]
  exact hm

theorem setMailbox {m : Master} {b : Mailbox} (hb : (s.mailbox m).Lawful → b.Lawful) : (s.setMailbox m b).Mails s := by
  intro m' hm'
  have hget : (s.setMailbox m b).mailbox m' = if m = m' then b else s.mailbox m' := Table.get_set _ _ _ _
  rw [hget]
  split
  · next e => subst e; exact hb hm'
  · exact hm'

theorem foldl {β : Type} {f : State → β → State} (h : ∀ s b, (f s b).Mails s) (l : List β) (s : State) :
    (l.foldl f s).Mails s :=
  List.foldlRecOn (motive := fun u : State => u.Mails s) _ _ (fun _ => id) fun u hu b _ => (h u b).trans hu

theorem endWait (s : State) (m : Master) (record : WaitRecord) : (s.endWait m record).Mails s := by
  refine setMailbox fun hb => Mailbox.Lawful.raise ?_ .waitEnd
  exact hb.edit hb.pending rfl rfl

theorem endMove (s : State) (m : Master) (record : MoveRecord) : (s.endMove m record).Mails s := by
  refine setMailbox fun hb => Mailbox.Lawful.raise ?_ .moveEnd
  exact hb.edit hb.pending rfl rfl

/-- The count of the LOST record is held at 15 (R163). -/
theorem lostNotice (s : State) (m : Master) (x : Handle) : (s.lostNotice m x).Mails s :=
  setMailbox fun hb => Mailbox.lawful_of_lost hb.pending (Nat.min_le_right _ _)

theorem grantPass (s : State) (r : RecordNo) : (s.grantPass r).Mails s := by
  refine foldl (fun u e => ?_) (s.grantable r) s
  exact (endWait _ e.master _).trans (of_eq rfl)

theorem scrubRun (s : State) (run : Option Run) : (s.scrubRun run).Mails s := of_eq (by cases run <;> rfl)

theorem allocate (s : State) (run : Run) (x : BlockState) : (s.allocate run x).Mails s := by
  obtain ⟨p, v, e⟩ := s.allocate_frame run x
  exact of_eq (by rw [e])

theorem addOwnedBy (s : State) (owner : Option Master) (a b : Nat) : (s.addOwnedBy owner a b).Mails s :=
  of_eq (by cases owner <;> rfl)

theorem dropOwnedBy (s : State) (owner : Option Master) (a b : Nat) : (s.dropOwnedBy owner a b).Mails s :=
  of_eq (by cases owner <;> rfl)

theorem setLease (s : State) (r : RecordNo) (l : Lease) : (s.setLease r l).Mails s := of_eq rfl

theorem setEngine (s : State) (e : Engine) : (s.setEngine e).Mails s := of_eq rfl

theorem abandonMove (s : State) (r : RecordNo) (reason : MoveReason) : (s.abandonMove r reason).Mails s :=
  (foldl (fun s m => endMove s m _) _ _).trans
    ((setEngine _ _).trans ((setLease _ r _).trans (scrubRun s _)))

theorem withdrawWaiters (s : State) (x : Handle) : (s.withdrawWaiters x).Mails s := by
  refine trans (t := (s.entriesFor x).foldl _ s) (of_eq rfl) (foldl (fun u e => ?_) _ s)
  exact endWait u e.master _

theorem retireApertures (s : State) (r : RecordNo) (cause : RetireCause) : (s.retireApertures r cause).Mails s := by
  cases cause with
  | emptied => exact of_eq rfl
  | byOwner =>
    unfold State.retireApertures
    dsimp only
    split <;> exact of_eq rfl
  | revoked => exact (foldl (fun s m => lostNotice s m _) _ _).trans (of_eq rfl)

theorem retire (s : State) (r : RecordNo) (cause : RetireCause) : (s.retire r cause).Mails s := by
  have hmove : (s.retireMove r).Mails s := by
    unfold State.retireMove
    split
    · exact abandonMove s r .revoked
    · exact fun _ => id
  exact (setLease _ r _).trans ((dropOwnedBy _ _ _ _).trans ((scrubRun _ _).trans
    ((retireApertures _ r cause).trans ((withdrawWaiters _ _).trans hmove))))

theorem settle (s : State) (r : RecordNo) : (s.settle r).Mails s := by
  rcases s.settle_cases r with ⟨e, -⟩ | ⟨-, -, e | e⟩
  · rw [e]; exact fun _ => id
  · rw [e]; exact setLease s r _
  · rw [e]; exact retire s r .emptied

theorem createLease (s : State) (m : Master) (r : RecordNo) (run : Run) : (s.createLease m r run).Mails s :=
  have hsession : ∀ u : State, (u.addOwned m 1 run.len).Mails u := fun _ => of_eq rfl
  (hsession _).trans ((setLease _ r _).trans (allocate s run _))

theorem completeMove (s : State) (r : RecordNo) : (s.completeMove r).Mails s := by
  have hswap : (s.swapRuns r).Mails s := by
    rcases s.swapRuns_cases r with ⟨-, e⟩ | ⟨target, -, e⟩
    · rw [e]; exact fun _ => id
    · rw [e]; exact (setLease _ r _).trans ((scrubRun _ _).trans (of_eq rfl))
  exact (foldl (fun s m => endMove s m _) _ _).trans ((setEngine _ _).trans ((addOwnedBy _ _ _ _).trans hswap))

/-- RESET-ALL leaves each mailbox in its reset condition, or with SESSION_END besides (R166). -/
theorem resetAll (s : State) : (resetAllBody s).1.Mails s := by
  intro m _
  unfold State.mailbox
  rw [resetAllBody_eq, State.wakeEngine_mailboxes]
  show ((Table.zipWith resetAllMailbox s.sessions s.mailboxes).get m).Lawful
  rw [Table.get_zipWith]
  unfold resetAllMailbox
  split
  · exact (Mailbox.Lawful.cleared _).raise _
  · exact .cleared _

theorem serve (s : State) (x : Transfer) : (s.serve x).Mails s := by
  unfold State.serve
  split
  · next m _ =>
    unfold State.takeAccess
    split
    · exact (of_eq rfl).trans (setMailbox fun hb => hb.recordFault _)
    · exact of_eq rfl
    · split <;> exact of_eq rfl
  · exact of_eq rfl

theorem setSram (s : State) (mem : Memory) : (s.setSram mem).Mails s := of_eq rfl

theorem burst {c : Instr} (h : s.BurstEnds c u) : u.Mails s := by
  have choose : ∀ v : State, v.chooseStep.Mails v := fun v => of_eq v.chooseStep_mailboxes
  cases h with
  | scrub => exact (setEngine _ _).trans (setSram s _)
  | @scrubBlock b =>
    obtain ⟨p, x, e, he, -⟩ := (s.zeroBurst b.1 63).endScrubStep_frame b
    rw [he]
    exact trans (t := s.zeroBurst b.1 63) (of_eq rfl) (setSram s _)
  | cutScrub => exact (choose _).trans (setSram s _)
  | copy => exact (setEngine _ _).trans (setSram s _)
  | cutCopy => exact (choose _).trans (setSram s _)
  | copyBlock => exact (choose _).trans ((setEngine _ _).trans (setSram s _))
  | complete => exact (choose _).trans ((completeMove _ _).trans (setSram s _))

end State.Mails

theorem State.MailboxLaw.of_mails {s t : State} (h : s.MailboxLaw) (ht : t.Mails s) : t.MailboxLaw := by
  rw [State.mailboxLaw_iff] at *
  exact fun m => ht m (h m)

theorem mailboxLaw_step {s t : State} (ht : step s = .next t) (hs : s.MailboxLaw) : t.MailboxLaw := by
  have hops : CardOps State.MailboxLaw :=
    { unseen := fun hs h => hs.of_mails (.of_eq (by rw [h]))
      mail := fun m b hs hb => hs.of_mails (.setMailbox hb)
      policy := fun _ _ hs _ => hs.of_mails (.of_eq rfl)
      watermark := fun _ hs _ => hs.of_mails (.of_eq rfl)
      choose := fun {s} hs _ => hs.of_mails (.of_eq s.chooseStep_mailboxes)
      rewrite := fun r l hs _ _ => hs.of_mails (.setLease _ r l)
      pass := fun r hs _ => hs.of_mails (.grantPass _ r)
      leave := fun _ r hs _ => hs.of_mails ((State.Mails.settle _ r).trans ((State.Mails.grantPass _ r).trans (.of_eq rfl)))
      abandon := fun r reason hs _ => hs.of_mails (.abandonMove _ r reason)
      retire := fun r cause hs _ => hs.of_mails (.retire _ r cause)
      create := fun _ r _ _ run hs _ _ _ =>
        hs.of_mails (.createLease _ _ r run)
      shrink := fun _ _ _ _ hs _ _ _ _ =>
        hs.of_mails ((State.Mails.dropOwnedBy _ _ _ _).trans ((State.Mails.setLease _ _ _).trans (.scrubRun _ _)))
      grow := fun _ _ _ _ _ _ hs _ _ _ _ _ _ =>
        hs.of_mails ((State.Mails.addOwnedBy _ _ _ _).trans ((State.Mails.setLease _ _ _).trans (.allocate _ _ _)))
      startMove := fun _ _ _ _ _ hs _ _ _ _ _ _ =>
        hs.of_mails ((State.Mails.setEngine _ _).trans ((State.Mails.setLease _ _ _).trans (.allocate _ _ _)))
      resetAll := fun hs => hs.of_mails (.resetAll _) }
  exact hops.step (fun _ hs _ => hs.of_mails (.of_eq rfl)) (fun x hs => hs.of_mails (.serve _ x))
    (fun {s u c} hs hu => hs.of_mails (State.Mails.trans (t := u) (.of_eq rfl) (.burst hu)))
    (fun s => s.systemReset_atReset.mailboxLaw) ht hs

/-- Settles O51: the four laws are kept one by one. -/
theorem stepKeepsSramPortMailboxesAndPolicy : Obligations.StepKeepsSramPortMailboxesAndPolicy := fun _ _ ht =>
  ⟨sramLaw_step ht, portLaw_step ht, mailboxLaw_step ht, policyLaw_step ht⟩

end Sys2Proof.Machine
end

section
/-! ### FREE blocks hold zeros: the requests, the ticks and the supervisor (R27, R36, R114, R116) -/

namespace Sys2Proof.Machine

/-- Reading the map after a stretch of it has been marked. -/
theorem State.block_of_setRun {s t : State} {run : Run} {x : BlockState}
    (map : t.pool.map = s.pool.map.setRun run.base run.len x) (b : Nat) :
    t.block b = if run.base ≤ b ∧ b < run.base + run.len ∧ b < 512 then some x else s.block b := by
  have h := getElem?_setRun s.pool.map.list run.base run.len b x
  rw [s.pool.map.length_eq] at h
  unfold State.block
  rw [map]
  exact h

/-- A block that has a state lies in the pool. -/
theorem State.lt_of_block {s : State} {b : Nat} {x : BlockState} (h : s.block b = some x) : b < 512 := by
  have := (List.getElem?_eq_some_iff.1 h).1
  rwa [s.pool.map.length_eq] at this

/-- A change leaves the memory engine what it works on: SRAM and the engine are as they were, no block has become FREE,
the SCRUB blocks are SCRUB, and the same records are MOVING with runs of the same length. -/
structure State.Undisturbed (t s : State) : Prop where
  sram : t.sram = s.sram
  engine : t.engine = s.engine
  free : ∀ b, t.block b = some .free → s.block b = some .free
  scrub : ∀ b, s.block b = some .scrub → t.block b = some .scrub
  moving : ∀ r, (t.lease r).state = .moving ↔ (s.lease r).state = .moving
  length : ∀ r, (s.lease r).state = .moving → (t.lease r).length = (s.lease r).length

namespace State.Undisturbed

variable {s t u : State}

theorem trans (h : u.Undisturbed t) (h' : t.Undisturbed s) : u.Undisturbed s where
  sram := h.sram.trans h'.sram
  engine := h.engine.trans h'.engine
  free b hb := h'.free b (h.free b hb)
  scrub b hb := h.scrub b (h'.scrub b hb)
  moving r := (h.moving r).trans (h'.moving r)
  length r hr := (h.length r ((h'.moving r).2 hr)).trans (h'.length r hr)

theorem of_quiet (hq : t.Quiet s) (engine : t.engine = s.engine) (sram : t.sram = s.sram) : t.Undisturbed s where
  sram := sram
  engine := engine
  free b hb := hq.blocks b ▸ hb
  scrub b hb := (hq.blocks b).trans hb
  moving r := by rw [hq.lease]
  length r _ := by rw [hq.lease]

theorem of_eq (leases : t.leases = s.leases) (pool : t.pool = s.pool) (engine : t.engine = s.engine)
    (sram : t.sram = s.sram) : t.Undisturbed s := of_quiet (.of_eq leases pool engine) engine sram

theorem refl (s : State) : s.Undisturbed s := of_eq rfl rfl rfl rfl

theorem of_same (h : t.Same s) : t.Undisturbed s := by
  rw [h]
  exact of_eq rfl rfl rfl rfl

theorem setLease (s : State) {r : RecordNo} {l : Lease} (moving : l.state = .moving ↔ (s.lease r).state = .moving)
    (length : (s.lease r).state = .moving → l.length = (s.lease r).length) : (s.setLease r l).Undisturbed s where
  sram := rfl
  engine := rfl
  free _ := id
  scrub _ := id
  moving r' := by
    rw [State.lease_setLease]
    split
    · next e => subst e; exact moving
    · rfl
  length r' h := by
    rw [State.lease_setLease]
    split
    · next e => subst e; exact length h
    · rfl

/-- A record that is not MOVING is replaced by another that is not. -/
theorem setLease_still (s : State) {r : RecordNo} {l : Lease} (hl : l.state ≠ .moving)
    (hs : (s.lease r).state ≠ .moving) : (s.setLease r l).Undisturbed s :=
  setLease s (iff_of_false hl hs) fun h => absurd h hs

theorem setLease_samePlace (s : State) {r : RecordNo} {l : Lease} (h : l.SamePlace (s.lease r)) :
    (s.setLease r l).Undisturbed s :=
  setLease s h.moving fun _ => by unfold Lease.length; rw [h.run]

/-- Blocks that go to SCRUB are not FREE. -/
theorem scrubRun (s : State) (run : Option Run) : (s.scrubRun run).Undisturbed s := by
  cases run with
  | none => exact refl s
  | some run =>
    have hblock := State.block_of_setRun (s := s) (t := s.scrubRun (some run)) (run := run) (x := .scrub) rfl
    refine ⟨rfl, rfl, fun b hb => ?_, fun b hb => ?_, fun _ => Iff.rfl, fun _ _ => rfl⟩
    · rw [hblock] at hb
      split at hb
      · cases hb
      · exact hb
    · rw [hblock]
      split
      · rfl
      · exact hb

/-- Blocks given to a lease were FREE, and so none of them SCRUB (R29, R31, R32). -/
theorem allocate (s : State) {run : Run} (hfree : s.pool.allFree run = true) (x : BlockState) :
    (s.allocate run x).Undisturbed s := by
  have hinside := (s.pool.allFree_iff run).1 hfree
  have hblock := State.block_of_setRun (s := s) (t := s.setPool (s.pool.allocate run x)) (run := run) (x := x) rfl
  have hcore : (s.setPool (s.pool.allocate run x)).Undisturbed s := by
    refine ⟨rfl, rfl, fun b hb => ?_, fun b hb => ?_, fun _ => Iff.rfl, fun _ _ => rfl⟩
    · rw [hblock] at hb
      split at hb
      · next hin => exact hinside b hin.1 hin.2.1
      · exact hb
    · rw [hblock, if_neg fun hin => ?_]
      · exact hb
      · cases (hinside b hin.1 hin.2.1).symm.trans hb
  obtain ⟨p, v, e⟩ := s.allocate_frame run x
  exact trans (of_quiet (s.allocate_quiet run x) (by rw [e]; rfl) (by rw [e]; rfl)) hcore

theorem addOwnedBy (s : State) (owner : Option Master) (a b : Nat) : (s.addOwnedBy owner a b).Undisturbed s := by
  cases owner <;> exact of_eq rfl rfl rfl rfl

theorem dropOwnedBy (s : State) (owner : Option Master) (a b : Nat) : (s.dropOwnedBy owner a b).Undisturbed s := by
  cases owner <;> exact of_eq rfl rfl rfl rfl

theorem grantPass (s : State) {r : RecordNo} (hl : (s.lease r).state ≠ .free) : (s.grantPass r).Undisturbed s := by
  have hself : (s.lease r).SamePlace (s.lease r) := ⟨rfl, rfl, hl, Iff.rfl⟩
  refine (of_quiet (s.grantPass_quiet r) (s.grantPass_engine r) (s.grantPass_sram r)).trans
    (setLease_samePlace s ?_)
  rw [s.grantable_eq]
  split
  · exact hself
  · next hm => exact Lease.samePlace_foldl_granted hself hm _

theorem leave (s : State) {r : RecordNo} (hl : (s.lease r).state ≠ .free) (m : Master) :
    (s.leave r m).Undisturbed s := by
  refine (grantPass (s.removeHolder r m) ?_).trans (setLease_samePlace s ⟨rfl, rfl, hl, Iff.rfl⟩)
  rw [State.removeHolder_eq, State.lease_setLease_self]
  exact hl

/-- A record that is not MOVING is freed. -/
theorem freeRecord (s : State) {r : RecordNo} (hm : (s.lease r).state ≠ .moving) : (s.freeRecord r).Undisturbed s := by
  have hcore : ((s.scrubRun (s.lease r).run).dropOwnedBy (s.lease r).owner 1 (s.lease r).length).Undisturbed s :=
    (dropOwnedBy _ _ _ _).trans (scrubRun s _)
  refine (setLease_still _ ?_ fun h => hm ((hcore.moving r).1 h)).trans hcore
  exact fun e => nomatch e

theorem retireNotices (s : State) (r : RecordNo) (h : Handle) (cause : RetireCause) :
    ((s.withdrawWaiters h).retireApertures r cause).Undisturbed s := by
  obtain ⟨q, b, e⟩ := s.withdrawWaiters_frame h
  obtain ⟨b', a, e'⟩ := (s.withdrawWaiters h).retireApertures_frame r cause
  rw [e', e]
  exact of_eq rfl rfl rfl rfl

/-- After the abandonment of its move, if it is on one, a retired record is freed (R20). -/
theorem retire_retireMove (s : State) (r : RecordNo) (cause : RetireCause) :
    (s.retire r cause).Undisturbed (s.retireMove r) := by
  have hn := retireNotices (s.retireMove r) r (s.handle r) cause
  have hstill : ((s.retireMove r).lease r).state ≠ .moving := by
    unfold State.retireMove
    split
    · rw [State.abandonMove_lease, if_pos rfl]
      exact fun e => nomatch e
    · next h => exact h
  exact (freeRecord _ fun h => hstill ((hn.moving r).1 h)).trans hn

theorem settle (s : State) (r : RecordNo) : (s.settle r).Undisturbed s := by
  rcases s.settle_cases r with ⟨e, -⟩ | ⟨hheld, -, e | e⟩
  · rw [e]; exact refl s
  · rw [e]; exact setLease_still s (fun e => nomatch e) (by simp [hheld])
  · have hmove : s.retireMove r = s := if_neg (by simp [hheld])
    rw [e]
    have := retire_retireMove s r .emptied
    rwa [hmove] at this

theorem createLease (s : State) (m : Master) {r : RecordNo} {run : Run} (hr : (s.lease r).state = .free)
    (hfree : s.pool.allFree run = true) : (s.createLease m r run).Undisturbed s := by
  have ha := allocate s hfree (.run r)
  have hsession : ∀ u : State, (u.addOwned m 1 run.len).Undisturbed u := fun _ => of_eq rfl rfl rfl rfl
  refine (hsession _).trans ((setLease_still _ ?_ fun h => ?_).trans ha)
  · exact fun e => nomatch e
  · rw [ha.moving r, hr] at h
    cases h

theorem shrinkLease (s : State) {r : RecordNo} (hm : (s.lease r).state ≠ .moving) (dir : Direction) (run : Run)
    (len : Nat) : (s.shrinkLease r dir run len).Undisturbed s := by
  have hs := scrubRun s (some (shrunkOff dir run len))
  refine (dropOwnedBy _ _ _ _).trans ((setLease_still _ ?_ fun h => hm ((hs.moving r).1 h)).trans hs)
  exact hm

theorem growLease (s : State) {r : RecordNo} {added : Run} (hm : (s.lease r).state ≠ .moving)
    (hfree : s.pool.allFree added = true) (grown : Run) : (s.growLease r added grown).Undisturbed s := by
  have ha := allocate s hfree (.run r)
  refine (addOwnedBy _ _ _ _).trans ((setLease_still _ ?_ fun h => hm ((ha.moving r).1 h)).trans ha)
  exact hm

end State.Undisturbed

namespace State.ZeroLaw

variable {s t : State}

/-- The law is kept by a change that does not disturb the engine and keeps the law of the pool. -/
theorem of_undisturbed (h : s.ZeroLaw) (ht : t.Undisturbed s) (pool : t.PoolLaw) : t.ZeroLaw where
  pool := pool
  sram := h.sram.of_eq ht.sram
  zero b i hb hi := by
    unfold State.byteAt
    rw [ht.sram]
    exact h.zero b i (ht.free b hb) hi
  filled b i hstep hblock hi := by
    unfold State.byteAt
    rw [ht.engine] at hstep hblock hi
    rw [ht.sram]
    exact h.filled b i hstep hblock hi
  scrubBursts hstep := by
    rw [ht.engine] at *
    exact h.scrubBursts hstep
  mover r hr := by
    rw [ht.engine] at hr
    exact (ht.moving r).2 (h.mover r hr)
  copying hstep := by
    rw [ht.engine] at *
    obtain ⟨r, hr, hlt, hburst⟩ := h.copying hstep
    exact ⟨r, hr, (ht.length r (h.mover r hr)).symm ▸ hlt, hburst⟩
  cutCopy source target burst hstep := by
    rw [ht.engine] at hstep
    obtain ⟨hb, hburst⟩ := h.cutCopy source target burst hstep
    exact ⟨ht.scrub _ hb, hburst⟩
  cutScrub b burst hstep := by
    rw [ht.engine] at hstep
    obtain ⟨hb, hburst⟩ := h.cutScrub b burst hstep
    exact ⟨ht.scrub _ hb, hburst⟩
  oneMoving r r' hr hr' := h.oneMoving r r' ((ht.moving r).1 hr) ((ht.moving r').1 hr')

/-- A change of other fields. -/
theorem of_eq (h : s.ZeroLaw) (leases : t.leases = s.leases) (pool : t.pool = s.pool) (engine : t.engine = s.engine)
    (sram : t.sram = s.sram) : t.ZeroLaw :=
  h.of_undisturbed (.of_eq leases pool engine sram) (h.pool.of_quiet (.of_eq leases pool engine))

/-- The engine takes another step: the law of the pool and the clauses of that step are left to show. -/
theorem setEngine (h : s.ZeroLaw) {e : Engine} (pool : (s.setEngine e).PoolLaw)
    (filled : ∀ b i, e.step = some .scrub → e.scrubber.block = some b → i < e.scrubber.burstsDone * 64 →
      s.byteAt (b.val * 4096 + i) = 0)
    (scrubBursts : e.step = some .scrub → e.scrubber.burstsDone < 64)
    (mover : ∀ r, e.mover.record = some r → (s.lease r).state = .moving)
    (copying : e.step = some .copy →
      ∃ r, e.mover.record = some r ∧ e.mover.blocksCopied < (s.lease r).length ∧ e.mover.burstsDone < 64)
    (uncut : ∀ x, e.step = some x → x = .scrub ∨ x = .copy) : (s.setEngine e).ZeroLaw where
  pool := pool
  sram := h.sram
  zero := h.zero
  filled := filled
  scrubBursts := scrubBursts
  mover := mover
  copying := copying
  cutCopy _ _ _ hx := by rcases uncut _ hx with e | e <;> cases e
  cutScrub _ _ hx := by rcases uncut _ hx with e | e <;> cases e
  oneMoving := h.oneMoving

/-- The engine chooses (R42). -/
theorem chooseStep (h : s.ZeroLaw) : s.chooseStep.ZeroLaw := by
  have pool := h.pool.chooseStep
  rcases s.chooseStep_cases with ⟨⟨r, hr, hlt⟩, e⟩ | ⟨b, hb, e⟩ | e
  all_goals
    rw [e] at pool ⊢
  · refine h.setEngine pool (fun _ _ hx => nomatch hx) (fun hx => nomatch hx) h.mover (fun _ => ?_) fun x hx => ?_
    · exact ⟨r, hr, hlt, Nat.zero_lt_succ 63⟩
    · cases hx; exact .inr rfl
  · refine h.setEngine pool (fun _ i _ _ hi => ?_) (fun _ => Nat.zero_lt_succ 63) h.mover (fun hx => nomatch hx)
      fun x hx => ?_
    · exact absurd hi (by simp [Engine.startScrub])
    · cases hx; exact .inl rfl
  · exact h.setEngine pool (fun _ _ hx => nomatch hx) (fun hx => nomatch hx) h.mover (fun hx => nomatch hx)
      fun _ hx => nomatch hx

/-- The mover's paired block lies in its target run (R115). -/
theorem target_block (h : s.ZeroLaw) {r : RecordNo} (hm : (s.lease r).state = .moving) {i : Nat}
    (hi : i < (s.lease r).length) :
    ∃ target, (s.lease r).target = some target ∧ target.base ≤ (s.lease r).targetBlock i ∧
      (s.lease r).targetBlock i < target.base + target.len ∧ target.base + target.len ≤ 512 := by
  obtain ⟨target, ht, hlt, -, h512⟩ := h.pool.moving r hm
  refine ⟨target, ht, ?_⟩
  unfold Lease.targetBlock
  rw [ht]
  split
  · next hd _ => cases hd; omega
  · next hd _ => cases hd; omega
  · next hd => cases hd

/-- The card after an abandonment, before its notices: the copy burst in flight writes a block that is now SCRUB
(R43, R122). -/
theorem abandonMove (h : s.ZeroLaw) {r : RecordNo} (hm : (s.lease r).state = .moving) (reason : MoveReason) :
    (s.abandonMove r reason).ZeroLaw := by
  have pool := h.pool.abandonMove hm reason
  have hlease := fun r' => s.abandonMove_lease r r' reason
  obtain ⟨b, hb⟩ := State.forMasters_frame
    (((s.scrubRun (s.lease r).target).setLease r { s.lease r with state := .held, target := none }).setEngine
      (s.engine.giveUpMove (s.lease r))) (s.lease r).holders
    (fun s' m => s'.endMove m
      { handle := s.handle r, result := some .abandoned, reason := reason, length := (s.lease r).length })
    fun _ _ => ⟨_, rfl⟩
  have hengine : (s.abandonMove r reason).engine = s.engine.giveUpMove (s.lease r) := by
    unfold State.abandonMove
    rw [hb]
    rfl
  have hund := Undisturbed.scrubRun s (s.lease r).target
  have hblocks : ∀ b, (s.abandonMove r reason).block b = (s.scrubRun (s.lease r).target).block b :=
    fun b => (s.abandonMove_quiet r reason).blocks b
  have hbyte : ∀ x, (s.abandonMove r reason).byteAt x = s.byteAt x := fun x => by
    unfold State.byteAt; rw [State.abandonMove_sram]
  have hstill : ∀ r', ((s.abandonMove r reason).lease r').state ≠ .moving := by
    intro r' hr'
    rw [hlease] at hr'
    split at hr'
    · cases hr'
    · next hne => exact hne (h.oneMoving r r' hm hr')
  have hstep : ∀ x, (s.abandonMove r reason).engine.step = some x → x ≠ .copy ∧ (s.engine.step = some x ∨
      s.engine.step = some .copy ∧ x = .cutCopy ((s.lease r).sourceBlock s.engine.mover.blocksCopied)
        ((s.lease r).targetBlock s.engine.mover.blocksCopied) s.engine.mover.burstsDone) := by
    intro x hx
    rw [hengine] at hx
    unfold Engine.giveUpMove at hx
    dsimp only at hx
    split at hx
    · next hc => cases hx; exact ⟨by simp, .inr ⟨hc, rfl⟩⟩
    · next hc => exact ⟨fun e => hc (e ▸ hx), .inl hx⟩
  have hscrubStep : (s.abandonMove r reason).engine.step = some .scrub → s.engine.step = some .scrub := fun hx =>
    (hstep _ hx).2.resolve_right fun hc => nomatch hc.2
  have hscrubber : (s.abandonMove r reason).engine.scrubber = s.engine.scrubber := by rw [hengine]; rfl
  refine ⟨pool, h.sram.of_eq (State.abandonMove_sram _ _ _), ?_, ?_, ?_, ?_, ?_, ?_, ?_, ?_⟩
  · intro b i hfree hi
    rw [hblocks] at hfree
    rw [hbyte]
    exact h.zero b i (hund.free b hfree) hi
  · intro b i hx hblock hi
    rw [hscrubber] at hblock hi
    rw [hbyte]
    exact h.filled b i (hscrubStep hx) hblock hi
  · intro hx
    rw [hscrubber]
    exact h.scrubBursts (hscrubStep hx)
  · intro r' hr'
    rw [hengine] at hr'
    cases hr'
  · exact fun hx => absurd rfl (hstep _ hx).1
  · intro source target burst hx
    rw [hblocks]
    rcases (hstep _ hx).2 with hc | ⟨hc, e⟩
    · obtain ⟨hb, hburst⟩ := h.cutCopy source target burst hc
      exact ⟨hund.scrub _ hb, hburst⟩
    · cases e
      obtain ⟨r', hr', hlt, hburst⟩ := h.copying hc
      cases h.oneMoving r r' hm (h.mover r' hr')
      obtain ⟨run, hrun, h1, h2, h512⟩ := h.target_block hm hlt
      refine ⟨?_, hburst⟩
      rw [State.block_of_setRun (s := s) (run := run) (x := .scrub) (by rw [hrun]; rfl), if_pos ⟨h1, h2, by omega⟩]
  · intro b burst hx
    rw [hblocks]
    obtain ⟨hb, hburst⟩ := h.cutScrub b burst ((hstep _ hx).2.resolve_right fun hc => nomatch hc.2)
    exact ⟨hund.scrub _ hb, hburst⟩
  · exact fun r' _ hr' _ => absurd hr' (hstill r')

theorem retire (h : s.ZeroLaw) {r : RecordNo} (hl : (s.lease r).state ≠ .free) (cause : RetireCause) :
    (s.retire r cause).ZeroLaw := by
  have hmove : (s.retireMove r).ZeroLaw := by
    unfold State.retireMove
    split
    · next hm => exact h.abandonMove hm .revoked
    · exact h
  exact hmove.of_undisturbed (.retire_retireMove s r cause) (h.pool.retire hl cause)

/-- A move starts in a card without one: the mover was idle, and so no copy is in flight (R113, R114). -/
theorem startMove (h : s.ZeroLaw) {r : RecordNo} {target : Run} (hn : s.movingRecord = none)
    (hfree : s.pool.allFree target = true) (pool : (s.startMove r target).PoolLaw) :
    (s.startMove r target).ZeroLaw := by
  have hidle : ∀ r', s.engine.mover.record ≠ some r' := fun r' hr' =>
    State.movingRecord_none hn r' (h.mover r' hr')
  have hnocopy : s.engine.step ≠ some .copy := fun hx => by
    obtain ⟨r', hr', -⟩ := h.copying hx
    exact hidle r' hr'
  have hund := Undisturbed.allocate s hfree (.target r)
  have hlease : ∀ r', (s.startMove r target).lease r' =
      if r = r' then { s.lease r with state := .moving, target := some target } else s.lease r' :=
    fun r' => ((s.startMove_quiet r target).lease r').trans (State.lease_setLease _ _ _ _)
  have honly : ∀ r', ((s.startMove r target).lease r').state = .moving → r = r' := by
    intro r' hr'
    rw [hlease] at hr'
    split at hr'
    · next e => exact e
    · exact absurd hr' (State.movingRecord_none hn r')
  have hbyte : ∀ x, (s.startMove r target).byteAt x = s.byteAt x := fun x => congrArg (·.read x) hund.sram
  refine
    { pool := pool, sram := h.sram.of_eq hund.sram, zero := fun b i hb hi => ?_, filled := fun b i hx hb hi => ?_
      scrubBursts := h.scrubBursts, mover := fun r' hr' => ?_, copying := fun hx => absurd hx hnocopy
      cutCopy := fun source target burst hx => ?_, cutScrub := fun b burst hx => ?_
      oneMoving := fun a b ha hb => (honly a ha).symm.trans (honly b hb) }
  · exact (hbyte _).trans (h.zero b i (hund.free b hb) hi)
  · exact (hbyte _).trans (h.filled b i hx hb hi)
  · cases hr'
    rw [hlease, if_pos rfl]
  · obtain ⟨hb, hburst⟩ := h.cutCopy source target burst hx
    exact ⟨hund.scrub _ hb, hburst⟩
  · obtain ⟨hb, hburst⟩ := h.cutScrub b burst hx
    exact ⟨hund.scrub _ hb, hburst⟩

/-- RESET-ALL leaves no FREE block, and of the engine only a burst in flight, which writes a SCRUB block (R40, R184). -/
theorem resetCleared (h : s.ZeroLaw) : s.resetCleared.ZeroLaw := by
  have hblock : ∀ b, b < 512 → s.resetCleared.block b = some .scrub := fun b hb => by
    rw [s.resetCleared_allScrub.block, if_pos hb]
  have hfree := s.resetCleared_allFree
  have hcut : ∀ x, s.resetCleared.engine.step = some x →
      (∃ b burst, x = .cutScrub b burst ∧ burst < 64) ∨
        ∃ source target burst, x = .cutCopy source target burst ∧ target < 512 ∧ burst < 64 := by
    intro x hx
    change s.engine.cutStep s = some x at hx
    unfold Engine.cutStep at hx
    cases hs : s.engine.step with
    | none => rw [hs] at hx; cases hx
    | some y =>
      rw [hs] at hx
      cases y with
      | scrub =>
        obtain ⟨b, -, rfl⟩ := Option.map_eq_some_iff.1 hx
        exact .inl ⟨b, _, rfl, h.scrubBursts hs⟩
      | copy =>
        obtain ⟨r', hr', hlt, hburst⟩ := h.copying hs
        obtain ⟨r, hr, rfl⟩ := Option.map_eq_some_iff.1 hx
        cases hr.symm.trans hr'
        obtain ⟨target, -, -, h2, h512⟩ := h.target_block (h.mover _ hr') hlt
        exact .inr ⟨_, _, _, rfl, by omega, hburst⟩
      | cutScrub b burst =>
        cases hx
        exact .inl ⟨b, burst, rfl, (h.cutScrub b burst hs).2⟩
      | cutCopy source target burst =>
        cases hx
        obtain ⟨hb, hburst⟩ := h.cutCopy source target burst hs
        exact .inr ⟨source, target, burst, rfl, State.lt_of_block hb, hburst⟩
  have hnot : ∀ x, s.resetCleared.engine.step = some x → x ≠ .scrub ∧ x ≠ .copy := by
    intro x hx
    rcases hcut x hx with ⟨b, burst, rfl, -⟩ | ⟨source, target, burst, rfl, -, -⟩ <;> simp
  refine
    { pool := hfree.poolLaw s.resetCleared_allScrub, sram := h.sram, zero := fun b i hb => ?_
      filled := fun b i hx => absurd rfl (hnot _ hx).1, scrubBursts := fun hx => absurd rfl (hnot _ hx).1
      mover := fun r hr => (nomatch hr), copying := fun hx => absurd rfl (hnot _ hx).2
      cutCopy := fun source target burst hx => ?_, cutScrub := fun b burst hx => ?_
      oneMoving := hfree.holdLaw.oneMoving }
  · cases (hblock b (State.lt_of_block hb)).symm.trans hb
  · rcases hcut _ hx with ⟨b, burst, e, -⟩ | ⟨_, _, _, e, h512, hburst⟩
    · cases e
    · cases e; exact ⟨hblock _ h512, hburst⟩
  · rcases hcut _ hx with ⟨b, burst, e, hburst⟩ | ⟨_, _, _, e, -, -⟩
    · cases e; exact ⟨hblock _ b.isLt, hburst⟩
    · cases e

end State.ZeroLaw

/-- Every operation keeps the law of FREE blocks. -/
theorem cardOps_zeroLaw : CardOps State.ZeroLaw where
  unseen hs h := hs.of_eq (by rw [h]) (by rw [h]) (by rw [h]) (by rw [h])
  mail m b hs _ := hs.of_eq rfl rfl rfl rfl
  policy m p hs _ := hs.of_eq rfl rfl rfl rfl
  watermark {s} w hs _ :=
    have hq : (s.setPool { s.pool with watermark := w }).Quiet s := ⟨rfl, rfl, rfl, rfl, rfl, rfl⟩
    hs.of_undisturbed (.of_quiet hq rfl rfl) (hs.pool.of_quiet hq)
  choose hs _ := hs.chooseStep
  rewrite r l hs hl h := hs.of_undisturbed (.setLease_samePlace _ h) (hs.pool.setLease_samePlace hl h)
  pass r hs hl := hs.of_undisturbed (.grantPass _ hl) (hs.pool.grantPass hl)
  leave m r hs hm := by
    have hl := hs.pool.live_of_holder hm
    obtain ⟨hp, hl'⟩ := hs.pool.leave hl m
    exact hs.of_undisturbed ((State.Undisturbed.settle _ r).trans (.leave _ hl m)) (hp.settle hl')
  abandon r reason hs hm := hs.abandonMove hm reason
  retire r cause hs hl := hs.retire hl cause
  create {s} m r dir len run hs hr hlen hf :=
    hs.of_undisturbed (.createLease s m (State.firstFree_free hr) (Pool.findRun_fits hf).2)
      (hs.pool.createLease m hr hlen hf)
  shrink {s} r dir run len hs hm hr h1 hlt :=
    hs.of_undisturbed (.shrinkLease s hm dir run len) (hs.pool.shrinkLease dir hm hr h1 hlt)
  grow {s} r dir run added grown len hs hl hm hr hlt hle hg :=
    hs.of_undisturbed (.growLease s hm (Pool.growthInPlace_spec hlt hg).1 grown)
      (hs.pool.growLease hl hm hr hlt hle hg)
  startMove r dir run target len hs hl hn hr hlt hle hf :=
    hs.startMove hn (Pool.findRun_fits hf).2 (hs.pool.startMove hl hn hr hlt hle hf)
  resetAll {s} hs := by
    rw [resetAllBody_eq]
    unfold State.wakeEngine
    split
    · exact hs.resetCleared.chooseStep
    · exact hs.resetCleared

end Sys2Proof.Machine
end

section
/-! ### FREE blocks hold zeros: the bursts and the data accesses (R35, R36, R116, R138 to R143) -/

namespace Sys2Proof.Machine

/-! #### What a data write stores -/

/-- The block of SRAM that a byte of a run lies in. -/
theorem Run.holds_iff (run : Run) (a : Nat) :
    run.Holds a ↔ run.base ≤ a / 4096 ∧ a / 4096 < run.base + run.len := by
  unfold Run.Holds
  omega

/-- A write that passes the checks of R138: its aperture names a lease that is EXCLUSIVE and not MOVING, and its bytes
lie in the lease's run (R140 to R143). -/
structure State.Stores (s : State) (m : Master) (x : DataAccess) (r : RecordNo) (address : Nat) (run : Run) : Prop where
  bound : ∃ h, s.aperture m x.aperture = .bound h ∧ s.Names h r
  hasRun : (s.lease r).run = some run
  inside : ∀ a, address ≤ a → a < address + widthBytes x.width → run.Holds a
  mode : (s.lease r).mode = some .exclusive
  still : (s.lease r).state ≠ .moving

/-- Bytes from a valid offset on that stay in its block lie in the run (R10, R140). -/
theorem holds_of_addressReached {dir : Direction} {run : Run} {offset n a : Nat}
    (hv : validOffset dir run.len offset = true) (hlt : offset < 1048576) (hn : offset % 4096 + n ≤ 4096)
    (h1 : addressReached dir run offset ≤ a) (h2 : a < addressReached dir run offset + n) : run.Holds a := by
  refine (Run.holds_iff run a).2 ?_
  unfold validOffset at hv
  unfold addressReached blockReached at h1 h2
  simp only [Config.blockBytes, Config.apertureBytes] at hv h1 h2
  split at hv
  · have := of_decide_eq_true hv
    simp only at h1 h2
    omega
  · have := of_decide_eq_true (Bool.and_eq_true_iff.1 hv).1
    simp only at h1 h2
    omega

/-- An aligned access does not cross the end of its block (R128). -/
theorem widthAligned_fits {w : Width} {offset : Nat} (h : widthAligned w offset = true) :
    offset % 4096 + widthBytes w ≤ 4096 := by
  have h0 : offset % widthBytes w = 0 := by simpa [widthAligned] using h
  cases w <;> simp only [widthBytes] at h0 ⊢ <;> omega

/-- The bytes of an access that reaches SRAM lie in the lease's run. -/
theorem Lease.reach_inside {l : Lease} {x : DataAccess} {address : Nat} (h : l.reach x = some address) :
    ∃ run, l.run = some run ∧ ∀ a, address ≤ a → a < address + widthBytes x.width → run.Holds a := by
  unfold Lease.reach at h
  split at h
  · next dir run _ hrun =>
    split at h
    · next hv =>
      cases h
      obtain ⟨halign, hvalid⟩ := Bool.and_eq_true_iff.1 hv
      exact ⟨run, hrun, fun a => holds_of_addressReached hvalid x.offset.isLt (widthAligned_fits halign)⟩
    · cases h
  · cases h

/-- A write is performed only where the checks let it store (R138). -/
theorem State.stores_of_perform {s : State} {m : Master} {x : DataAccess} {r : RecordNo} {address : Nat}
    (hx : x.dir = .write) (h : s.checkAccess m x = .perform r address) : ∃ run, s.Stores m x r address run := by
  unfold State.checkAccess at h
  split at h
  · cases h
  · cases h
  · next handle hbound =>
    split at h
    · next r' hr' =>
      unfold State.checkLease at h
      split at h
      · cases h
      · next address' hreach =>
        split at h
        · cases h
        · next hmode =>
          split at h
          · cases h
          · next hstill =>
            cases h
            obtain ⟨run, hrun, hinside⟩ := Lease.reach_inside hreach
            exact ⟨run, ⟨handle, hbound, (s.validate_iff _ _).1 hr'⟩, hrun, hinside,
              not_not.1 fun hne => hmode ⟨hx, hne⟩, fun hm => hstill ⟨hx, hm⟩⟩
    · cases h

/-- A write stores nothing outside its bytes. -/
theorem read_storeLanes {mem : Memory} (h : mem.wf = true) (lanes : Word) (address lane n a : Nat)
    (ha : ¬ (address ≤ a ∧ a < address + n)) : (storeLanes mem lanes address lane n).read a = mem.read a := by
  induction n with
  | zero => rfl
  | succ n ih =>
    rw [storeLanes, Memory.read_write (wf_storeLanes h _ _ _ _), if_neg (by omega)]
    exact ih (by omega)

/-- What the port serves either leaves the records and SRAM, or stores in the run of a lease. -/
theorem State.serve_stores {s : State} (hs : s.SramLaw) (x : Transfer) :
    (∃ b a, s.serve x = { s with mailboxes := b, busAnswer := a }) ∨
      ∃ m r address run mem a, x.master.toNat = m.val ∧ x.dir = .write ∧
        s.Stores m (dataAccess x.address x.dir x.width x.lanes) r address run ∧ mem.wf = true ∧
        (∀ a, ¬ run.Holds a → mem.read a = s.byteAt a) ∧
        s.serve x = { (s.setSram mem).setLease r { s.lease r with written := true } with busAnswer := a } := by
  rcases s.serve_cases x with hsame | ⟨m, r, address, hm, hx, hc, e⟩
  · exact .inl hsame
  · obtain ⟨run, hstores⟩ := State.stores_of_perform hx hc
    have hnumber : x.master.toNat = m.val := by
      unfold masterOfNumber at hm
      split at hm <;> cases hm
      rfl
    refine .inr ⟨m, r, address, run, _, _, hnumber, hx, hstores, wf_storeLanes hs _ _ _ _, fun a ha => ?_, e⟩
    exact read_storeLanes hs _ _ _ _ _ fun hin => ha (hstores.inside a hin.1 hin.2)

/-! #### Changes of SRAM that keep FREE blocks zero -/

namespace State.ZeroLaw

variable {s : State}

/-- Bytes change that become 0, or that lie in no FREE block and not in the block being filled. -/
theorem setSram (h : s.ZeroLaw) {mem : Memory} (wf : mem.wf = true)
    (only : ∀ x, mem.read x = s.byteAt x ∨ mem.read x = 0 ∨ s.block (x / 4096) ≠ some .free ∧
      (s.engine.step = some .scrub → s.block (x / 4096) ≠ some .scrub)) : (s.setSram mem).ZeroLaw where
  pool := h.pool.of_quiet (s.setSram_quiet mem)
  sram := wf
  zero b i hb hi := by
    rcases only (b * 4096 + i) with e | e | ⟨hne, -⟩
    · exact e.trans (h.zero b i hb hi)
    · exact e
    · rw [show (b * 4096 + i) / 4096 = b by omega] at hne
      exact absurd hb hne
  filled b i hstep hblock hi := by
    have hburst := h.scrubBursts hstep
    change i < s.engine.scrubber.burstsDone * 64 at hi
    rcases only (b.val * 4096 + i) with e | e | ⟨-, hne⟩
    · exact e.trans (h.filled b i hstep hblock hi)
    · exact e
    · have hne := hne hstep
      rw [show (b.val * 4096 + i) / 4096 = b.val by omega] at hne
      exact absurd (h.pool.scrubbing b hstep hblock) hne
  scrubBursts := h.scrubBursts
  mover := h.mover
  copying := h.copying
  cutCopy := h.cutCopy
  cutScrub := h.cutScrub
  oneMoving := h.oneMoving

theorem serve (h : s.ZeroLaw) (x : Transfer) : (s.serve x).ZeroLaw := by
  rcases State.serve_stores h.sram x with ⟨b, a, e⟩ | ⟨m, r, address, run, mem, a, -, -, hst, hwf, hout, e⟩
  · rw [e]
    exact h.of_eq rfl rfl rfl rfl
  · obtain ⟨handle, -, hnames⟩ := hst.bound
    have hmem : (s.setSram mem).ZeroLaw := by
      refine h.setSram hwf fun y => ?_
      by_cases hy : run.Holds y
      · obtain ⟨h1, h2⟩ := (Run.holds_iff run y).1 hy
        rw [h.pool.run_block hst.hasRun _ h1 h2]
        exact .inr (.inr ⟨by simp, fun _ => by simp⟩)
      · exact .inl (hout y hy)
    rw [e]
    refine (cardOps_zeroLaw.rewrite r _ hmem hnames.live ?_).of_eq rfl rfl rfl rfl
    exact ⟨rfl, rfl, hnames.live, Iff.rfl⟩

end State.ZeroLaw

/-! #### What a burst writes -/

/-- The bytes of SRAM after a zero-fill burst (R35). -/
theorem State.zeroBurst_byteAt (s : State) (block burst x : Nat) :
    (s.zeroBurst block burst).byteAt x =
      if block * 4096 + burst * 64 ≤ x ∧ x < block * 4096 + burst * 64 + 64 then 0 else s.byteAt x := by
  unfold State.byteAt State.zeroBurst
  rw [State.setSram_sram]
  exact Memory.read_zero _ _ _ _

/-- The bytes of SRAM after a copy burst (R116). -/
theorem State.copyBurst_byteAt {s : State} (h : s.SramLaw) (source target burst x : Nat) :
    (s.copyBurst source target burst).byteAt x =
      if target * 4096 + burst * 64 ≤ x ∧ x < target * 4096 + burst * 64 + 64 then
        s.byteAt (source * 4096 + burst * 64 + (x - (target * 4096 + burst * 64)))
      else s.byteAt x := by
  unfold State.byteAt State.copyBurst
  rw [State.setSram_sram]
  exact Memory.read_copy h _ _ _ _

/-- A zero-fill burst writes its block only. -/
theorem State.zeroBurst_outside (s : State) {block burst x : Nat} (hb : burst < 64) (hx : x / 4096 ≠ block) :
    (s.zeroBurst block burst).byteAt x = s.byteAt x := by
  rw [State.zeroBurst_byteAt]
  exact if_neg (by omega)

/-- A copy burst writes its target block only. -/
theorem State.copyBurst_outside {s : State} (h : s.SramLaw) {source target burst x : Nat} (hb : burst < 64)
    (hx : x / 4096 ≠ target) : (s.copyBurst source target burst).byteAt x = s.byteAt x := by
  rw [State.copyBurst_byteAt h]
  exact if_neg (by omega)

namespace State.ZeroLaw

variable {s : State}

theorem zeroBurst (h : s.ZeroLaw) (block burst : Nat) : (s.zeroBurst block burst).ZeroLaw := by
  refine h.setSram (h.sram.zeroBurst block burst) fun x => ?_
  have hx := s.zeroBurst_byteAt block burst x
  split at hx
  · exact .inr (.inl hx)
  · exact .inl hx

/-- A copy burst into a block that is not FREE and not being filled. -/
theorem copyBurst (h : s.ZeroLaw) {source target burst : Nat} (hb : burst < 64) (hfree : s.block target ≠ some .free)
    (hscrub : s.engine.step = some .scrub → s.block target ≠ some .scrub) :
    (s.copyBurst source target burst).ZeroLaw := by
  unfold State.copyBurst
  refine h.setSram (Memory.wf_copy h.sram _ _ _) fun x => ?_
  by_cases hx : x / 4096 = target
  · exact .inr (.inr (hx ▸ ⟨hfree, hscrub⟩))
  · have hsame := State.copyBurst_outside h.sram (source := source) hb hx
    unfold State.byteAt State.copyBurst at hsame
    rw [State.setSram_sram] at hsame
    exact .inl hsame

/-- The mover's burst writes its target run (R116). -/
theorem moverBurst_block (h : s.ZeroLaw) (step : s.engine.step = some .copy) {r : RecordNo}
    (record : s.engine.mover.record = some r) :
    s.block ((s.lease r).targetBlock s.engine.mover.blocksCopied) = some (.target r) ∧
      s.engine.mover.burstsDone < 64 := by
  obtain ⟨r', hr', hlt, hburst⟩ := h.copying step
  cases record.symm.trans hr'
  obtain ⟨target, ht, h1, h2, -⟩ := h.target_block (h.mover _ record) hlt
  exact ⟨h.pool.target_block ht _ h1 h2, hburst⟩

theorem moverBurst (h : s.ZeroLaw) (step : s.engine.step = some .copy) {r : RecordNo}
    (record : s.engine.mover.record = some r) : (s.moverBurst r).ZeroLaw := by
  obtain ⟨hblock, hburst⟩ := h.moverBurst_block step record
  exact h.copyBurst hburst (by simp [hblock]) fun e => by simp [step] at e

theorem checkReady (h : s.ZeroLaw) : s.checkReady.ZeroLaw := by
  have hq := s.checkReady_quiet
  have hengine : s.checkReady.engine = s.engine := by unfold State.checkReady; split <;> rfl
  exact h.of_undisturbed (.of_quiet hq hengine s.checkReady_sram) (h.pool.of_quiet hq)

/-- The block that the scrubber has filled becomes FREE and holds zeros (R36). -/
theorem endScrubStep (h : s.ZeroLaw) {b : Block} (step : s.engine.step = some .scrub)
    (block : s.engine.scrubber.block = some b) (full : ∀ i, i < 4096 → s.byteAt (b.val * 4096 + i) = 0) :
    (s.endScrubStep b).ZeroLaw := by
  have hfreed : ((s.setPool (s.pool.freeBlock b)).setEngine s.engine.endScrub).ZeroLaw := by
    refine
      { pool := leaseOps_poolLaw.freeBlock b h.pool step block, sram := h.sram, zero := fun c i hc hi => ?_
        filled := fun _ _ _ e => (nomatch e), scrubBursts := fun _ => Nat.zero_lt_succ 63, mover := h.mover
        copying := h.copying, cutCopy := fun _ _ _ e => ?_, cutScrub := fun _ _ e => ?_, oneMoving := h.oneMoving }
    · by_cases hcb : c = b.val
      · subst hcb; exact full i hi
      · refine h.zero c i ?_ hi
        rw [← hc]
        exact (List.getElem?_set_ne fun e => hcb e.symm).symm
    · cases step.symm.trans e
    · cases step.symm.trans e
  exact hfreed.checkReady.chooseStep

/-- A completed move, while the engine has no step: the target run becomes the run and the old one goes to SCRUB, so no
block becomes FREE (R120). -/
theorem completeMove (h : s.ZeroLaw) (r : RecordNo) :
    ((s.completeMove r).setEngine (s.completeMove r).engine.goIdle).ZeroLaw := by
  have hengine : (s.completeMove r).engine = s.engine.endMove := by
    obtain ⟨b, hb⟩ := State.forMasters_frame
      (((s.swapRuns r).addOwnedBy (s.lease r).owner 0 ((s.lease r).targetLength - (s.lease r).length)).setEngine
        s.engine.endMove) (s.lease r).holders
      (fun s' m => s'.endMove m
        { handle := s.handle r, result := some .done, reason := .none, length := (s.lease r).targetLength })
      fun _ _ => ⟨_, rfl⟩
    unfold State.completeMove
    rw [hb]
    rfl
  have hswap : (∀ b, (s.swapRuns r).block b = some .free → s.block b = some .free) ∧
      ∀ r', ((s.swapRuns r).lease r').state = .moving → (s.lease r').state = .moving := by
    rcases s.swapRuns_cases r with ⟨-, e⟩ | ⟨target, -, e⟩
    · rw [e]; exact ⟨fun _ => id, fun _ => id⟩
    · rw [e]
      constructor
      · intro b hb
        have hmark := (Undisturbed.scrubRun (s.setPool (s.pool.remark target (.run r))) (s.lease r).run).free b hb
        rw [State.block_of_setRun (s := s) (run := target) (x := .run r) rfl] at hmark
        split at hmark
        · cases hmark
        · exact hmark
      · intro r' hr'
        rw [State.lease_setLease, State.lease_scrubRun] at hr'
        split at hr'
        · cases hr'
        · exact hr'
  have hlease : ∀ r', ((s.completeMove r).lease r').state = .moving → (s.lease r').state = .moving := fun r' hr' =>
    hswap.2 r' (by rw [(s.completeMove_quiet r).lease] at hr'; exact hr')
  have hsram := (s.completeMove_frame r).1
  rw [hengine]
  refine
    { pool := (h.pool.completeMove r).setEngine fun _ e => (nomatch e), sram := h.sram.of_eq hsram
      zero := fun b i hb hi => ?_, filled := fun _ _ e => (nomatch e), scrubBursts := fun e => (nomatch e)
      mover := fun _ e => (nomatch e), copying := fun e => (nomatch e), cutCopy := fun _ _ _ e => (nomatch e)
      cutScrub := fun _ _ e => (nomatch e)
      oneMoving := fun a b ha hb => h.oneMoving a b (hlease a ha) (hlease b hb) }
  have hfree := hswap.1 b (((s.completeMove_quiet r).blocks b).symm.trans hb)
  exact (congrArg (·.read (b * 4096 + i)) hsram).trans (h.zero b i hfree hi)

end State.ZeroLaw

/-- The end of a burst keeps the law: a zero-fill burst goes on from where the block is filled, a copy burst writes a
TARGET block or, once cut, a SCRUB block. -/
theorem State.BurstEnds.zeroLaw {s u : State} {c : Instr} (hu : s.BurstEnds c u) (h : s.ZeroLaw) : u.ZeroLaw := by
  cases hu with
  | @scrub b step block more =>
    have hburst := h.scrubBursts step
    refine (h.zeroBurst b.1 s.engine.scrubber.burstsDone).setEngine
      (h.pool.of_quiet ((s.zeroBurst_quiet b.1 _).setEngine_count rfl rfl)) (fun b' i _ hblock hi => ?_) (fun _ => ?_)
      h.mover (fun e => by cases step.symm.trans e) (fun x hx => .inl (Option.some.inj (hx.symm.trans step)))
    · cases block.symm.trans hblock
      change i < (s.engine.scrubber.burstsDone + 1) * 64 at hi
      rw [State.zeroBurst_byteAt]
      split
      · rfl
      · exact h.filled b i step block (by omega)
    · show s.engine.scrubber.burstsDone + 1 < 64
      omega
  | @scrubBlock b step block last =>
    refine (h.zeroBurst b.1 63).endScrubStep step block fun i hi => ?_
    rw [State.zeroBurst_byteAt]
    split
    · rfl
    · exact h.filled b i step block (by omega)
  | cutScrub => exact (h.zeroBurst _ _).chooseStep
  | @copy r step record more =>
    have hm := h.moverBurst step record
    obtain ⟨r', hr', hlt, -⟩ := hm.copying step
    have hburst := (h.moverBurst_block step record).2
    exact hm.setEngine (h.pool.of_quiet ((s.moverBurst_quiet r).setEngine_count rfl rfl))
      (fun _ _ e => by cases step.symm.trans e) (fun e => by cases step.symm.trans e) hm.mover
      (fun _ => ⟨r', hr', hlt, show s.engine.mover.burstsDone + 1 < 64 by omega⟩)
      (fun x hx => .inr (Option.some.inj (hx.symm.trans step)))
  | @cutCopy source target burst step =>
    obtain ⟨hblock, hburst⟩ := h.cutCopy source target burst step
    exact (h.copyBurst hburst (by simp [hblock]) fun e => by cases step.symm.trans e).chooseStep
  | @copyBlock r step record last more =>
    have hm := h.moverBurst step record
    rw [← (s.moverBurst_quiet r).lease r] at more
    exact (hm.setEngine (e := s.engine.countCopyBlock) (h.pool.of_quiet ((s.moverBurst_quiet r).setEngine_count rfl rfl))
      (fun _ _ e => by cases step.symm.trans e) (fun e => by cases step.symm.trans e) hm.mover
      (fun _ => ⟨r, record, more, Nat.zero_lt_succ 63⟩)
      (fun x hx => .inr (Option.some.inj (hx.symm.trans step)))).chooseStep
  | @complete r step record last all =>
    rw [← State.chooseStep_goIdle]
    exact ((h.moverBurst step record).completeMove r).chooseStep

/-- Settles O59. -/
theorem stepKeepsFreeBlocksZero : Obligations.StepKeepsFreeBlocksZero := fun _ _ ht hs =>
  cardOps_zeroLaw.step (fun _ h _ => h.of_eq rfl rfl rfl rfl) (fun x h => h.serve x)
    (fun h hu => (hu.zeroLaw h).of_eq rfl rfl rfl rfl) (fun s => s.systemReset_atReset.zeroLaw) ht hs

end Sys2Proof.Machine
end

section
/-! ### The end of a burst does not look at the access that waits (R44) -/

namespace Sys2Proof.Machine

/-- A change of the card that neither looks at the access that waits at the port nor touches it. -/
def State.PortBlind (f : State → State) : Prop := ∀ s w, f (s.setPortWait w) = (f s).setPortWait w

namespace State.PortBlind

variable {f g : State → State}

theorem comp (hg : PortBlind g) (hf : PortBlind f) : PortBlind fun s => g (f s) := fun s w =>
  (congrArg g (hf s w)).trans (hg (f s) w)

theorem portWait (hf : PortBlind f) (s : State) : (f s).portWait = s.portWait := by
  have h := hf s s.portWait
  rw [show s.setPortWait s.portWait = s from rfl] at h
  rw [h]
  rfl

theorem setEngine (hf : PortBlind f) {e : State → Engine} (he : ∀ s w, e (s.setPortWait w) = e s) :
    PortBlind fun s => (f s).setEngine (e s) := fun s w => by
  dsimp only
  rw [he, hf]
  rfl

theorem setSram (mem : State → Memory) (h : ∀ s w, mem (s.setPortWait w) = mem s) :
    PortBlind fun s => s.setSram (mem s) := fun s w => by
  dsimp only
  rw [h]
  rfl

theorem zeroBurst {block burst : State → Nat} (hblock : ∀ s w, block (s.setPortWait w) = block s)
    (hburst : ∀ s w, burst (s.setPortWait w) = burst s) : PortBlind fun s => s.zeroBurst (block s) (burst s) :=
  setSram _ fun s w => by rw [hblock, hburst, State.setPortWait_sram]

theorem copyBurst (source target burst : Nat) : PortBlind fun s => s.copyBurst source target burst :=
  setSram _ fun s w => by rw [State.setPortWait_sram]

theorem moverBurst (r : RecordNo) : PortBlind fun s => s.moverBurst r := fun s w => by
  dsimp only
  unfold State.moverBurst
  rw [show (s.setPortWait w).lease r = s.lease r from rfl, State.setPortWait_engine]
  exact copyBurst _ _ _ s w

theorem chooseStep : PortBlind State.chooseStep := fun s w => by
  rw [State.chooseStep_congr (s := s) (t := s.setPortWait w) rfl rfl rfl]
  obtain ⟨e, he⟩ := s.chooseStep_frame
  rw [he]
  rfl

theorem checkReady : PortBlind State.checkReady := fun s w => by
  unfold State.checkReady
  rw [State.setPortWait_pool]
  split <;> rfl

theorem endScrubStep (b : Block) : PortBlind fun s => s.endScrubStep b :=
  chooseStep.comp (checkReady.comp fun _ _ => rfl)

theorem forMasters {set : MasterSet} {change : State → Master → State}
    (h : ∀ m, PortBlind fun s => change s m) : PortBlind fun s => s.forMasters set change := fun _ w =>
  List.foldl_hom (fun u : State => u.setPortWait w) fun u m => h m u w

theorem scrubRun (run : Option Run) : PortBlind fun s => s.scrubRun run := fun _ _ => by cases run <;> rfl

theorem addOwnedBy (owner : Option Master) (a b : Nat) : PortBlind fun s => s.addOwnedBy owner a b := fun _ _ => by
  cases owner <;> rfl

theorem swapRuns (r : RecordNo) : PortBlind fun s => s.swapRuns r := fun s w => by
  dsimp only
  unfold State.swapRuns
  rw [show (s.setPortWait w).lease r = s.lease r from rfl]
  split
  · next target _ =>
    have h := scrubRun (s.lease r).run (s.setPool (s.pool.remark target (.run r))) w
    exact congrArg (fun u : State => u.setLease r _) h
  · rfl

theorem completeMove (r : RecordNo) : PortBlind fun s => s.completeMove r := fun s w => by
  have hswap := swapRuns r s w
  have hrun := addOwnedBy (s.lease r).owner 0 ((s.lease r).targetLength - (s.lease r).length) (s.swapRuns r) w
  dsimp only at hswap hrun ⊢
  unfold State.completeMove
  rw [show (s.setPortWait w).lease r = s.lease r from rfl, hswap, hrun]
  exact forMasters (fun _ _ _ => rfl) (State.setEngine _ _) w

end State.PortBlind

/-- What a burst does, with the access that waits at the port left aside. -/
theorem State.BurstEnds.portBlind {s u : State} {c : Instr} (h : s.BurstEnds c u) :
    ∃ f, State.PortBlind f ∧ u = f s ∧ ∀ w, (s.setPortWait w).BurstEnds c (f (s.setPortWait w)) := by
  have zero (block burst : Nat) : State.PortBlind fun s => s.zeroBurst block burst :=
    .zeroBurst (fun _ _ => rfl) fun _ _ => rfl
  cases h with
  | @scrub b step block more =>
    exact ⟨fun s => (s.zeroBurst b.1 s.engine.scrubber.burstsDone).setEngine s.engine.countScrubBurst,
      .setEngine (.zeroBurst (block := fun _ => b.1) (fun _ _ => rfl) fun _ _ => rfl) fun _ _ => rfl, rfl,
      fun w => .scrub step block more⟩
  | @scrubBlock b step block last =>
    exact ⟨fun s => (s.zeroBurst b.1 63).endScrubStep b, (State.PortBlind.endScrubStep b).comp (zero b.1 63), rfl,
      fun w => .scrubBlock step block last⟩
  | @cutScrub b burst _ step command =>
    exact ⟨fun s => (s.zeroBurst b.1 burst).chooseStep, State.PortBlind.chooseStep.comp (zero b.1 burst), rfl,
      fun w => .cutScrub step command⟩
  | @copy r step record more =>
    exact ⟨fun s => (s.moverBurst r).setEngine s.engine.countCopyBurst,
      .setEngine (.moverBurst r) fun _ _ => rfl, rfl, fun w => .copy step record more⟩
  | @cutCopy source target burst step =>
    exact ⟨fun s => (s.copyBurst source target burst).chooseStep,
      State.PortBlind.chooseStep.comp (.copyBurst source target burst), rfl, fun w => .cutCopy step⟩
  | @copyBlock r step record last more =>
    exact ⟨fun s => ((s.moverBurst r).setEngine s.engine.countCopyBlock).chooseStep,
      State.PortBlind.chooseStep.comp (.setEngine (.moverBurst r) fun _ _ => rfl), rfl,
      fun w => .copyBlock step record last more⟩
  | @complete r step record last all =>
    exact ⟨fun s => ((s.moverBurst r).completeMove r).chooseStep,
      State.PortBlind.chooseStep.comp ((State.PortBlind.completeMove r).comp (.moverBurst r)), rfl,
      fun w => .complete step record last all⟩

/-- The access that waits is there still when the burst has ended. -/
theorem State.BurstEnds.portWait {s u : State} {c : Instr} (h : s.BurstEnds c u) : u.portWait = s.portWait := by
  obtain ⟨f, hf, rfl, -⟩ := h.portBlind
  exact hf.portWait s

/-- A burst ends in one way whatever waits at the port. -/
theorem State.BurstEnds.setPortWait {s u : State} {c : Instr} (h : s.BurstEnds c u) (w : Option Transfer) :
    (s.setPortWait w).BurstEnds c (u.setPortWait w) := by
  obtain ⟨f, hf, rfl, hends⟩ := h.portBlind
  rw [← hf s w]
  exact hends w

end Sys2Proof.Machine
end

section
/-! ### Nothing but its holder's write changes a lease's data (R27, R44, R117, R141) -/

namespace Sys2Proof.Machine

theorem State.byteAt_of_sram {s t : State} (h : t.sram = s.sram) (x : Nat) : t.byteAt x = s.byteAt x := by
  unfold State.byteAt
  rw [h]

@[simp] theorem State.byteAt_chooseStep (s : State) (x : Nat) : s.chooseStep.byteAt x = s.byteAt x :=
  State.byteAt_of_sram s.chooseStep_sram x

@[simp] theorem State.byteAt_setEngine (s : State) (e : Engine) (x : Nat) : (s.setEngine e).byteAt x = s.byteAt x :=
  State.byteAt_of_sram (s.setEngine_sram e) x

@[simp] theorem State.byteAt_endScrubStep (s : State) (b : Block) (x : Nat) :
    (s.endScrubStep b).byteAt x = s.byteAt x := State.byteAt_of_sram (s.endScrubStep_sram b) x

@[simp] theorem State.byteAt_completeMove (s : State) (r : RecordNo) (x : Nat) :
    (s.completeMove r).byteAt x = s.byteAt x := State.byteAt_of_sram (s.completeMove_frame r).1 x

/-- A burst changes bytes of SCRUB and TARGET blocks only (R27, R117). -/
theorem State.BurstEnds.byteAt {s u : State} {c : Instr} (hu : s.BurstEnds c u) (h : s.ZeroLaw) {x : Nat}
    {r : RecordNo} (hx : s.block (x / 4096) = some (.run r)) : u.byteAt x = s.byteAt x := by
  have zero : ∀ {b : Block} {burst : Nat}, s.block b.val = some .scrub → burst < 64 →
      (s.zeroBurst b.1 burst).byteAt x = s.byteAt x := fun {b burst} hb hburst =>
    s.zeroBurst_outside hburst fun e => by rw [e, hb] at hx; cases hx
  have copy : ∀ {r' : RecordNo}, s.engine.step = some .copy → s.engine.mover.record = some r' →
      (s.moverBurst r').byteAt x = s.byteAt x := fun {r'} step record => by
    obtain ⟨hblock, hburst⟩ := h.moverBurst_block step record
    exact State.copyBurst_outside h.sram hburst fun e => by rw [e, hblock] at hx; cases hx
  cases hu with
  | scrub step block more =>
    rw [State.byteAt_setEngine]
    exact zero (h.pool.scrubbing _ step block) (h.scrubBursts step)
  | scrubBlock step block last =>
    rw [State.byteAt_endScrubStep]
    exact zero (h.pool.scrubbing _ step block) (by decide)
  | cutScrub step command =>
    obtain ⟨hblock, hburst⟩ := h.cutScrub _ _ step
    rw [State.byteAt_chooseStep]
    exact zero hblock hburst
  | copy step record more =>
    rw [State.byteAt_setEngine]
    exact copy step record
  | cutCopy step =>
    obtain ⟨hblock, hburst⟩ := h.cutCopy _ _ _ step
    rw [State.byteAt_chooseStep]
    exact State.copyBurst_outside h.sram hburst fun e => by rw [e, hblock] at hx; cases hx
  | copyBlock step record last more =>
    rw [State.byteAt_chooseStep, State.byteAt_setEngine]
    exact copy step record
  | complete step record last all =>
    rw [State.byteAt_chooseStep, State.byteAt_completeMove]
    exact copy step record

theorem State.completeMove_apertures (s : State) (r : RecordNo) : (s.completeMove r).apertures = s.apertures := by
  have hswap : (s.swapRuns r).apertures = s.apertures := by
    rcases s.swapRuns_cases r with ⟨-, e⟩ | ⟨target, -, e⟩
    · rw [e]
    · rw [e]; cases (s.lease r).run <;> rfl
  obtain ⟨x, hx⟩ := (s.swapRuns r).addOwnedBy_frame (s.lease r).owner 0
    ((s.lease r).targetLength - (s.lease r).length)
  obtain ⟨b, hb⟩ := State.forMasters_frame
    (((s.swapRuns r).addOwnedBy (s.lease r).owner 0 ((s.lease r).targetLength - (s.lease r).length)).setEngine
      s.engine.endMove) (s.lease r).holders
    (fun s' m => s'.endMove m
      { handle := s.handle r, result := some .done, reason := .none, length := (s.lease r).targetLength })
    fun _ _ => ⟨_, rfl⟩
  unfold State.completeMove
  rw [hb, hx]
  exact hswap

theorem State.completeMove_lease_cases (s : State) (r r' : RecordNo) :
    (s.completeMove r).lease r' = s.lease r' ∨
      ∃ target, (s.lease r').target = some target ∧ (s.completeMove r).lease r' = (s.lease r').onTarget target := by
  have hlease : (s.completeMove r).lease r' = (s.swapRuns r).lease r' := (s.completeMove_quiet r).lease r'
  rw [hlease]
  rcases s.swapRuns_cases r with ⟨-, e⟩ | ⟨target, ht, e⟩
  · exact .inl (by rw [e])
  · rw [e, State.lease_setLease, State.lease_scrubRun]
    split
    · next hr => subst hr; exact .inr ⟨target, ht, rfl⟩
    · exact .inl rfl

theorem State.zeroBurst_apertures (s : State) (block burst : Nat) :
    (s.zeroBurst block burst).apertures = s.apertures := State.setSram_apertures _ _

theorem State.copyBurst_apertures (s : State) (source target burst : Nat) :
    (s.copyBurst source target burst).apertures = s.apertures := State.setSram_apertures _ _

theorem State.moverBurst_apertures (s : State) (r : RecordNo) : (s.moverBurst r).apertures = s.apertures :=
  s.copyBurst_apertures _ _ _

/-- A burst leaves the apertures and the records, but for one that goes on its target run (R120). -/
theorem State.BurstEnds.leases {s u : State} {c : Instr} (hu : s.BurstEnds c u) :
    u.apertures = s.apertures ∧ ∀ r, u.lease r = s.lease r ∨
      ∃ target, (s.lease r).target = some target ∧ u.lease r = (s.lease r).onTarget target := by
  cases hu with
  | @scrub b =>
    refine ⟨?_, fun r => .inl ?_⟩
    · rw [State.setEngine_apertures, State.zeroBurst_apertures]
    · rw [State.lease_setEngine, (s.zeroBurst_quiet _ _).lease]
  | @scrubBlock b =>
    obtain ⟨p, x, e, he, -⟩ := (s.zeroBurst b.1 63).endScrubStep_frame b
    rw [he]
    exact ⟨s.zeroBurst_apertures b.1 63, fun r => .inl ((s.zeroBurst_quiet b.1 63).lease r)⟩
  | cutScrub =>
    refine ⟨?_, fun r => .inl ?_⟩
    · rw [State.chooseStep_apertures, State.zeroBurst_apertures]
    · rw [State.lease_chooseStep, (s.zeroBurst_quiet _ _).lease]
  | copy =>
    refine ⟨?_, fun r => .inl ?_⟩
    · rw [State.setEngine_apertures, State.moverBurst_apertures]
    · rw [State.lease_setEngine, (s.moverBurst_quiet _).lease]
  | cutCopy =>
    refine ⟨?_, fun r => .inl ?_⟩
    · rw [State.chooseStep_apertures, State.copyBurst_apertures]
    · rw [State.lease_chooseStep, (s.copyBurst_quiet _ _ _).lease]
  | copyBlock =>
    refine ⟨?_, fun r => .inl ?_⟩
    · rw [State.chooseStep_apertures, State.setEngine_apertures, State.moverBurst_apertures]
    · rw [State.lease_chooseStep, State.lease_setEngine, (s.moverBurst_quiet _).lease]
  | @complete r =>
    refine ⟨?_, fun r' => ?_⟩
    · rw [State.chooseStep_apertures, State.completeMove_apertures, State.moverBurst_apertures]
    · rw [State.lease_chooseStep, ← (s.moverBurst_quiet r).lease r']
      exact State.completeMove_lease_cases _ r r'

/-- What an access served at the port stores in a lease's run is its holder's write. -/
theorem State.serve_byteAt {s : State} (h : s.SramLaw) {w : Transfer} {x : Nat}
    (hne : (s.serve w).byteAt x ≠ s.byteAt x) :
    ∃ m r address run, w.master.toNat = m.val ∧ w.dir = .write ∧ run.Holds x ∧
      s.Stores m (dataAccess w.address w.dir w.width w.lanes) r address run := by
  rcases State.serve_stores h w with ⟨b, a, e⟩ | ⟨m, r, address, run, mem, a, hm, hd, hst, -, hout, e⟩
  · exact absurd (by rw [e]; rfl) hne
  · refine ⟨m, r, address, run, hm, hd, ?_, hst⟩
    by_contra hx
    exact hne (by rw [e]; exact hout x hx)

/-- A write that stores in the run of a record, in a card where that record is the only one to have the byte: its master
is the one holder, and the lease is HELD (R11, R129, R141). -/
theorem State.Stores.holder {s : State} {m : Master} {x : DataAccess} {r : RecordNo} {address : Nat} {run : Run}
    (h : s.Stores m x r address run) (hs : s.BoundLaw) :
    (s.lease r).holders = MasterSet.single m ∧ (s.lease r).mode = some .exclusive ∧ (s.lease r).state = .held := by
  obtain ⟨handle, hbound, hnames⟩ := h.bound
  obtain ⟨r', hnames', hmem⟩ := hs.bound _ _ _ hbound
  cases hnames.unique hnames'
  obtain ⟨m', hm'⟩ := hs.hold.exclusive r h.mode
  have hmm : m' = m := MasterSet.eq_of_mem_single (hm' ▸ hmem)
  exact ⟨hmm ▸ hm', h.mode, (hs.hold.rule r).held_of_holder (MasterSet.ne_zero_of_mem hmem) h.still⟩

/-- An access that stores in the run of a lease, served on a card whose record of that lease is as it was: it is the
holder's write. -/
theorem State.serve_changes_run {s u : State} (hs : s.ZeroLaw) (hb : s.BoundLaw) (hu : u.SramLaw)
    (apertures : u.apertures = s.apertures)
    (leases : ∀ r, u.lease r = s.lease r ∨
      ∃ target, (s.lease r).target = some target ∧ u.lease r = (s.lease r).onTarget target)
    {w : Transfer} {r : RecordNo} {run : Run} {x : Nat} (hrun : (s.lease r).run = some run) (hx : run.Holds x)
    (hne : (u.serve w).byteAt x ≠ u.byteAt x) :
    ∃ m : Master, w.dir = .write ∧ w.master.toNat = m.val ∧ (s.lease r).holders = MasterSet.single m ∧
      (s.lease r).mode = some .exclusive ∧ (s.lease r).state = .held := by
  obtain ⟨m, r', address, run', hm, hd, hx', hst⟩ := State.serve_byteAt hu hne
  obtain ⟨h1, h2⟩ := (Run.holds_iff run x).1 hx
  obtain ⟨h1', h2'⟩ := (Run.holds_iff run' x).1 hx'
  have hblock := hs.pool.run_block hrun _ h1 h2
  have hrun' := hst.hasRun
  rcases leases r' with hsame | ⟨target, htarget, hon⟩
  · rw [hsame] at hrun'
    cases Option.some.inj (hblock.symm.trans (hs.pool.run_block hrun' _ h1' h2'))
    have hst' : s.Stores m (dataAccess w.address w.dir w.width w.lanes) r address run' := by
      obtain ⟨handle, hbound, hnames⟩ := hst.bound
      have haperture : s.aperture m (dataAccess w.address w.dir w.width w.lanes).aperture = .bound handle := by
        rw [← hbound]
        unfold State.aperture
        rw [apertures]
      exact ⟨⟨handle, haperture, hnames.number, hsame ▸ hnames.live, hsame ▸ hnames.generation⟩, hrun', hst.inside,
        hsame ▸ hst.mode, hsame ▸ hst.still⟩
    exact ⟨m, hd, hm, hst'.holder hb⟩
  · rw [hon] at hrun'
    cases hrun'
    cases hblock.symm.trans (hs.pool.target_block htarget _ h1' h2')

/-- Settles O39: only data accesses and bursts change SRAM, bursts change no byte of a run, and what an access stores in
a run is its holder's write. -/
theorem onlyTheHolderWritesALease : Obligations.OnlyTheHolderWritesALease := by
  intro s t c hs hb hreset ht r run x hrun hx hne
  have hblock : s.block (x / 4096) = some (.run r) := by
    obtain ⟨h1, h2⟩ := (Run.holds_iff run x).1 hx
    exact hs.pool.run_block hrun _ h1 h2
  rcases exec_kinds ht with ⟨e, -⟩ | ⟨w, hc, rfl⟩ | ⟨hc, rfl | ⟨u, hu, rfl⟩⟩ | ⟨hdata, hburst, -⟩
  · exact absurd e hreset
  · rcases s.takeTransfer_cases w with e | ⟨-, e⟩ | ⟨-, e⟩
    · exact absurd (by rw [e]) hne
    · rw [e] at hne
      obtain ⟨m, hm⟩ := State.serve_changes_run hs hb hs.sram rfl (fun _ => .inl rfl) hrun hx hne
      exact ⟨w, m, .inl hc, hm⟩
    · exact absurd (by rw [e]; rfl) hne
  · exact absurd rfl hne
  · obtain ⟨hap, hleases⟩ := hu.leases
    rw [← hu.byteAt hs hblock] at hne
    cases hw : u.portWait with
    | none => exact absurd (by rw [State.servePort_none hw]) hne
    | some w =>
      rw [State.servePort_some hw] at hne
      obtain ⟨m, hm⟩ := State.serve_changes_run (u := u.setPortWait none) hs hb (hu.sramLaw hs.sram) hap hleases
        hrun hx hne
      exact ⟨w, m, .inr ⟨hc, hu.portWait ▸ hw⟩, hm⟩
  · exact absurd (State.byteAt_of_sram ((cardOps_sram s).exec hdata hburst hreset ht rfl) x) hne

end Sys2Proof.Machine
end

section
/-! ### The engine and the port take turns (R35, R42, R44, R137) -/

namespace Sys2Proof.Machine

theorem State.InDataWindow.decodesData {s : State} {address : BitVec 32} (h : s.InDataWindow address) :
    s.decodesData address = true := by
  unfold State.decodesData addressBase inControlSpace
  rw [h.window, h.half, beq_self_eq_true]
  rfl

/-- Settles O34: the choice case by case, the access at the free and at the busy port, and a burst that ends in one way
whatever waits. -/
theorem engineAndPortTakeTurns : Obligations.EngineAndPortTakeTurns := by
  refine ⟨fun s => ⟨fun hm hs => State.chooseStep_copy hm hs, fun hs hm b hb => State.chooseStep_scrub hs hm hb,
    fun hm hs => State.chooseStep_idle hm hs⟩, fun s x hwindow hlanes => ?_, fun s t x hx c hc ht hne => ?_⟩
  · rw [exec_dataCommand hlanes, State.takeTransfer_decoded hwindow.decodesData]
    exact ⟨fun hfree => by rw [State.reachPort_free hfree],
      fun hbusy hw => congrArg _ (State.reachPort_waits hbusy hw x)⟩
  · rcases exec_burstEnds hc ht with e | ⟨u, hu, e⟩
    · exact absurd e hne
    · have hnone : u.portWait = none := hu.portWait
      rw [State.servePort_none hnone] at e
      subst e
      have hs : ({ s with portWait := none } : State).setPortWait (some x) = s := by rw [← hx]; rfl
      have hends := hu.setPortWait (some x)
      rw [hs] at hends
      have hport : (t.setPortWait (some x)).servePort = t.serve x := by
        rw [State.servePort_some rfl, ← hnone]
        rfl
      exact ⟨hport ▸ hends.exec, (t.serve_portWait x).trans hnone, t.serve_engine x⟩

end Sys2Proof.Machine
end

section
/-! ### The scrubber's bursts (R35, R36, R39, R40) -/

namespace Sys2Proof.Machine

/-- The card is ready the first time that no block is SCRUB (R39). -/
theorem State.checkReady_eq (s : State) : s.checkReady = { s with
    pool := { s.pool with ready := s.pool.ready || decide (s.pool.scrubCount = 0) }
    supervisor :=
      if s.pool.ready = false ∧ s.pool.scrubCount = 0 then
        { s.supervisor with flags := s.supervisor.flags ||| 0x08#6 }
      else s.supervisor } := by
  unfold State.checkReady
  split
  · next h =>
    obtain ⟨hcount, hready⟩ := h
    rw [if_pos ⟨hready, hcount⟩, hready, decide_eq_true hcount]
    rfl
  · next h =>
    rw [if_neg fun hrev => h hrev.symm]
    have hready : (s.pool.ready || decide (s.pool.scrubCount = 0)) = s.pool.ready := by
      cases hr : s.pool.ready with
      | true => rfl
      | false => exact decide_eq_false fun hcount => h ⟨hcount, hr⟩
    rw [hready]

/-- What the end of the scrubber's block step changes, but for the choice that ends it (R36, R39). -/
theorem State.endScrubStep_eq (s : State) (b : Block) : s.endScrubStep b = { s with
    pool := { s.pool with
      map := s.pool.map.set b .free, freeCount := s.pool.freeCount + 1, scrubCount := s.pool.scrubCount - 1
      ready := s.pool.ready || decide (s.pool.scrubCount ≤ 1) }
    supervisor :=
      if s.pool.ready = false ∧ s.pool.scrubCount ≤ 1 then
        { s.supervisor with flags := s.supervisor.flags ||| 0x08#6 }
      else s.supervisor
    sram := (s.endScrubStep b).sram, engine := (s.endScrubStep b).engine } := by
  obtain ⟨e, he⟩ := (((s.setPool (s.pool.freeBlock b)).setEngine s.engine.endScrub).checkReady).chooseStep_frame
  have hcount : s.pool.scrubCount - 1 = 0 ↔ s.pool.scrubCount ≤ 1 := Nat.sub_eq_zero_iff_le
  unfold State.endScrubStep
  rw [he, State.checkReady_eq]
  simp only [State.setEngine, State.setPool, Pool.freeBlock, hcount]

/-- The scrubber's block step ends with a choice of the engine. -/
theorem State.endScrubStep_engine (s : State) (b : Block) : (s.endScrubStep b).engine =
    (State.chooseStep { s.endScrubStep b with engine := s.engine.endScrub }).engine := by
  unfold State.endScrubStep
  symm
  refine congrArg State.engine (State.chooseStep_congr (State.chooseStep_leases _) (State.chooseStep_pool _) ?_)
  rw [State.checkReady_eq]
  rfl

theorem State.zeroed_zeroBurst (s : State) (block burst : Nat) :
    (s.zeroBurst block burst).Zeroed s (block * 4096 + burst * 64) := s.zeroBurst_byteAt block burst

theorem State.Zeroed.of_sram {t u s : State} {base : Nat} (h : u.Zeroed s base) (e : t.sram = u.sram) :
    t.Zeroed s base := fun x => (State.byteAt_of_sram e x).trans (h x)

/-- The end of a burst at a card where no access waits. -/
theorem State.BurstEnds.exec_free {s u : State} {c : Instr} (h : s.BurstEnds c u) (hw : s.portWait = none) :
    Machine.exec c s = .next u := by
  rw [h.exec, State.servePort_none (h.portWait.trans hw)]

/-- Settles O35: the three ways in which a zero-fill burst ends. -/
theorem scrubberFillsAndFreesItsBlock : Obligations.ScrubberFillsAndFreesItsBlock := by
  intro s b k hk hw
  refine ⟨fun step block done => ⟨fun more => ?_, fun last => ?_⟩, fun step => ?_⟩
  · subst done
    refine ⟨_, (State.BurstEnds.scrub step block more.ne).exec_free hw,
      (s.zeroed_zeroBurst b.1 s.engine.scrubber.burstsDone).of_sram (State.setEngine_sram _ _), ?_⟩
    rw [← block]
    rfl
  · subst last
    refine ⟨_, (State.BurstEnds.scrubBlock step block done).exec_free hw,
      (s.zeroed_zeroBurst b.1 63).of_sram (State.endScrubStep_sram _ b), (s.zeroBurst b.1 63).endScrubStep_eq b, ?_⟩
    exact (s.zeroBurst b.1 63).endScrubStep_engine b
  · have hcommand : (if k < 63 then Instr.scrubBurstEnd else .scrubBlockStepEnd) =
        if k = 63 then .scrubBlockStepEnd else .scrubBurstEnd := by
      rcases eq_or_ne k 63 with rfl | h
      · rfl
      · rw [if_pos (by omega), if_neg h]
    refine ⟨_, (State.BurstEnds.cutScrub step hcommand).exec_free hw,
      (s.zeroed_zeroBurst b.1 k).of_sram (State.chooseStep_sram _), ?_⟩
    rw [State.chooseStep_sram]
    exact State.chooseStep_congr (s := s) (t := s.zeroBurst b.1 k) rfl rfl rfl

end Sys2Proof.Machine
end

section
/-! ### What the ending of a session can do to the records, the queue, the notices and the apertures (R53 to R57)

`State.Winds` lists it once for every operation an ending is made of, with the records it may touch as a parameter: all
of them, or all but one that the statement is about. -/

namespace Sys2Proof.Machine

/-! #### Reading one entry after a change -/

theorem State.mailbox_setMailbox (s : State) (m m' : Master) (b : Mailbox) :
    (s.setMailbox m b).mailbox m' = if m = m' then b else s.mailbox m' := Table.get_set _ _ _ _

theorem State.session_setSession (s : State) (m m' : Master) (x : Session) :
    (s.setSession m x).session m' = if m = m' then x else s.session m' := Table.get_set _ _ _ _

/-- Raising a flag sets its position and keeps the others (R160). -/
theorem Mailbox.raise_flag (b : Mailbox) (f : EventFlag) (i : Nat) :
    (b.raise f).events.getLsbD i = (b.events.getLsbD i || decide (f.position = i)) := by
  have hf : f.position < 8 := by cases f <;> decide
  unfold Mailbox.raise EventFlag.mask
  rw [BitVec.getLsbD_or, BitVec.getLsbD_ofNat, Nat.testBit_two_pow]
  by_cases h : f.position = i
  · simp [h, h ▸ hf]
  · simp [h]

/-- Two records have different handles, since a handle carries the record's number (R4). -/
theorem State.handle_ne {s t : State} {r r' : RecordNo} (h : r ≠ r') : s.handle r ≠ t.handle r' := by
  intro e
  have := r.isLt
  have := r'.isLt
  have hv := congrArg BitVec.toNat e
  unfold State.handle at hv
  rw [handleOf_toNat, handleOf_toNat] at hv
  exact h (Fin.ext (by omega))

theorem State.handle_eq_of_generation {s t : State} {r : RecordNo}
    (h : (t.lease r).generation = (s.lease r).generation) : t.handle r = s.handle r := by
  unfold State.handle
  rw [h]

theorem State.mem_entriesFor {s : State} {h : Handle} {e : WaitEntry} :
    e ∈ s.entriesFor h ↔ e ∈ s.queue ∧ e.handle = h := by
  unfold State.entriesFor
  rw [List.mem_filter, beq_iff_eq]

/-! #### The relation -/

/-- Outside the records that `R` holds of, a card has kept the records, their wait entries, and what the masters that
wait there only have been told. Nowhere has a lease come to move or a generation changed, the queue has only lost entries,
holders that are new had an entry, flags that were set are set, and what was UNBOUND or SCRUB is so. -/
structure State.Winds (t s : State) (R : RecordNo → Prop) : Prop where
  lease : ∀ r, ¬ R r → t.lease r = s.lease r
  generation : ∀ r, (t.lease r).generation = (s.lease r).generation
  moving : ∀ r, (t.lease r).state = .moving → (s.lease r).state = .moving
  holders : ∀ r m, (t.lease r).holders.mem m = true →
    (s.lease r).holders.mem m = true ∨ ∃ e ∈ s.queue, e.handle = s.handle r ∧ e.master = m
  queue : t.queue.Sublist s.queue
  entries : ∀ r, ¬ R r → t.entriesFor (s.handle r) = s.entriesFor (s.handle r)
  quiet : ∀ m, (∀ e ∈ s.queue, e.master = m → ∃ r, ¬ R r ∧ e.handle = s.handle r) →
    (t.mailbox m).waitRecord = (s.mailbox m).waitRecord ∧
      (t.mailbox m).events.getLsbD 1 = (s.mailbox m).events.getLsbD 1
  flags : ∀ m i, (s.mailbox m).events.getLsbD i = true → (t.mailbox m).events.getLsbD i = true
  apertures : ∀ m a, s.aperture m a = .unbound → t.aperture m a = .unbound
  scrub : ∀ b, s.block b = some .scrub → t.block b = some .scrub

namespace State.Winds

variable {s t u : State} {R R' : RecordNo → Prop}

theorem refl (s : State) (R : RecordNo → Prop) : s.Winds s R :=
  ⟨fun _ _ => rfl, fun _ => rfl, fun _ => id, fun _ _ => .inl, .refl _, fun _ _ => rfl, fun _ _ => ⟨rfl, rfl⟩,
    fun _ _ => id, fun _ _ => id, fun _ => id⟩

theorem handle (h : t.Winds s R) (r : RecordNo) : t.handle r = s.handle r :=
  State.handle_eq_of_generation (h.generation r)

theorem trans (h : u.Winds t R) (h' : t.Winds s R) : u.Winds s R where
  lease r hr := (h.lease r hr).trans (h'.lease r hr)
  generation r := (h.generation r).trans (h'.generation r)
  moving r := h'.moving r ∘ h.moving r
  holders r m hm := by
    rcases h.holders r m hm with ht | ⟨e, he, heh, hem⟩
    · exact h'.holders r m ht
    · exact .inr ⟨e, h'.queue.subset he, heh.trans (h'.handle r), hem⟩
  queue := h.queue.trans h'.queue
  entries r hr := by
    have := h.entries r hr
    rw [h'.handle] at this
    exact this.trans (h'.entries r hr)
  quiet m hm := by
    have ht := h.quiet m fun e he hem => by
      obtain ⟨r, hr, heq⟩ := hm e (h'.queue.subset he) hem
      exact ⟨r, hr, heq.trans (h'.handle r).symm⟩
    obtain ⟨hw, hf⟩ := h'.quiet m hm
    exact ⟨ht.1.trans hw, ht.2.trans hf⟩
  flags m i := h.flags m i ∘ h'.flags m i
  apertures m a := h.apertures m a ∘ h'.apertures m a
  scrub b := h.scrub b ∘ h'.scrub b

theorem mono (h : t.Winds s R) (hR : ∀ r, R r → R' r) : t.Winds s R' where
  lease r hr := h.lease r fun c => hr (hR r c)
  generation := h.generation
  moving := h.moving
  holders := h.holders
  queue := h.queue
  entries r hr := h.entries r fun c => hr (hR r c)
  quiet m hm := h.quiet m fun e he hem => by
    obtain ⟨r, hr, heq⟩ := hm e he hem
    exact ⟨r, fun c => hr (hR r c), heq⟩
  flags := h.flags
  apertures := h.apertures
  scrub := h.scrub

theorem queueLaw (h : t.Winds s R) (hs : s.QueueLaw) : t.QueueLaw := (h.queue.map _).nodup hs

theorem movingLaw (h : t.Winds s R) (hs : s.MovingLaw) : t.MovingLaw :=
  fun r r' hr hr' => hs r r' (h.moving r hr) (h.moving r' hr')

/-- A master without waits, holds and apertures stays so (R53). -/
theorem without (h : t.Winds s R) {m : Master} (hs : s.Without m) : t.Without m where
  waits e he := hs.waits e (h.queue.subset he)
  holds r := by
    refine Bool.eq_false_iff.2 fun hm => ?_
    rcases h.holders r m hm with ht | ⟨e, he, -, hem⟩
    · exact Bool.false_ne_true ((hs.holds r).symm.trans ht)
    · exact hs.waits e he hem
  apertures a := h.apertures m a (hs.apertures a)

/-! #### The changes an operation is made of -/

/-- A change of what the relation does not speak of, mailboxes among it where their flags stay set and the wait record and
WAIT_END are as they were. -/
theorem unseen (h : t.Winds s R) (leases : u.leases = t.leases) (queue : u.queue = t.queue)
    (apertures : u.apertures = t.apertures) (map : u.pool.map = t.pool.map)
    (wait : ∀ m, (u.mailbox m).waitRecord = (t.mailbox m).waitRecord ∧
      (u.mailbox m).events.getLsbD 1 = (t.mailbox m).events.getLsbD 1)
    (flags : ∀ m i, (t.mailbox m).events.getLsbD i = true → (u.mailbox m).events.getLsbD i = true) : u.Winds s R := by
  have hlease : ∀ r, u.lease r = t.lease r := fun r => by unfold State.lease; rw [leases]
  constructor
  · intro r; rw [hlease]; exact h.lease r
  · intro r; rw [hlease]; exact h.generation r
  · intro r; rw [hlease]; exact h.moving r
  · intro r; rw [hlease]; exact h.holders r
  · rw [queue]; exact h.queue
  · unfold State.entriesFor; rw [queue]; exact h.entries
  · intro m hm
    obtain ⟨hw, hf⟩ := h.quiet m hm
    exact ⟨(wait m).1.trans hw, (wait m).2.trans hf⟩
  · exact fun m i hf => flags m i (h.flags m i hf)
  · unfold State.aperture; rw [apertures]; exact h.apertures
  · unfold State.block; rw [map]; exact h.scrub

theorem of_mailboxes (h : t.Winds s R) (leases : u.leases = t.leases) (queue : u.queue = t.queue)
    (apertures : u.apertures = t.apertures) (map : u.pool.map = t.pool.map) (mailboxes : u.mailboxes = t.mailboxes) :
    u.Winds s R :=
  have hmail : ∀ m, u.mailbox m = t.mailbox m := fun m => by unfold State.mailbox; rw [mailboxes]
  h.unseen leases queue apertures map (fun m => by rw [hmail]; exact ⟨rfl, rfl⟩) fun m i => by rw [hmail]; exact id

/-- A record that may be touched changes. -/
theorem setLease (h : t.Winds s R) {r : RecordNo} {l : Lease} (hr : R r)
    (generation : l.generation = (t.lease r).generation) (moving : l.state = .moving → (t.lease r).state = .moving)
    (holders : ∀ m, l.holders.mem m = true → (t.lease r).holders.mem m = true ∨
      ∃ e ∈ s.queue, e.handle = s.handle r ∧ e.master = m) :
    (t.setLease r l).Winds s R := by
  refine ⟨fun r' hr' => ?_, fun r' => ?_, fun r' => ?_, fun r' m => ?_, h.queue, h.entries, h.quiet, h.flags,
    h.apertures, h.scrub⟩
  all_goals
    rw [State.lease_setLease]
    split
  · next e => exact absurd (e ▸ hr) hr'
  · exact h.lease r' hr'
  · next e => subst e; exact generation.trans (h.generation r)
  · exact h.generation r'
  · next e => subst e; exact h.moving r ∘ moving
  · exact h.moving r'
  · next e =>
    subst e
    intro hm
    exact (holders m hm).elim (h.holders r m) .inr
  · exact h.holders r' m

/-- The queue loses entries, none of a record that may not be touched. -/
theorem setQueue (h : t.Winds s R) {q : List WaitEntry} (sub : q.Sublist t.queue)
    (entries : ∀ r, ¬ R r → q.filter (fun e => e.handle == s.handle r) = t.entriesFor (s.handle r)) :
    (t.setQueue q).Winds s R :=
  ⟨h.lease, h.generation, h.moving, h.holders, sub.trans h.queue, fun r hr => (entries r hr).trans (h.entries r hr),
    h.quiet, h.flags, h.apertures, h.scrub⟩

/-- A wait on a record that may be touched ends with a record (R104). -/
theorem endWait (h : t.Winds s R) {e : WaitEntry} (he : e ∈ s.queue) (hr : ∀ r, ¬ R r → e.handle ≠ s.handle r)
    (record : WaitRecord) : (t.endWait e.master record).Winds s R := by
  refine ⟨h.lease, h.generation, h.moving, h.holders, h.queue, h.entries, fun m hm => ?_, fun m i hf => ?_,
    h.apertures, h.scrub⟩
  · have hne : e.master ≠ m := fun c => by
      obtain ⟨r, hr', heq⟩ := hm e he c
      exact hr r hr' heq
    unfold State.endWait
    rw [State.mailbox_setMailbox, if_neg hne]
    exact h.quiet m hm
  · unfold State.endWait
    rw [State.mailbox_setMailbox]
    split
    · next c =>
      subst c
      rw [Mailbox.raise_flag, Bool.or_eq_true]
      exact .inl (h.flags _ i hf)
    · exact h.flags m i hf

/-- A flag other than WAIT_END is raised, on a mailbox whose wait record stays. -/
theorem raise (h : t.Winds s R) {m : Master} {b : Mailbox} {f : EventFlag} (hf : f ≠ .waitEnd)
    (wait : b.waitRecord = (t.mailbox m).waitRecord) (events : b.events = (t.mailbox m).events) :
    (t.setMailbox m (b.raise f)).Winds s R := by
  refine h.unseen rfl rfl rfl rfl (fun m' => ?_) fun m' i hi => ?_
  all_goals
    rw [State.mailbox_setMailbox]
    split
  · next c =>
    subst c
    have hpos : f.position ≠ 1 := by revert hf; cases f <;> decide
    refine ⟨wait, ?_⟩
    rw [Mailbox.raise_flag, events, decide_eq_false hpos, Bool.or_false]
  · exact ⟨rfl, rfl⟩
  · next c =>
    subst c
    rw [Mailbox.raise_flag, events, hi, Bool.true_or]
  · exact hi

theorem endMove (h : t.Winds s R) (m : Master) (record : MoveRecord) : (t.endMove m record).Winds s R :=
  h.raise (fun e => nomatch e) rfl rfl

/-- Blocks go to SCRUB. -/
theorem scrubRun (h : t.Winds s R) (run : Option Run) : (t.scrubRun run).Winds s R := by
  have hscrub := (State.Undisturbed.scrubRun t run).scrub
  have hrest : (t.scrubRun run) = t.setPool (t.scrubRun run).pool := by cases run <;> rfl
  rw [hrest] at hscrub ⊢
  exact ⟨h.lease, h.generation, h.moving, h.holders, h.queue, h.entries, h.quiet, h.flags, h.apertures,
    fun b hb => hscrub b (h.scrub b hb)⟩

theorem setApertures (h : t.Winds s R) {x : Table (Table Aperture 4) 12}
    (unbound : ∀ m a, t.aperture m a = .unbound → (x.get m).get a = .unbound) : (t.setApertures x).Winds s R :=
  ⟨h.lease, h.generation, h.moving, h.holders, h.queue, h.entries, h.quiet, h.flags,
    fun m a ha => unbound m a (h.apertures m a ha), h.scrub⟩

end State.Winds

end Sys2Proof.Machine
end

section
/-! #### The operations of an ending -/

namespace Sys2Proof.Machine

/-- The grant pass grants entries of the lease, in their order (R98). -/
theorem Lease.grants_sublist (l : Lease) (entries : List WaitEntry) : (l.grants entries).Sublist entries := by
  unfold Lease.grants
  cases entries with
  | nil => exact .refl _
  | cons e rest =>
    dsimp only
    split
    · exact (List.nil_sublist rest).cons_cons e
    · split
      · exact (List.takeWhile_sublist _).cons_cons e
      · exact List.nil_sublist _

theorem State.grantable_sublist (s : State) (r : RecordNo) : (s.grantable r).Sublist (s.entriesFor (s.handle r)) := by
  rw [s.grantable_eq]
  split
  · exact List.nil_sublist _
  · exact Lease.grants_sublist _ _

/-- The lease takes the master of the entry granted (R98). -/
theorem Lease.mem_granted {l : Lease} {e : WaitEntry} {m : Master} (h : (l.granted e).holders.mem m = true) :
    l.holders.mem m = true ∨ e.master = m := by
  unfold Lease.granted at h
  split at h
  · exact .inl h
  · exact .inr (by simpa using h)
  · simpa using h

theorem Lease.granted_generation (l : Lease) (e : WaitEntry) : (l.granted e).generation = l.generation :=
  (Lease.CarriesOn.granted l e).1

theorem Lease.moving_of_granted {l : Lease} {e : WaitEntry} (h : (l.granted e).state = .moving) : l.state = .moving := by
  unfold Lease.granted at h
  split at h
  · exact h
  · cases h
  · cases h

theorem dropFromQueue_sublist (q : List WaitEntry) (m : Master) (h : Handle) : (dropFromQueue q m h).Sublist q :=
  List.filter_sublist

/-- Entries of another lease stay. -/
theorem filter_dropFromQueue {h h' : Handle} (hne : h ≠ h') (q : List WaitEntry) (m : Master) :
    (dropFromQueue q m h).filter (fun e => e.handle == h') = q.filter fun e => e.handle == h' := by
  unfold dropFromQueue
  rw [List.filter_filter]
  refine List.filter_congr fun e _ => ?_
  by_cases he : e.handle = h'
  · simp [he, Ne.symm hne]
  · simp [he]

/-- A grant, in an order of its changes that is easier to follow. -/
theorem State.grantEntry_eq (r : RecordNo) (s : State) (e : WaitEntry) :
    State.grantEntry r s e =
      ((s.endWait e.master { handle := e.handle, mode := some e.kind.mode, result := some .granted }).setLease r
        ((s.lease r).granted e)).setQueue (dropFromQueue s.queue e.master e.handle) := rfl

namespace State.Winds

variable {s t : State} {R : RecordNo → Prop}

/-- The entry of a record that may be touched names no other. -/
theorem handle_ne_of_touched {r : RecordNo} (hr : R r) {h : Handle} (hh : h = s.handle r) :
    ∀ r', ¬ R r' → h ≠ s.handle r' :=
  fun _ hr' => hh ▸ State.handle_ne fun c => hr' (c ▸ hr)

theorem grantPass (s : State) {r : RecordNo} (hr : R r) : (s.grantPass r).Winds s R := by
  unfold State.grantPass
  refine List.foldlRecOn (motive := fun u : State => u.Winds s R) _ _ (refl s R) fun u hu e he => ?_
  obtain ⟨hq, hh⟩ := State.mem_entriesFor.1 ((s.grantable_sublist r).subset he)
  have hne := handle_ne_of_touched hr hh
  rw [State.grantEntry_eq]
  refine ((hu.endWait hq hne _).setLease hr (Lease.granted_generation _ e) Lease.moving_of_granted
    fun m hm => ?_).setQueue (dropFromQueue_sublist _ _ _) fun r' hr' => filter_dropFromQueue (hne r' hr') _ _
  exact (Lease.mem_granted hm).imp_right fun c => ⟨e, hq, hh, c⟩

theorem removeHolder (s : State) {r : RecordNo} (hr : R r) (m : Master) : (s.removeHolder r m).Winds s R := by
  refine (refl s R).setLease hr rfl id fun m' hm => .inl ?_
  rw [MasterSet.mem_erase, Bool.and_eq_true] at hm
  exact hm.1

theorem leave (s : State) {r : RecordNo} (hr : R r) (m : Master) : (s.leave r m).Winds s R :=
  (grantPass _ hr).trans (removeHolder s hr m)

theorem abandonMove (s : State) {r : RecordNo} (hr : R r) (reason : MoveReason) :
    (s.abandonMove r reason).Winds s R := by
  have hrun : ((s.scrubRun (s.lease r).target).setLease r { s.lease r with state := .held, target := none }).Winds s R := by
    have hlease := s.lease_scrubRun (s.lease r).target r
    refine ((refl s R).scrubRun _).setLease hr (congrArg Lease.generation hlease).symm (fun e => nomatch e) fun m hm => ?_
    rw [hlease]
    exact .inl hm
  refine List.foldlRecOn (motive := fun u : State => u.Winds s R) _ _ ?_ fun u hu m _ => hu.endMove m _
  exact hrun.of_mailboxes rfl rfl rfl rfl rfl

/-- The waits on a lease are withdrawn (R105). -/
theorem withdrawWaiters (h : t.Winds s R) {r : RecordNo} (hr : R r) : (t.withdrawWaiters (s.handle r)).Winds s R := by
  have hne := handle_ne_of_touched (s := s) hr rfl
  have hfold : ((t.entriesFor (s.handle r)).foldl
      (fun s' e => s'.endWait e.master
        { handle := s.handle r, mode := some e.kind.mode, result := some .withdrawn }) t).Winds s R := by
    refine List.foldlRecOn (motive := fun u : State => u.Winds s R) _ _ h fun u hu e he => ?_
    obtain ⟨hq, hh⟩ := State.mem_entriesFor.1 he
    exact hu.endWait (h.queue.subset hq) (hh ▸ hne) _
  have hqueue := foldl_mailboxes
    (fun s' e => State.endWait s' e.master
      { handle := s.handle r, mode := some (WaitKind.mode e.kind), result := some .withdrawn })
    (fun s b => ⟨_, rfl⟩) (t.entriesFor (s.handle r)) t
  obtain ⟨b, hb⟩ := hqueue
  unfold State.withdrawWaiters
  rw [hb] at hfold ⊢
  refine hfold.setQueue List.filter_sublist fun r' hr' => ?_
  refine (List.filter_filter ..).trans (List.filter_congr fun e _ => ?_)
  by_cases he : e.handle = s.handle r'
  · simp [he, Ne.symm (hne r' hr')]
  · simp [he]

theorem retireApertures (h : t.Winds s R) (r : RecordNo) (cause : RetireCause) :
    (t.retireApertures r cause).Winds s R := by
  have hrelease : ∀ x (y : Aperture), y = .unbound → y.release x = .unbound := fun _ _ e => by rw [e]; rfl
  cases cause with
  | emptied =>
    refine h.setApertures fun m a ha => ?_
    rw [Table.get_map, Table.get_map]
    exact hrelease _ _ ha
  | byOwner =>
    unfold State.retireApertures
    dsimp only
    split
    · next m _ =>
      refine h.setApertures fun m' a ha => ?_
      rw [Table.get_set]
      split
      · next e => subst e; rw [Table.get_map]; exact hrelease _ _ ha
      · exact ha
    · exact h
  | revoked =>
    refine List.foldlRecOn (motive := fun u : State => u.Winds s R) _ _ ?_ fun u hu m _ => ?_
    · refine h.setApertures fun m a ha => ?_
      rw [Table.get_map, Table.get_map, show (t.apertures.get m).get a = .unbound from ha]
      rfl
    · exact hu.raise (fun e => nomatch e) rfl rfl

/-- The record is freed: its run goes to SCRUB and nobody holds it (R20, R22). -/
theorem freeRecord (s : State) {r : RecordNo} (hr : R r) : (s.freeRecord r).Winds s R := by
  have hsession : ∀ u : State, u.Winds s R →
      (u.dropOwnedBy (s.lease r).owner 1 (s.lease r).length).Winds s R := by
    intro u hu
    obtain ⟨x, hx⟩ := u.dropOwnedBy_frame (s.lease r).owner 1 (s.lease r).length
    rw [hx]
    exact hu.of_mailboxes rfl rfl rfl rfl rfl
  have hscrub := hsession _ ((refl s R).scrubRun (s.lease r).run)
  refine hscrub.setLease hr ?_ (fun e => nomatch e) fun m hm => ?_
  · rw [hscrub.generation]; rfl
  · simp [Lease.freed] at hm

theorem retire (s : State) {r : RecordNo} (hr : R r) (cause : RetireCause) : (s.retire r cause).Winds s R := by
  have hmove : (s.retireMove r).Winds s R := by
    unfold State.retireMove
    split
    · exact abandonMove s hr .revoked
    · exact refl s R
  exact (freeRecord _ hr).trans ((hmove.withdrawWaiters hr).retireApertures r cause)

theorem settle (s : State) {r : RecordNo} (hr : R r) : (s.settle r).Winds s R := by
  rcases s.settle_cases r with ⟨e, -⟩ | ⟨-, -, e | e⟩
  · rw [e]; exact refl s R
  · rw [e]; exact (refl s R).setLease hr rfl (fun e => nomatch e) fun _ => .inl
  · rw [e]; exact retire s hr .emptied

/-- A holder leaves the record, which goes the way of its fate (R56). -/
theorem endHold (s : State) {r : RecordNo} (hr : R r) (m : Master) : (State.endHold m s r).Winds s R := by
  unfold State.endHold
  split
  · exact (settle _ hr).trans (leave s hr m)
  · exact refl s R

/-- Stage 3 on records that may be touched (R56). -/
theorem foldl_endHold (s : State) (m : Master) {records : List RecordNo} (hr : ∀ r ∈ records, R r) :
    (records.foldl (State.endHold m) s).Winds s R :=
  List.foldlRecOn (motive := fun u : State => u.Winds s R) _ _ (refl s R) fun u hu r hmem =>
    (endHold u (hr r hmem) m).trans hu

theorem wakeEngine (h : t.Winds s R) : t.wakeEngine.Winds s R :=
  h.of_mailboxes t.wakeEngine_leases t.wakeEngine_queue t.wakeEngine_apertures (by rw [t.wakeEngine_pool])
    t.wakeEngine_mailboxes

/-- The last stages of an ending: the apertures, the session and the notices (R57). -/
theorem endStages4And5 (h : t.Winds s R) (m : Master) (reason : EndReason) :
    (((t.unbindMaster m).closeSession m reason).endNotices m reason).Winds s R := by
  have hunbind : (t.unbindMaster m).Winds s R := by
    refine h.setApertures fun m' a ha => ?_
    rw [Table.get_set]
    split
    · exact Table.get_replicate _ _
    · exact ha
  have hclose : ((t.unbindMaster m).closeSession m reason).Winds s R := hunbind.of_mailboxes rfl rfl rfl rfl rfl
  have hraise : (((t.unbindMaster m).closeSession m reason).raise m .sessionEnd).Winds s R :=
    hclose.raise (fun e => nomatch e) rfl rfl
  unfold State.endNotices
  split
  · exact hraise.of_mailboxes rfl rfl rfl rfl rfl
  · exact hraise
  · exact hclose

end State.Winds

end Sys2Proof.Machine
end

section
/-! #### The whole ending (R53, R54) -/

namespace Sys2Proof.Machine

/-- The card with the wait entry of a master removed, before any grant pass (R54). -/
def State.waitless (s : State) (m : Master) : State := s.setQueue (s.queue.filter fun e => e.master != m)

theorem State.QueueLaw.unique {s : State} (h : s.QueueLaw) {e e' : WaitEntry} (he : e ∈ s.queue) (he' : e' ∈ s.queue)
    (hm : e.master = e'.master) : e = e' := List.inj_on_of_nodup_map h he he' hm

/-- A wait entry is the only one of its master, so removing it removes the master from the queue (R83). -/
theorem State.QueueLaw.dropFromQueue {s : State} (h : s.QueueLaw) {e : WaitEntry} (he : e ∈ s.queue) :
    dropFromQueue s.queue e.master e.handle = s.queue.filter fun x => x.master != e.master := by
  unfold Machine.dropFromQueue
  refine List.filter_congr fun x hx => ?_
  by_cases hm : x.master = e.master
  · cases h.unique hx he hm
    simp
  · simp [bne, beq_eq_false_iff_ne.2 hm]

theorem State.waitless_waits (s : State) (m : Master) : ∀ e ∈ (s.waitless m).queue, e.master ≠ m := by
  intro e he
  simpa using (List.mem_filter.1 he).2

theorem State.waitless_entriesFor (s : State) (m : Master) (h : Handle) :
    (s.waitless m).entriesFor h = (s.entriesFor h).filter fun e => e.master != m := by
  unfold State.entriesFor State.waitless
  rw [State.setQueue_queue, List.filter_filter, List.filter_filter]
  exact List.filter_congr fun e _ => Bool.and_comm _ _

/-- Where no entry of a lease is the master's, the removal leaves the lease its entries. -/
theorem State.waitless_entriesFor_self {s : State} {m : Master} {h : Handle}
    (hm : ∀ e ∈ s.entriesFor h, e.master ≠ m) : (s.waitless m).entriesFor h = s.entriesFor h := by
  rw [State.waitless_entriesFor, List.filter_eq_self]
  exact fun e he => by simpa using hm e he

theorem State.QueueLaw.waitless {s : State} (h : s.QueueLaw) (m : Master) : (s.waitless m).QueueLaw :=
  (List.filter_sublist.map _).nodup h

/-- A live lease whose first entry is a master's. -/
def State.HeadedBy (s : State) (r : RecordNo) (m : Master) : Prop :=
  (s.lease r).state ≠ .free ∧ ∃ e rest, s.entriesFor (s.handle r) = e :: rest ∧ e.master = m

/-- Stage 1 of an ending: the entry goes, and the lease that it headed has a grant pass (R54). -/
theorem State.endStage1_cases {s : State} (h : s.QueueLaw) (m : Master) :
    (s.endStage1 m = s.waitless m ∧ ∀ r, ¬ s.HeadedBy r m) ∨
      ∃ r, s.HeadedBy r m ∧ s.endStage1 m = (s.waitless m).grantPass r := by
  have head : ∀ r, s.HeadedBy r m → ∃ e, s.entryOf m = some e ∧ e.handle = s.handle r ∧
      (s.entriesFor e.handle).head? = some e ∧ s.validate e.handle = some r := by
    rintro r ⟨hl, e, rest, he, hm⟩
    obtain ⟨hq, hh⟩ := State.mem_entriesFor.1 (he ▸ List.mem_cons_self : e ∈ s.entriesFor (s.handle r))
    refine ⟨e, ?_, hh, by rw [hh, he]; rfl, (s.validate_iff _ _).2 (hh ▸ State.names_handle hl)⟩
    cases hf : s.entryOf m with
    | none => exact absurd hm (by simpa using List.find?_eq_none.1 hf e hq)
    | some e' =>
      have hm' : e'.master = m := by simpa using List.find?_some hf
      rw [h.unique (List.mem_of_find?_eq_some hf) hq (hm'.trans hm.symm)]
  unfold State.endStage1
  cases hf : s.entryOf m with
  | none =>
    refine .inl ⟨?_, fun r hr => ?_⟩
    · have hall : s.queue.filter (fun e => e.master != m) = s.queue :=
        List.filter_eq_self.2 fun e he => by simpa using List.find?_eq_none.1 hf e he
      unfold State.waitless
      rw [hall]
      rfl
    · obtain ⟨e, he, -⟩ := head r hr
      rw [hf] at he
      cases he
  | some e =>
    have hq := List.mem_of_find?_eq_some hf
    have hm : e.master = m := by simpa using List.find?_some hf
    have hw : s.setQueue (Machine.dropFromQueue s.queue e.master e.handle) = s.waitless m := by
      rw [h.dropFromQueue hq, hm]
      rfl
    have hnone : ∀ (_ : ¬ ((s.entriesFor e.handle).head? = some e ∧ ∃ r, s.validate e.handle = some r)) (r : RecordNo),
        ¬ s.HeadedBy r m := by
      intro hn r hr
      obtain ⟨e', he', -, hhead, hval⟩ := head r hr
      cases hf.symm.trans he'
      exact hn ⟨hhead, r, hval⟩
    unfold State.removeEntry
    dsimp only
    rw [hw]
    split
    · next hhead =>
      cases hval : s.validate e.handle with
      | none => exact .inl ⟨rfl, hnone fun c => by obtain ⟨_, r, hr⟩ := c; rw [hval] at hr; cases hr⟩
      | some r =>
        have hnames := (s.validate_iff _ _).1 hval
        refine .inr ⟨r, ⟨hnames.live, e, (s.entriesFor e.handle).tail, ?_, hm⟩, rfl⟩
        rw [hnames.handle]
        exact (List.cons_head?_tail hhead).symm
    · next hhead => exact .inl ⟨rfl, hnone fun c => hhead c.1⟩

namespace State.Winds

variable {s : State} {R : RecordNo → Prop}

/-- An entry is removed, with the grant pass of its lease at most (R54, R96). -/
theorem removeEntry (s : State) (e : WaitEntry) : (s.removeEntry e).Winds s fun _ => True := by
  have hdrop : (s.setQueue (dropFromQueue s.queue e.master e.handle)).Winds s fun _ => True :=
    (refl s _).setQueue (dropFromQueue_sublist _ _ _) fun _ hr => absurd trivial hr
  unfold State.removeEntry
  dsimp only
  split
  · split
    · exact (grantPass _ trivial).trans hdrop
    · exact hdrop
  · exact hdrop

theorem endStage1 (s : State) (m : Master) : (s.endStage1 m).Winds s fun _ => True := by
  unfold State.endStage1
  split
  · exact removeEntry s _
  · exact refl s _

/-- Stage 2 touches the record that moves, when the master holds it (R55). -/
theorem endStage2 (s : State) (m : Master)
    (hr : ∀ r, (s.lease r).state = .moving → (s.lease r).holders.mem m = true → R r) : (s.endStage2 m).Winds s R := by
  unfold State.endStage2
  split
  · next r hmove =>
    split
    · next hm => exact abandonMove s (hr r (State.movingRecord_moving hmove) hm) .sessionEnded
    · exact refl s R
  · exact refl s R

theorem endSession (s : State) (m : Master) (reason : EndReason) :
    (s.endSession m reason).Winds s fun _ => True :=
  ((foldl_endHold _ m fun _ _ => trivial).trans
    ((endStage2 _ m fun _ _ _ => trivial).trans (endStage1 s m))).endStages4And5 m reason

end State.Winds

/-! #### What the master is left without (R53) -/

/-- Stage 1 takes the master from the queue (R54). -/
theorem State.endStage1_waits {s : State} (h : s.QueueLaw) (m : Master) : ∀ e ∈ (s.endStage1 m).queue, e.master ≠ m := by
  rcases State.endStage1_cases h m with ⟨e, -⟩ | ⟨r, -, e⟩
  · rw [e]; exact s.waitless_waits m
  · rw [e]
    have hw := State.Winds.grantPass (R := fun _ => True) (s.waitless m) (r := r) trivial
    exact fun x hx => s.waitless_waits m x (hw.queue.subset hx)

/-- A master that does not wait for a record does not become its holder. -/
theorem State.Winds.not_holder {s t : State} {R : RecordNo → Prop} (h : t.Winds s R) {m : Master} {r : RecordNo}
    (hw : ∀ e ∈ s.queue, e.handle = s.handle r → e.master ≠ m) (hr : (s.lease r).holders.mem m = false) :
    (t.lease r).holders.mem m = false := by
  refine Bool.eq_false_iff.2 fun hm => ?_
  rcases h.holders r m hm with hs | ⟨e, he, heh, hem⟩
  · exact Bool.false_ne_true (hr.symm.trans hs)
  · exact hw e he heh hem

/-- A master that waits for nothing is no holder of a record once stage 3 has come to it (R56). -/
theorem State.endHold_holders {s : State} {m : Master} (hw : ∀ e ∈ s.queue, e.master ≠ m) (r : RecordNo) :
    ((State.endHold m s r).lease r).holders.mem m = false := by
  unfold State.endHold
  split
  · have hpass : ((s.leave r m).settle r).Winds (s.removeHolder r m) fun _ => True :=
      (State.Winds.settle _ trivial).trans (State.Winds.grantPass _ trivial)
    refine hpass.not_holder (fun e he _ => hw e he) ?_
    rw [State.removeHolder_eq, State.lease_setLease_self]
    simp [Lease.without]
  · next h => simpa using h

theorem State.foldl_endHold_holders {m : Master} (records : List RecordNo) {s : State}
    (hw : ∀ e ∈ s.queue, e.master ≠ m) {r : RecordNo} (hr : r ∈ records) :
    ((records.foldl (State.endHold m) s).lease r).holders.mem m = false := by
  induction records generalizing s with
  | nil => cases hr
  | cons r' rest ih =>
    have hstep := State.Winds.endHold (R := fun _ => True) s (r := r') trivial m
    have hw' : ∀ e ∈ (State.endHold m s r').queue, e.master ≠ m := fun e he => hw e (hstep.queue.subset he)
    rw [List.foldl_cons]
    rcases List.mem_cons.1 hr with rfl | hmem
    · exact (State.Winds.foldl_endHold _ m fun _ _ => trivial).not_holder
        (fun e he _ => hw' e he) (State.endHold_holders hw r)
    · exact ih hw' hmem

/-- The ending leaves its master without waits, holds and apertures (R53). -/
theorem State.endSession_without {s : State} (h : s.QueueLaw) (m : Master) (reason : EndReason) :
    (s.endSession m reason).Without m := by
  have hw2 : ∀ e ∈ ((s.endStage1 m).endStage2 m).queue, e.master ≠ m := fun e he =>
    State.endStage1_waits h m e ((State.Winds.endStage2 (R := fun _ => True) _ m fun _ _ _ => trivial).queue.subset he)
  have hstage3 : (((s.endStage1 m).endStage2 m).endStage3 m).Winds ((s.endStage1 m).endStage2 m) fun _ => True :=
    State.Winds.foldl_endHold _ m fun _ _ => trivial
  have hunbind : ((((s.endStage1 m).endStage2 m).endStage3 m).unbindMaster m).Without m := by
    refine ⟨fun e he => hw2 e (hstage3.queue.subset he),
      fun r => State.foldl_endHold_holders allRecords hw2 (mem_allRecords r), fun a => ?_⟩
    unfold State.aperture State.unbindMaster
    rw [State.setApertures_apertures, Table.get_set_self]
    exact Table.get_replicate a _
  have hlast : (s.endSession m reason).Quiet ((((s.endStage1 m).endStage2 m).endStage3 m).unbindMaster m) ∧
      (s.endSession m reason).queue = ((((s.endStage1 m).endStage2 m).endStage3 m).unbindMaster m).queue ∧
      (s.endSession m reason).apertures = ((((s.endStage1 m).endStage2 m).endStage3 m).unbindMaster m).apertures := by
    unfold State.endSession State.endNotices
    split <;> exact ⟨.of_eq rfl rfl rfl, rfl, rfl⟩
  obtain ⟨hq, hqueue, hap⟩ := hlast
  refine ⟨hqueue ▸ hunbind.waits, fun r => ?_, fun a => ?_⟩
  · rw [hq.lease]; exact hunbind.holds r
  · unfold State.aperture; rw [hap]; exact hunbind.apertures a

end Sys2Proof.Machine
end

section
/-! ### What a command can do to the records, the wait queue, the sessions and the apertures

`LeaseOps` and `CardOps` look past the sessions, the queue and the apertures. `BookOps` lists the operations with these in
view, and with the session check that has been passed, and past the rest of the card. -/

namespace Sys2Proof.Machine

open Host (Outcome)

/-- Two cards agree on the records, the queue and the apertures, and on whether each session is open and what its master
owns. -/
structure State.SameBooks (t s : State) : Prop where
  leases : t.leases = s.leases
  queue : t.queue = s.queue
  apertures : t.apertures = s.apertures
  state : ∀ m, (t.session m).state = (s.session m).state
  ownedLeases : ∀ m, (t.session m).ownedLeases = (s.session m).ownedLeases
  ownedBlocks : ∀ m, (t.session m).ownedBlocks = (s.session m).ownedBlocks

namespace State.SameBooks

variable {s t u : State}

theorem of_eq (leases : t.leases = s.leases) (queue : t.queue = s.queue) (apertures : t.apertures = s.apertures)
    (sessions : t.sessions = s.sessions) : t.SameBooks s := by
  have hsession : ∀ m, t.session m = s.session m := fun m => by unfold State.session; rw [sessions]
  exact ⟨leases, queue, apertures, fun m => by rw [hsession], fun m => by rw [hsession], fun m => by rw [hsession]⟩

theorem refl (s : State) : s.SameBooks s := of_eq rfl rfl rfl rfl

theorem trans (h : u.SameBooks t) (h' : t.SameBooks s) : u.SameBooks s :=
  ⟨h.leases.trans h'.leases, h.queue.trans h'.queue, h.apertures.trans h'.apertures,
    fun m => (h.state m).trans (h'.state m), fun m => (h.ownedLeases m).trans (h'.ownedLeases m),
    fun m => (h.ownedBlocks m).trans (h'.ownedBlocks m)⟩

theorem lease (h : t.SameBooks s) (r : RecordNo) : t.lease r = s.lease r := by
  unfold State.lease; rw [h.leases]

theorem aperture (h : t.SameBooks s) (m : Master) (a : ApertureNo) : t.aperture m a = s.aperture m a := by
  unfold State.aperture; rw [h.apertures]

/-- A session changes, but for its state and its owned counts. -/
theorem setSession {m : Master} {x : Session} (state : x.state = (s.session m).state)
    (leases : x.ownedLeases = (s.session m).ownedLeases) (blocks : x.ownedBlocks = (s.session m).ownedBlocks) :
    (s.setSession m x).SameBooks s := by
  refine ⟨rfl, rfl, rfl, fun m' => ?_, fun m' => ?_, fun m' => ?_⟩
  all_goals
    rw [State.session_setSession]
    split
  · next e => subst e; exact state
  · rfl
  · next e => subst e; exact leases
  · rfl
  · next e => subst e; exact blocks
  · rfl

theorem renew (s : State) (m : Master) : (s.renew m).SameBooks s := setSession rfl rfl rfl

theorem setSram (s : State) (mem : Memory) : (s.setSram mem).SameBooks s :=
  of_eq (s.setSram_leases mem) (s.setSram_queue mem) (s.setSram_apertures mem) (s.setSram_sessions mem)

theorem setEngine (s : State) (e : Engine) : (s.setEngine e).SameBooks s :=
  of_eq (s.setEngine_leases e) (s.setEngine_queue e) (s.setEngine_apertures e) (s.setEngine_sessions e)

theorem zeroBurst (s : State) (block burst : Nat) : (s.zeroBurst block burst).SameBooks s := setSram s _

theorem copyBurst (s : State) (source target burst : Nat) : (s.copyBurst source target burst).SameBooks s := setSram s _

theorem moverBurst (s : State) (r : RecordNo) : (s.moverBurst r).SameBooks s := copyBurst s _ _ _

theorem checkReady (s : State) : s.checkReady.SameBooks s := by
  unfold State.checkReady
  split <;> exact of_eq rfl rfl rfl rfl

theorem chooseStep (s : State) : s.chooseStep.SameBooks s :=
  of_eq s.chooseStep_leases s.chooseStep_queue s.chooseStep_apertures s.chooseStep_sessions

theorem wakeEngine (s : State) : s.wakeEngine.SameBooks s :=
  of_eq s.wakeEngine_leases s.wakeEngine_queue s.wakeEngine_apertures s.wakeEngine_sessions

theorem countdown (x : Session) : x.countdown = { x with remaining := x.countdown.remaining } := by
  unfold Session.countdown
  split <;> rfl

theorem countSessions (s : State) : s.countSessions.SameBooks s := by
  have hsession : ∀ m, s.countSessions.session m = (s.session m).countdown := fun m => Table.get_map _ _ m
  refine ⟨rfl, rfl, rfl, fun m => ?_, fun m => ?_, fun m => ?_⟩
  all_goals rw [hsession, countdown]

/-- A data byte of the link whose effect leaves the books. -/
theorem dataByte {effect : BankField → Option (State × Option Staged)} {s t : State}
    (he : ∀ f u staged, effect f = some (u, staged) → u.SameBooks s) (ht : dataByte effect s = .next t) :
    t.SameBooks s := by
  unfold Machine.dataByte at ht
  split at ht
  · split at ht
    · next u staged hu =>
      cases ht
      exact trans (t := u) (of_eq rfl rfl rfl rfl) (he _ _ _ hu)
    · cases ht; exact refl s
  · cases ht; exact refl s

end State.SameBooks

/-! #### The commands that leave the books -/

/-- The commands of the link, and the writes and refused accesses of the control space. -/
def OffBooks : Instr → Prop
  | .reqWrite .. | .paramWrite .. | .eventsWrite .. | .eventEnableWrite .. | .registerWriteIgnored _
  | .controlAccessError .. | .tick | .linkStart | .linkAddress .. | .linkStop | .pointerByte _ | .linkReadByte _
  | .stagedByte _ | .supervisorFlagsWrite _ | .supervisorEnablesWrite _ | .watermarkCommit _ | .tickPeriodCodeWrite _
  | .blockQuotaCommit _ | .leaseQuotaWrite _ | .openPermissionWrite _ | .commandParameterCommit _ | .commandWrite _
  | .snapshotSelect _ | .linkReset => True
  | _ => False

namespace State.SameBooks

variable {s t : State}

/-- A command that leaves the books under a guard, and the card otherwise. -/
theorem of_ite {c : Prop} [Decidable c] {u : State}
    (ht : (if c then Outcome.next u else .next s : Outcome State Fault Refusal) = .next t) (hu : u.SameBooks s) :
    t.SameBooks s :=
  LeaseOps.next_of_ite (P := fun v => v.SameBooks s) ht hu (refl s)

theorem registerWriteIgnored {w : IgnoredWrite} (ht : execRegisterWriteIgnored w s = .next t) : t.SameBooks s := by
  cases w with
  | control m offset value => exact of_ite ht (of_eq rfl rfl rfl rfl)
  | link value =>
    unfold execRegisterWriteIgnored at ht
    refine dataByte (fun f u staged he => ?_) ht
    split at he
    all_goals cases he
    all_goals exact refl s

theorem linkAddress {address : BitVec 7} {dir : AccessDir} (ht : execLinkAddress address dir s = .next t) :
    t.SameBooks s := by
  unfold execLinkAddress at ht
  split at ht
  · split at ht <;> cases ht <;> exact of_eq rfl rfl rfl rfl
  · cases ht; exact refl s

theorem stagedByte {value : Byte} (ht : execStagedByte value s = .next t) : t.SameBooks s := by
  refine dataByte (fun f u staged he => ?_) ht
  split at he
  · split at he <;> cases he <;> exact of_eq rfl rfl rfl rfl
  · cases he; exact refl s
  · cases he

theorem storeWatermark (s : State) (value : Option Nat) : (s.storeWatermark value).SameBooks s := by
  unfold State.storeWatermark
  split
  · split
    · exact of_eq rfl rfl rfl rfl
    · exact refl s
  · exact refl s

theorem storeBlockQuota (s : State) (m : Master) (value : Option Nat) : (s.storeBlockQuota m value).SameBooks s := by
  unfold State.storeBlockQuota
  split
  · split
    · exact of_eq rfl rfl rfl rfl
    · exact refl s
  · exact refl s

theorem storeParameter (s : State) (value : Option Nat) : (s.storeParameter value).SameBooks s := by
  unfold State.storeParameter
  split <;> exact of_eq rfl rfl rfl rfl

theorem commandParameterCommit {value : Byte} (ht : execCommandParameterCommit value s = .next t) : t.SameBooks s := by
  refine dataByte (fun f u staged he => ?_) ht
  split at he
  · split at he
    · cases he; exact of_eq rfl rfl rfl rfl
    · cases he; exact storeParameter s _
  · cases he

theorem commandWrite {value : Byte} (ht : execCommandWrite value s = .next t) : t.SameBooks s := by
  refine dataByte (fun f u staged he => ?_) ht
  split at he
  · split at he <;> cases he <;> exact of_eq rfl rfl rfl rfl
  · cases he

theorem tickPeriodCodeWrite {value : Byte} (ht : execTickPeriodCodeWrite value s = .next t) : t.SameBooks s := by
  refine dataByte (fun f u staged he => ?_) ht
  split at he <;> cases he
  split <;> exact of_eq rfl rfl rfl rfl

theorem leaseQuotaWrite {value : Byte} (ht : execLeaseQuotaWrite value s = .next t) : t.SameBooks s := by
  refine dataByte (fun f u staged he => ?_) ht
  split at he <;> cases he
  split <;> exact of_eq rfl rfl rfl rfl

/-- A command that is off the books leaves them. -/
theorem of_offBooks {c : Instr} (hc : OffBooks c) (ht : exec c s = .next t) : t.SameBooks s := by
  cases c with
  | reqWrite m value => cases ht; exact of_eq rfl rfl rfl rfl
  | paramWrite m which value => cases ht; exact of_eq rfl rfl rfl rfl
  | eventsWrite m value => cases ht; exact of_eq rfl rfl rfl rfl
  | eventEnableWrite m value => cases ht; exact of_eq rfl rfl rfl rfl
  | registerWriteIgnored w => exact registerWriteIgnored ht
  | controlAccessError master address dir width => exact of_ite ht (of_eq rfl rfl rfl rfl)
  | tick => cases ht; exact of_eq rfl rfl rfl rfl
  | linkStart => cases ht; exact of_eq rfl rfl rfl rfl
  | linkAddress address dir => exact linkAddress ht
  | linkStop => cases ht; exact of_eq rfl rfl rfl rfl
  | pointerByte value => exact of_ite ht (of_eq rfl rfl rfl rfl)
  | linkReadByte acknowledged => exact of_ite ht (of_eq rfl rfl rfl rfl)
  | stagedByte value => exact stagedByte ht
  | supervisorFlagsWrite value =>
    change execSupervisorFlagsWrite value s = .next t at ht
    refine dataByte (fun f u staged he => ?_) ht
    split at he <;> cases he
    exact of_eq rfl rfl rfl rfl
  | supervisorEnablesWrite value =>
    change execSupervisorEnablesWrite value s = .next t at ht
    refine dataByte (fun f u staged he => ?_) ht
    split at he <;> cases he
    exact of_eq rfl rfl rfl rfl
  | watermarkCommit value =>
    change execWatermarkCommit value s = .next t at ht
    refine dataByte (fun f u staged he => ?_) ht
    split at he <;> cases he
    exact storeWatermark s _
  | tickPeriodCodeWrite value => exact tickPeriodCodeWrite ht
  | blockQuotaCommit value =>
    change execBlockQuotaCommit value s = .next t at ht
    refine dataByte (fun f u staged he => ?_) ht
    split at he <;> cases he
    exact storeBlockQuota s _ _
  | leaseQuotaWrite value => exact leaseQuotaWrite ht
  | openPermissionWrite value =>
    change execOpenPermissionWrite value s = .next t at ht
    refine dataByte (fun f u staged he => ?_) ht
    split at he <;> cases he
    exact of_eq rfl rfl rfl rfl
  | commandParameterCommit value => exact commandParameterCommit ht
  | commandWrite value => exact commandWrite ht
  | snapshotSelect value =>
    change execSnapshotSelect value s = .next t at ht
    refine dataByte (fun f u staged he => ?_) ht
    split at he <;> cases he
    exact of_eq rfl rfl rfl rfl
  | linkReset => exact of_ite ht (of_eq rfl rfl rfl rfl)
  | _ => exact hc.elim

end State.SameBooks

/-! #### The operations on the books -/

/-- The operations on records, queue, sessions and apertures that the commands are made of, each with what its command has
checked, and a property of the card that each of them keeps. -/
structure BookOps (P : State → Prop) : Prop where
  /-- What is off the books. -/
  unseen : ∀ {s t : State}, P s → t.SameBooks s → P t
  /-- A session opens (R48). -/
  openSession : ∀ {s : State} (m : Master) (term : Nat), P s → P (s.openSession m term)
  /-- A session ends (R53). -/
  endSession : ∀ {s : State} (m : Master) (reason : EndReason), P s → P (s.endSession m reason)
  /-- A record changes, but for its state, its owner, its holders and its runs. -/
  edit : ∀ {s : State} (r : RecordNo) (mode : Option Mode) (written : Bool), P s →
    P (s.setLease r { s.lease r with mode := mode, written := written })
  /-- ACQUIRE grants at once (R86). -/
  acquire : ∀ {s : State} (m : Master) (r : RecordNo) (mode : Mode), P s → s.Open m → (s.lease r).state ≠ .free →
    s.grantableNow r mode = true → P (s.setLease r ((s.lease r).grantedNow m mode))
  /-- A master that has no entry comes to wait (R87, R95). -/
  wait : ∀ {s : State} {e : WaitEntry} {q : List WaitEntry}, q.Perm (e :: s.queue) → P s → s.Open e.master →
    s.entryOf e.master = none → P (s.setQueue q)
  /-- Entries are counted down or leave the queue (R89, R96, R100). -/
  queue : ∀ {s : State} (q : List WaitEntry), P s →
    (q.map fun e => e.master).Sublist (s.queue.map fun e => e.master) → P (s.setQueue q)
  /-- A grant pass runs (R97). -/
  pass : ∀ {s : State} (r : RecordNo), P s → P (s.grantPass r)
  /-- A holder leaves a lease, which goes the way of its fate (R17, R89). -/
  leave : ∀ {s : State} (m : Master) (r : RecordNo), P s → P ((s.leave r m).settle r)
  /-- A move is abandoned (R122). -/
  abandon : ∀ {s : State} (r : RecordNo) (reason : MoveReason), P s → (s.lease r).state = .moving →
    P (s.abandonMove r reason)
  /-- A lease is retired (R20). -/
  retire : ∀ {s : State} (r : RecordNo) (cause : RetireCause), P s → (s.lease r).state ≠ .free → P (s.retire r cause)
  /-- Apertures become UNBOUND (R89, R133). -/
  unbind : ∀ {s : State} (x : Table (Table Aperture 4) 12), P s →
    (∀ m a, s.aperture m a = .unbound → (x.get m).get a = .unbound) → P (s.setApertures x)
  /-- A holder binds an aperture (R131). -/
  bind : ∀ {s : State} (m : Master) (a : ApertureNo) (h : Handle), P s → s.Open m → P (s.setAperture m a (.bound h))
  /-- CREATE makes a lease (R69). -/
  create : ∀ {s : State} (m : Master) (r : RecordNo) (run : Run), P s → s.Open m → (s.lease r).state = .free →
    P (s.createLease m r run)
  /-- RESIZE shrinks (R109). -/
  shrink : ∀ {s : State} (r : RecordNo) (dir : Direction) (run : Run) (len : Nat), P s → (s.lease r).state ≠ .moving →
    (s.lease r).run = some run → len < run.len → P (s.shrinkLease r dir run len)
  /-- RESIZE grows in place (R111). -/
  grow : ∀ {s : State} (r : RecordNo) (dir : Direction) (run added grown : Run) (len : Nat), P s →
    (s.lease r).state ≠ .moving → (s.lease r).run = some run → run.len < len →
    s.pool.growthInPlace dir run len = some (added, grown) → P (s.growLease r added grown)
  /-- RESIZE starts a move (R113). -/
  startMove : ∀ {s : State} (r : RecordNo) (dir : Direction) (run target : Run) (len : Nat), P s →
    (s.lease r).state ≠ .free → (s.lease r).run = some run → run.len < len →
    s.pool.findRun dir len = some target → P (s.startMove r target)
  /-- A move completes (R120). -/
  completeMove : ∀ {s : State} (r : RecordNo), P s → P (s.completeMove r)
  /-- RESET-ALL (R184). -/
  resetAll : ∀ {s : State}, P s → P (resetAllBody s).1
  /-- A system reset (R165). -/
  reset : ∀ s : State, P s.systemReset

namespace BookOps

variable {P : State → Prop} (h : BookOps P)
include h

theorem same {s t : State} (hs : P s) (leases : t.leases = s.leases) (queue : t.queue = s.queue)
    (apertures : t.apertures = s.apertures) (sessions : t.sessions = s.sessions) : P t :=
  h.unseen hs (.of_eq leases queue apertures sessions)

theorem wake {s : State} (hs : P s) : P s.wakeEngine := h.unseen hs (.wakeEngine s)

/-- Waits end with a record, one after another, and the queue then loses entries. -/
theorem endWaits {s : State} {record : WaitEntry → WaitRecord} {q : List WaitEntry} (entries : List WaitEntry) (hs : P s)
    (hq : q.Sublist s.queue) :
    P ((entries.foldl (fun s' e => s'.endWait e.master (record e)) s).setQueue q) := by
  obtain ⟨b, hb⟩ := foldl_mailboxes (fun s' e => s'.endWait e.master (record e)) (fun s b => ⟨_, rfl⟩) entries s
  rw [hb]
  exact h.queue (s := { s with mailboxes := b }) q (h.same hs rfl rfl rfl rfl) (hq.map _)

/-! #### Takes -/

theorem takeRequest {q : Request} {carryOut : State → Master → State × Answer} {s t : State}
    (hb : ∀ s m, P s → P (carryOut s m).1) (ht : takeRequest q carryOut s = .next t) (hs : P s) : P t := by
  unfold Machine.takeRequest at ht
  split at ht
  · split at ht
    · cases ht
      exact h.same (hb _ _ hs) rfl rfl rfl rfl
    · cases ht; exact hs
  · cases ht; exact hs

theorem takeSupervisor {c : SupervisorCommand} {carryOut : State → State × AnswerCode} {s t : State}
    (hb : ∀ s, P s → P (carryOut s).1) (ht : takeSupervisor c carryOut s = .next t) (hs : P s) : P t := by
  unfold Machine.takeSupervisor at ht
  split at ht
  · split at ht
    · cases ht
      exact h.same (hb _ hs) rfl rfl rfl rfl
    · cases ht; exact hs
  · cases ht; exact hs

/-- A request other than OPEN and CLOSE is carried out with its master's session open (R50). -/
theorem withSession {carryOut : State → Master → State × Answer} (hb : ∀ s m, P s → s.Open m → P (carryOut s m).1)
    (s : State) (m : Master) (hs : P s) : P (withSession carryOut s m).1 := by
  unfold Machine.withSession
  split
  · next ho =>
    have hrenew := State.SameBooks.renew s m
    exact hb _ _ (h.unseen hs hrenew) ((hrenew.state m).trans (by simpa [State.isOpen] using ho))
  · exact hs

/-- A request of an open session that names a lease keeps the property when its body does. -/
theorem takeOnLease {q : Request} {carryOut : State → Master → RecordNo → State × Answer} {s t : State}
    (hb : ∀ s m r, P s → s.Open m → (s.lease r).state ≠ .free → P (carryOut s m r).1)
    (ht : Machine.takeRequest q (Machine.withSession (Machine.withLease carryOut)) s = .next t) (hs : P s) : P t :=
  h.takeRequest (h.withSession fun s m hs ho => by
    unfold Machine.withLease
    split
    · next r hr => exact hb s m r hs ho ((s.validate_iff _ _).1 hr).live
    · exact hs) ht hs

/-! #### Requests -/

theorem openBody (s : State) (m : Master) (hs : P s) : P (openBody s m).1 := by
  have hr : P (s.renewIfOpen m) := by
    unfold State.renewIfOpen
    split
    · exact h.unseen hs (.renew s m)
    · exact hs
  unfold Machine.openBody
  dsimp only
  split
  · exact hr
  · split
    · exact hr
    · split
      · exact h.openSession m _ (h.wake (h.endSession m .reopened hs))
      · exact h.openSession m _ hs

theorem closeBody (s : State) (m : Master) (hs : P s) : P (closeBody s m).1 := by
  unfold Machine.closeBody
  split
  · exact h.wake (h.endSession m .closed hs)
  · exact hs

/-- Only the answer that follows the last check creates a lease. -/
theorem createBody (s : State) (m : Master) (hs : P s) (ho : s.Open m) : P (createBody s m).1 := by
  unfold Machine.createBody
  dsimp only
  split
  · exact h.same hs rfl rfl rfl rfl
  · next r hr =>
    split
    · exact hs
    · split
      · exact hs
      · split
        · exact hs
        · split
          · exact hs
          · split
            · exact hs
            · exact h.create m r _ hs ho (State.firstFree_free hr)

theorem markBody (s : State) (m : Master) (r : RecordNo) (hs : P s) : P (markBody s m r).1 := by
  unfold Machine.markBody
  dsimp only
  split
  · exact hs
  · split
    · exact hs
    · exact h.edit r _ false hs

theorem retireBody (s : State) (m : Master) (r : RecordNo) (hs : P s) (hl : (s.lease r).state ≠ .free) :
    P (retireBody s m r).1 := by
  unfold Machine.retireBody
  dsimp only
  split
  · exact hs
  · split
    · exact hs
    · split
      · exact h.wake (h.retire r .byOwner hs hl)
      · exact hs

theorem acquireBody (s : State) (m : Master) (r : RecordNo) (hs : P s) (ho : s.Open m)
    (hl : (s.lease r).state ≠ .free) : P (acquireBody s m r).1 := by
  unfold Machine.acquireBody
  dsimp only
  split
  · exact hs
  · split
    · exact hs
    · split
      · exact hs
      · split
        · next hg => exact h.acquire m r _ hs ho hl hg
        · split
          · exact hs
          · split
            · exact hs
            · next hn => exact h.wait (List.perm_append_singleton _ _) hs ho hn

/-- The first stages of RELEASE: the move, the entry and the apertures go, and then the holder (R89). -/
theorem releaseBody (s : State) (m : Master) (r : RecordNo) (hs : P s) : P (releaseBody s m r).1 := by
  have hmove : P (s.releaseMove r) := by
    unfold State.releaseMove
    split
    · next hv => exact h.abandon r .released hs hv
    · exact hs
  have hcancel : P ((s.releaseMove r).cancelUpgrade m (s.handle r)) := by
    unfold State.cancelUpgrade
    split
    · split
      · exact h.same (h.queue _ hmove ((dropFromQueue_sublist _ _ _).map _)) rfl rfl rfl rfl
      · exact hmove
    · exact hmove
  have hap : P (((s.releaseMove r).cancelUpgrade m (s.handle r)).releaseApertures m (s.handle r)) := by
    refine h.unbind _ hcancel fun m' a ha => ?_
    rw [Table.get_set]
    split
    · next e =>
      subst e
      rw [Table.get_map]
      exact (congrArg (Aperture.release _) ha).trans rfl
    · exact ha
  unfold Machine.releaseBody
  split
  · exact hs
  · dsimp only
    rw [State.releaseUpToPass_grantPass]
    exact h.wake (h.leave m r hap)

omit h in
/-- An UPGRADE entry goes before the others of its lease (R84). -/
theorem insertUpgrade_perm (e : WaitEntry) (q : List WaitEntry) : (insertUpgrade e q).Perm (e :: q) := by
  induction q with
  | nil => exact .refl _
  | cons x xs ih =>
    unfold insertUpgrade
    split
    · exact .refl _
    · exact (ih.cons x).trans (.swap e x xs)

theorem convertBody (s : State) (m : Master) (r : RecordNo) (hs : P s) (ho : s.Open m) : P (convertBody s m r).1 := by
  unfold Machine.convertBody
  dsimp only
  split
  · exact hs
  · split
    · exact hs
    · split
      · exact hs
      · split
        · exact hs
        · split
          · exact h.pass r (h.edit r _ _ hs)
          · split
            · exact h.edit r _ _ hs
            · unfold queuedUpgrade
              split
              · exact hs
              · split
                · exact hs
                · split
                  · exact hs
                  · next hn => exact h.wait (insertUpgrade_perm _ _) hs ho hn

/-- An entry is removed, with the grant pass of its lease at most (R54, R96). -/
theorem removeEntry {s : State} (e : WaitEntry) (hs : P s) : P (s.removeEntry e) := by
  have hq : P (s.setQueue (dropFromQueue s.queue e.master e.handle)) :=
    h.queue _ hs ((dropFromQueue_sublist _ _ _).map _)
  unfold State.removeEntry
  dsimp only
  split
  · split
    · exact h.pass _ hq
    · exact hq
  · exact hq

theorem cancelBody (s : State) (m : Master) (hs : P s) : P (cancelBody s m).1 := by
  unfold Machine.cancelBody
  split
  · exact hs
  · exact h.removeEntry _ hs

theorem growBody {s : State} {r : RecordNo} {dir : Direction} {run : Run} {len : Nat} (hs : P s)
    (hl : (s.lease r).state ≠ .free) (hv : (s.lease r).state ≠ .moving) (hr : (s.lease r).run = some run)
    (hlt : run.len < len) : P (growBody s r dir run len).1 := by
  unfold Machine.growBody
  split
  · exact hs
  · split
    · next hg => exact h.grow r dir run _ _ len hs hv hr hlt hg
    · unfold growByMove
      split
      · exact hs
      · split
        · exact hs
        · next hf => exact h.wake (h.startMove r dir run _ len hs hl hr hlt hf)

theorem resizeBody (s : State) (m : Master) (r : RecordNo) (hs : P s) (hl : (s.lease r).state ≠ .free) :
    P (resizeBody s m r).1 := by
  unfold Machine.resizeBody
  dsimp only
  split
  · exact hs
  · split
    · exact hs
    · next hv =>
      split
      · exact hs
      · split
        · next run dir hr _ =>
          split
          · exact hs
          · split
            · next hlt => exact h.wake (h.shrink r dir run _ hs hv hr hlt)
            · exact h.growBody hs hl hv hr (by omega)
        · exact hs

theorem bindBody (s : State) (m : Master) (r : RecordNo) (hs : P s) (ho : s.Open m) : P (bindBody s m r).1 := by
  unfold Machine.bindBody
  dsimp only
  split
  · exact hs
  · exact h.bind m _ _ hs ho

theorem unbindBody (s : State) (m : Master) (hs : P s) : P (unbindBody s m).1 := by
  refine h.unbind _ hs fun m' a ha => ?_
  rw [Table.get_set]
  split
  · next e =>
    subst e
    rw [Table.get_set]
    split
    · rfl
    · exact ha
  · exact ha

/-! #### Data accesses and bursts -/

/-- An access at the port sets a written flag at most (R144). -/
theorem serve {s : State} (x : Transfer) (hs : P s) : P (s.serve x) := by
  rcases s.serve_cases x with ⟨b, a, e⟩ | ⟨m, r, address, -, -, -, e⟩
  · rw [e]; exact h.same hs rfl rfl rfl rfl
  · rw [e]; exact h.same (h.edit r _ true hs) rfl rfl rfl rfl

theorem takeTransfer {s : State} (x : Transfer) (hs : P s) : P (s.takeTransfer x) := by
  rcases s.takeTransfer_cases x with e | ⟨-, e⟩ | ⟨-, e⟩
  · rw [e]; exact hs
  · rw [e]; exact h.serve x hs
  · rw [e]; exact h.same hs rfl rfl rfl rfl

/-- Of the ends of bursts the books show the completion of a move only. -/
theorem burst {s u : State} {c : Instr} (hu : s.BurstEnds c u) (hs : P s) : P u := by
  have choose : ∀ {v : State}, P v → P v.chooseStep := fun {v} hv => h.unseen hv (.chooseStep v)
  have hsetEngine : ∀ {v : State} (e : Engine), P v → P (v.setEngine e) := fun {v} e hv => h.unseen hv (.setEngine v e)
  cases hu with
  | scrub => exact hsetEngine _ (h.unseen hs (.zeroBurst s _ _))
  | @scrubBlock b =>
    have hz := h.unseen hs (.zeroBurst s b.1 63)
    have hf : P ((s.zeroBurst b.1 63).setPool ((s.zeroBurst b.1 63).pool.freeBlock b)) :=
      h.unseen hz (.of_eq (State.setPool_leases _ _) (State.setPool_queue _ _) (State.setPool_apertures _ _)
        (State.setPool_sessions _ _))
    exact choose (h.unseen (hsetEngine _ hf) (.checkReady _))
  | cutScrub => exact choose (h.unseen hs (.zeroBurst s _ _))
  | copy => exact hsetEngine _ (h.unseen hs (.moverBurst s _))
  | cutCopy => exact choose (h.unseen hs (.copyBurst s _ _ _))
  | copyBlock => exact choose (hsetEngine _ (h.unseen hs (.moverBurst s _)))
  | complete => exact choose (h.completeMove _ (h.unseen hs (.moverBurst s _)))

theorem burstEnd {c : Instr} {s t : State} (hc : c ∈ burstEnds) (ht : Machine.exec c s = .next t) (hs : P s) : P t := by
  rcases exec_burstEnds hc ht with rfl | ⟨u, hu, rfl⟩
  · exact hs
  · have hp := h.burst hu hs
    exact State.servePort_keeps (h.same hp rfl rfl rfl rfl) fun x => h.serve x (h.same hp rfl rfl rfl rfl)

/-! #### Ticks and supervisor commands -/

theorem sessionTick {s : State} (hs : P s) : P s.sessionTick := by
  have hc : P s.countSessions := h.unseen hs (.countSessions s)
  unfold State.sessionTick State.lapseAll
  split
  · exact hc
  · exact h.wake (List.foldlRecOn _ _ hc fun s hs m _ => h.endSession m .lapsed hs)

theorem queueTick {s : State} (hs : P s) : P s.queueTick := by
  have hq : P (s.setQueue (s.queue.map WaitEntry.countdown)) := by
    refine h.queue _ hs ?_
    rw [List.map_map]
    exact .refl _
  have hc : P s.countQueue := h.same hq rfl rfl rfl rfl
  exact List.foldlRecOn _ _ (h.endWaits _ hc List.filter_sublist) fun u hu r _ => h.pass r hu

theorem revokeBody (s : State) (hs : P s) : P (revokeBody s).1 := by
  unfold Machine.revokeBody
  split
  · next r hr => exact h.wake (h.retire r .revoked hs ((s.validate_iff _ _).1 hr).live)
  · exact hs

theorem evictBody (s : State) (hs : P s) : P (evictBody s).1 := by
  unfold Machine.evictBody
  dsimp only
  split
  · split
    · exact h.wake (h.endSession _ .evicted hs)
    · exact hs
  · exact hs

/-! #### Every command -/

/-- Every command keeps what the operations keep. -/
theorem exec {c : Instr} {s t : State} (ht : exec c s = .next t) (hs : P s) : P t := by
  have offBooks : OffBooks c → P t := fun hc => h.unseen hs (.of_offBooks hc ht)
  cases c with
  | takeOpen => exact h.takeRequest h.openBody ht hs
  | takeRenew => exact h.takeRequest (h.withSession fun _ _ hs _ => hs) ht hs
  | takeClose => exact h.takeRequest h.closeBody ht hs
  | takeCreate => exact h.takeRequest (h.withSession h.createBody) ht hs
  | takeFind => exact h.takeRequest (h.withSession fun s m hs _ => LeaseOps.findBody s m hs) ht hs
  | takeQuery => exact h.takeOnLease (fun _ _ _ hs _ _ => hs) ht hs
  | takeMark => exact h.takeOnLease (fun s m r hs _ _ => h.markBody s m r hs) ht hs
  | takeRetire => exact h.takeOnLease (fun s m r hs _ hl => h.retireBody s m r hs hl) ht hs
  | takeAcquire => exact h.takeOnLease h.acquireBody ht hs
  | takeRelease => exact h.takeOnLease (fun s m r hs _ _ => h.releaseBody s m r hs) ht hs
  | takeConvert => exact h.takeOnLease (fun s m r hs ho _ => h.convertBody s m r hs ho) ht hs
  | takeCancel => exact h.takeRequest (h.withSession fun s m hs _ => h.cancelBody s m hs) ht hs
  | takeResize => exact h.takeOnLease (fun s m r hs _ hl => h.resizeBody s m r hs hl) ht hs
  | takeBind => exact h.takeOnLease (fun s m r hs ho _ => h.bindBody s m r hs ho) ht hs
  | takeUnbind => exact h.takeRequest (h.withSession fun s m hs _ => h.unbindBody s m hs) ht hs
  | takeUndefined => exact h.takeRequest (h.withSession fun _ _ hs _ => hs) ht hs
  | dataRead master address width => cases ht; exact h.takeTransfer _ hs
  | dataWrite master address width lanes => cases ht; exact h.takeTransfer _ hs
  | sessionCountdown => exact LeaseOps.next_of_ite ht (h.sessionTick hs) hs
  | sessionLapse => exact LeaseOps.next_of_ite ht (h.sessionTick hs) hs
  | waitQueueCountdown => exact LeaseOps.next_of_ite ht (h.queueTick hs) hs
  | waitTimeout => exact LeaseOps.next_of_ite ht (h.queueTick hs) hs
  | scrubBurstEnd => exact h.burstEnd (by simp [burstEnds]) ht hs
  | scrubBlockStepEnd => exact h.burstEnd (by simp [burstEnds]) ht hs
  | copyBurstEnd => exact h.burstEnd (by simp [burstEnds]) ht hs
  | copyBlockStepEnd => exact h.burstEnd (by simp [burstEnds]) ht hs
  | moveCompletion => exact h.burstEnd (by simp [burstEnds]) ht hs
  | takeRevoke => exact h.takeSupervisor h.revokeBody ht hs
  | takeEvict => exact h.takeSupervisor h.evictBody ht hs
  | takeResetAll => exact h.takeSupervisor (fun _ hs => h.resetAll hs) ht hs
  | takeUndefinedSupervisor => exact h.takeSupervisor (fun _ hs => hs) ht hs
  | systemReset => cases ht; exact h.reset s
  | _ => exact offBooks trivial

/-- A step keeps what the operations keep. -/
theorem step {s t : State} (ht : Machine.step s = .next t) (hs : P s) : P t := by
  unfold Machine.step at ht
  split at ht
  · cases ht; exact hs
  · exact h.exec ht (h.same hs rfl rfl rfl rfl)

end BookOps

end Sys2Proof.Machine
end

section
/-! ### The owned counts (R59) -/

namespace Sys2Proof.Machine

/-- What the law of owned counts says of one record. -/
structure Lease.OwnRule (l : Lease) : Prop where
  free : l.state = .free → l.owner = none
  still : l.state ≠ .moving → l.target = none
  target : ∀ target, l.target = some target → l.length ≤ target.len

/-- What a record adds to a master's count of something. -/
def Lease.share (l : Lease) (f : Lease → Nat) (m : Master) : Nat := if l.owner = some m then f l else 0

/-- A master's count of something over all records. -/
def State.tally (s : State) (f : Lease → Nat) (m : Master) : Nat := ∑ r, (s.lease r).share f m

theorem sum_filter_allRecords (p : RecordNo → Bool) (g : RecordNo → Nat) :
    ((allRecords.filter p).map g).sum = ∑ r, if p r then g r else 0 := by
  have hlist : ∀ l : List RecordNo, ((l.filter p).map g).sum = (l.map fun r => if p r then g r else 0).sum := by
    intro l
    induction l with
    | nil => rfl
    | cons r rest ih =>
      by_cases hp : p r = true
      · simp [hp, ih]
      · simp [hp, ih]
  rw [hlist, Fin.sum_univ_def]
  rfl

/-- A FREE record has no owner, so the records a master owns are those that name it as their owner (R59). -/
theorem State.tally_eq {s : State} (h : ∀ r, (s.lease r).state = .free → (s.lease r).owner = none)
    (f : Lease → Nat) (m : Master) : ((s.ownedRecords m).map fun r => f (s.lease r)).sum = s.tally f m := by
  unfold State.ownedRecords State.tally
  rw [sum_filter_allRecords]
  refine Finset.sum_congr rfl fun r _ => ?_
  unfold Lease.share
  by_cases hf : (s.lease r).state = .free
  · simp [hf, h r hf]
  · simp [hf]

theorem State.ownerLaw_iff (s : State) :
    s.OwnerLaw ↔ (∀ r, (s.lease r).OwnRule) ∧ (∀ m, (s.session m).ownedLeases = s.tally (fun _ => 1) m) ∧
      ∀ m, (s.session m).ownedBlocks = s.tally Lease.length m := by
  have hlength : ∀ m, (s.ownedRecords m).length = ((s.ownedRecords m).map fun r => (fun _ => 1) (s.lease r)).sum :=
    fun m => by simp
  constructor
  · intro h
    refine ⟨fun r => ⟨h.free r, h.still r, h.target r⟩, fun m => ?_, fun m => ?_⟩
    · rw [h.leases, hlength]; exact State.tally_eq h.free (fun _ => 1) m
    · rw [h.blocks, State.tally_eq h.free]
  · rintro ⟨hr, hl, hb⟩
    have hfree := fun r => (hr r).free
    refine ⟨hfree, fun r => (hr r).still, fun m => ?_, fun m => ?_, fun r => (hr r).target⟩
    · rw [hl, hlength]; exact (State.tally_eq hfree (fun _ => 1) m).symm
    · rw [hb, State.tally_eq hfree]

/-- One record is replaced: its share leaves the count and that of the new one joins it. -/
theorem State.tally_of_lease {s t : State} {r : RecordNo} {l : Lease}
    (ht : ∀ r', t.lease r' = if r = r' then l else s.lease r') (f : Lease → Nat) (m : Master) :
    t.tally f m + (s.lease r).share f m = s.tally f m + l.share f m := by
  have hs := Finset.add_sum_erase Finset.univ (fun r => (s.lease r).share f m) (Finset.mem_univ r)
  have ht' := Finset.add_sum_erase Finset.univ (fun r => (t.lease r).share f m) (Finset.mem_univ r)
  have hself : t.lease r = l := by rw [ht, if_pos rfl]
  have hrest : ∑ r' ∈ Finset.univ.erase r, (t.lease r').share f m =
      ∑ r' ∈ Finset.univ.erase r, (s.lease r').share f m := by
    refine Finset.sum_congr rfl fun r' hr' => ?_
    rw [ht, if_neg (Finset.ne_of_mem_erase hr').symm]
  rw [hself, hrest] at ht'
  unfold State.tally
  omega

theorem State.share_le_tally (s : State) (r : RecordNo) (f : Lease → Nat) (m : Master) :
    (s.lease r).share f m ≤ s.tally f m :=
  Finset.single_le_sum (f := fun r => (s.lease r).share f m) (fun _ _ => Nat.zero_le _) (Finset.mem_univ r)

theorem Lease.share_of_owner {l l' : Lease} (h : l'.owner = l.owner) {f : Lease → Nat} (hf : f l' = f l) (m : Master) :
    l'.share f m = l.share f m := by
  unfold Lease.share
  rw [h, hf]

theorem Lease.share_none {l : Lease} (h : l.owner = none) (f : Lease → Nat) (m : Master) : l.share f m = 0 := by
  unfold Lease.share
  rw [h]
  exact if_neg (by simp)

theorem Lease.share_length {l : Lease} {run : Run} (h : l.run = some run) (m : Master) :
    l.share Lease.length m = if l.owner = some m then run.len else 0 := by
  unfold Lease.share
  rw [Lease.length_eq h]

/-! #### The sessions' counts after a change -/

theorem State.addOwnedBy_session (s : State) (owner : Option Master) (m : Master) (a b : Nat) :
    ((s.addOwnedBy owner a b).session m).ownedLeases = (s.session m).ownedLeases + (if owner = some m then a else 0) ∧
      ((s.addOwnedBy owner a b).session m).ownedBlocks =
        (s.session m).ownedBlocks + (if owner = some m then b else 0) := by
  cases owner with
  | none => exact ⟨rfl, rfl⟩
  | some m' =>
    unfold State.addOwnedBy State.addOwned
    dsimp only
    rw [State.session_setSession]
    by_cases h : m' = m
    · subst h; simp
    · simp [h]

theorem State.dropOwnedBy_session (s : State) (owner : Option Master) (m : Master) (a b : Nat) :
    ((s.dropOwnedBy owner a b).session m).ownedLeases = (s.session m).ownedLeases - (if owner = some m then a else 0) ∧
      ((s.dropOwnedBy owner a b).session m).ownedBlocks =
        (s.session m).ownedBlocks - (if owner = some m then b else 0) := by
  cases owner with
  | none => exact ⟨rfl, rfl⟩
  | some m' =>
    unfold State.dropOwnedBy State.dropOwned
    dsimp only
    rw [State.session_setSession]
    by_cases h : m' = m
    · subst h; simp
    · simp [h]

/-! #### The rule of one record -/

namespace Lease.OwnRule

variable {l l' : Lease}

/-- A record that is neither FREE nor MOVING and has no target run. -/
theorem settled (live : l.state ≠ .free) (target : l.target = none) : l.OwnRule :=
  ⟨fun e => absurd e live, fun _ => target, fun x hx => by rw [target] at hx; cases hx⟩

theorem freed (g : Fin 1024) : (Lease.freed g).OwnRule := ⟨fun _ => rfl, fun _ => rfl, fun _ h => nomatch h⟩

/-- Fields that the rule does not speak of may change. -/
theorem congr (h : l.OwnRule) (state : l'.state = l.state) (owner : l'.owner = l.owner) (run : l'.run = l.run)
    (target : l'.target = l.target) : l'.OwnRule := by
  constructor
  · rw [state, owner]; exact h.free
  · rw [state, target]; exact h.still
  · unfold Lease.length; rw [run, target]; exact h.target

/-- A grant leaves owner and run, and the lease still (R98). -/
theorem granted (h : l.OwnRule) (hm : l.state ≠ .moving) (e : WaitEntry) :
    (l.granted e).OwnRule ∧ (l.granted e).state ≠ .moving ∧ (l.granted e).owner = l.owner ∧
      (l.granted e).run = l.run := by
  unfold Lease.granted
  split
  · exact ⟨h.congr rfl rfl rfl rfl, hm, rfl, rfl⟩
  · exact ⟨settled (by simp) (h.still hm), by simp, rfl, rfl⟩
  · exact ⟨settled (by simp) (h.still hm), by simp, rfl, rfl⟩

theorem foldl_granted (h : l.OwnRule) (hm : l.state ≠ .moving) (entries : List WaitEntry) :
    (entries.foldl Lease.granted l).OwnRule ∧ (entries.foldl Lease.granted l).owner = l.owner ∧
      (entries.foldl Lease.granted l).run = l.run := by
  have hfold := List.foldlRecOn
    (motive := fun l' : Lease => l'.OwnRule ∧ l'.state ≠ .moving ∧ l'.owner = l.owner ∧ l'.run = l.run)
    entries Lease.granted ⟨h, hm, rfl, rfl⟩ fun l' hl' e _ => by
      obtain ⟨hrule, hmove, howner, hrun⟩ := hl'
      obtain ⟨hrule', hmove', howner', hrun'⟩ := hrule.granted hmove e
      exact ⟨hrule', hmove', howner'.trans howner, hrun'.trans hrun⟩
  obtain ⟨hrule, -, howner, hrun⟩ := hfold
  exact ⟨hrule, howner, hrun⟩

end Lease.OwnRule

/-! #### The law of owned counts -/

namespace State.OwnerLaw

variable {s t : State}

theorem rule (h : s.OwnerLaw) (r : RecordNo) : (s.lease r).OwnRule := (s.ownerLaw_iff.1 h).1 r

/-- One record changes, and each master's counts follow. -/
theorem of_lease {r : RecordNo} {l : Lease} (h : s.OwnerLaw) (ht : ∀ r', t.lease r' = if r = r' then l else s.lease r')
    (rule : l.OwnRule)
    (leases : ∀ m, (t.session m).ownedLeases + (s.lease r).share (fun _ => 1) m =
      (s.session m).ownedLeases + l.share (fun _ => 1) m)
    (blocks : ∀ m, (t.session m).ownedBlocks + (s.lease r).share Lease.length m =
      (s.session m).ownedBlocks + l.share Lease.length m) : t.OwnerLaw := by
  obtain ⟨hr, hl, hb⟩ := s.ownerLaw_iff.1 h
  refine t.ownerLaw_iff.2 ⟨fun r' => ?_, fun m => ?_, fun m => ?_⟩
  · rw [ht]
    split
    · exact rule
    · exact hr r'
  · have := State.tally_of_lease ht (fun _ => 1) m
    have := leases m
    have := hl m
    omega
  · have := State.tally_of_lease ht Lease.length m
    have := blocks m
    have := hb m
    omega

/-- A change that the counts do not see. -/
theorem congr (h : s.OwnerLaw) (leases : t.leases = s.leases)
    (owned : ∀ m, (t.session m).ownedLeases = (s.session m).ownedLeases ∧
      (t.session m).ownedBlocks = (s.session m).ownedBlocks) : t.OwnerLaw := by
  have hlease : ∀ r, t.lease r = s.lease r := fun r => by unfold State.lease; rw [leases]
  refine h.of_lease (r := 0) (l := s.lease 0) (fun r' => ?_) (h.rule 0) (fun m => by rw [(owned m).1])
    fun m => by rw [(owned m).2]
  rw [hlease]
  split
  · next e => rw [e]
  · rfl

theorem of_eq (h : s.OwnerLaw) (leases : t.leases = s.leases) (sessions : t.sessions = s.sessions) : t.OwnerLaw :=
  h.congr leases fun m => by unfold State.session; rw [sessions]; exact ⟨rfl, rfl⟩

/-- One record changes, and its owner and run do not. -/
theorem same_owned {r : RecordNo} {l : Lease} (h : s.OwnerLaw)
    (ht : ∀ r', t.lease r' = if r = r' then l else s.lease r') (sessions : t.sessions = s.sessions) (rule : l.OwnRule)
    (owner : l.owner = (s.lease r).owner) (run : l.run = (s.lease r).run) : t.OwnerLaw := by
  have hsession : ∀ m, t.session m = s.session m := fun m => by unfold State.session; rw [sessions]
  refine h.of_lease ht rule (fun m => ?_) fun m => ?_
  · rw [hsession, Lease.share_of_owner owner rfl]
  · rw [hsession, Lease.share_of_owner owner (by unfold Lease.length; rw [run])]

theorem setLease {r : RecordNo} {l : Lease} (h : s.OwnerLaw) (rule : l.OwnRule)
    (owner : l.owner = (s.lease r).owner) (run : l.run = (s.lease r).run) : (s.setLease r l).OwnerLaw :=
  h.same_owned (s.lease_setLease r · l) rfl rule owner run

theorem grantPass (h : s.OwnerLaw) (r : RecordNo) : (s.grantPass r).OwnerLaw := by
  refine h.same_owned (fun r' => ((s.grantPass_quiet r).lease r').trans (State.lease_setLease _ _ _ _))
    (s.grantPass_sessions r) ?_ ?_ ?_
  all_goals
    rw [s.grantable_eq]
    split
  · exact h.rule r
  · next hm => exact ((h.rule r).foldl_granted hm _).1
  · rfl
  · next hm => exact ((h.rule r).foldl_granted hm _).2.1
  · rfl
  · next hm => exact ((h.rule r).foldl_granted hm _).2.2

theorem abandonMove (h : s.OwnerLaw) (r : RecordNo) (reason : MoveReason) : (s.abandonMove r reason).OwnerLaw :=
  h.same_owned (s.abandonMove_lease r · reason) (s.abandonMove_sessions r reason) (.settled (by simp) rfl) rfl rfl

/-- A live record is freed: it leaves its owner's counts (R20). -/
theorem freeRecord (h : s.OwnerLaw) (r : RecordNo) : (s.freeRecord r).OwnerLaw := by
  obtain ⟨-, hl, hb⟩ := s.ownerLaw_iff.1 h
  have hsession := (s.scrubRun (s.lease r).run).dropOwnedBy_session (s.lease r).owner
  have hscrub : ∀ m, (s.scrubRun (s.lease r).run).session m = s.session m := by
    obtain ⟨p, hp⟩ := s.scrubRun_frame (s.lease r).run
    rw [hp]
    exact fun _ => rfl
  refine h.of_lease (r := r) (fun r' => ?_) (.freed (s.lease r).generation) (fun m => ?_) fun m => ?_
  · rw [(s.freeRecord_quiet r).lease, State.lease_setLease, State.lease_scrubRun]
  · have hshare := s.share_le_tally r (fun _ => 1) m
    rw [← hl] at hshare
    rw [Lease.share_none (l := Lease.freed (s.lease r).generation) rfl]
    have := (hsession m 1 (s.lease r).length).1
    rw [hscrub] at this
    refine (congrArg (· + _) this).trans ?_
    exact Nat.sub_add_cancel hshare
  · have hshare := s.share_le_tally r Lease.length m
    rw [← hb] at hshare
    rw [Lease.share_none (l := Lease.freed (s.lease r).generation) rfl]
    have := (hsession m 1 (s.lease r).length).2
    rw [hscrub] at this
    refine (congrArg (· + _) this).trans ?_
    exact Nat.sub_add_cancel hshare

theorem retire (h : s.OwnerLaw) (r : RecordNo) (cause : RetireCause) : (s.retire r cause).OwnerLaw := by
  have hmove : (s.retireMove r).OwnerLaw := by
    unfold State.retireMove
    split
    · exact h.abandonMove r .revoked
    · exact h
  obtain ⟨q, b, e⟩ := (s.retireMove r).withdrawWaiters_frame (s.handle r)
  obtain ⟨b', a, e'⟩ := ((s.retireMove r).withdrawWaiters (s.handle r)).retireApertures_frame r cause
  refine freeRecord ?_ r
  rw [e', e]
  exact hmove.of_eq rfl rfl

theorem settle (h : s.OwnerLaw) (r : RecordNo) : (s.settle r).OwnerLaw := by
  rcases s.settle_cases r with ⟨e, -⟩ | ⟨hheld, -, e | e⟩
  · rw [e]; exact h
  · rw [e]; exact h.setLease (.settled (by simp) ((h.rule r).still (by simp [hheld]))) rfl rfl
  · rw [e]; exact h.retire r .emptied

theorem leave (h : s.OwnerLaw) (r : RecordNo) (m : Master) : (s.leave r m).OwnerLaw :=
  (h.setLease (l := (s.lease r).without m) ((h.rule r).congr rfl rfl rfl rfl) rfl rfl).grantPass r

theorem endSession (h : s.OwnerLaw) (m : Master) (reason : EndReason) : (s.endSession m reason).OwnerLaw := by
  have hremove : ∀ e, (s.removeEntry e).OwnerLaw := by
    intro e
    have hq : (s.setQueue (dropFromQueue s.queue e.master e.handle)).OwnerLaw := h.of_eq rfl rfl
    unfold State.removeEntry
    dsimp only
    split
    · split
      · exact hq.grantPass _
      · exact hq
    · exact hq
  have h1 : (s.endStage1 m).OwnerLaw := by
    unfold State.endStage1
    split
    · exact hremove _
    · exact h
  have h2 : ((s.endStage1 m).endStage2 m).OwnerLaw := by
    unfold State.endStage2
    split
    · split
      · exact h1.abandonMove _ _
      · exact h1
    · exact h1
  have h3 : (((s.endStage1 m).endStage2 m).endStage3 m).OwnerLaw := by
    refine List.foldlRecOn _ _ h2 fun u hu r _ => ?_
    unfold State.endHold
    split
    · exact (hu.leave r m).settle r
    · exact hu
  refine h3.congr ?_ fun m' => ?_
  · unfold State.endSession State.endNotices
    split <;> rfl
  · have hclose : ∀ u : State, ((u.closeSession m reason).session m').ownedLeases = (u.session m').ownedLeases ∧
        ((u.closeSession m reason).session m').ownedBlocks = (u.session m').ownedBlocks := by
      intro u
      unfold State.closeSession
      rw [State.session_setSession]
      split
      · next e => subst e; exact ⟨rfl, rfl⟩
      · exact ⟨rfl, rfl⟩
    unfold State.endSession State.endNotices
    split <;> exact hclose _

/-- RESIZE takes blocks off the lease and its owner's count (R109). -/
theorem shrinkLease (h : s.OwnerLaw) {r : RecordNo} {run : Run} {len : Nat} (dir : Direction)
    (hm : (s.lease r).state ≠ .moving) (hr : (s.lease r).run = some run) (hlt : len < run.len) :
    (s.shrinkLease r dir run len).OwnerLaw := by
  obtain ⟨-, -, hb⟩ := s.ownerLaw_iff.1 h
  have hsession := fun m => ((s.scrubRun (some (shrunkOff dir run len))).setLease r
    { s.lease r with run := some (shrunkTo dir run len) }).dropOwnedBy_session (s.lease r).owner m 0 (run.len - len)
  have hto : (shrunkTo dir run len).len = len := by cases dir <;> rfl
  have htarget := (h.rule r).still hm
  refine h.of_lease (l := { s.lease r with run := some (shrunkTo dir run len) })
    (fun r' => ((s.shrinkLease_quiet r dir run len).lease r').trans (State.lease_setLease _ _ _ _))
    ⟨(h.rule r).free, (h.rule r).still, fun x hx => by rw [show (s.lease r).target = some x from hx] at htarget; cases htarget⟩
    (fun m => ?_) fun m => ?_
  · refine congrArg₂ (· + ·) ((hsession m).1.trans ?_) rfl
    rw [ite_self]
    rfl
  · have hshare := s.share_le_tally r Lease.length m
    rw [← hb, Lease.share_length hr] at hshare
    rw [Lease.share_length hr, Lease.share_length (run := shrunkTo dir run len) rfl, hto]
    have hcount : ((s.shrinkLease r dir run len).session m).ownedBlocks =
        (s.session m).ownedBlocks - if (s.lease r).owner = some m then run.len - len else 0 := (hsession m).2
    rw [hcount]
    split at hshare
    · next e => simp only [e, if_true]; omega
    · next e => simp only [e, if_false]; omega

/-- RESIZE adds blocks to the lease and to its owner's count (R111). -/
theorem growLease (h : s.OwnerLaw) {r : RecordNo} {dir : Direction} {run added grown : Run} {len : Nat}
    (hm : (s.lease r).state ≠ .moving) (hr : (s.lease r).run = some run) (hlt : run.len < len)
    (hg : s.pool.growthInPlace dir run len = some (added, grown)) : (s.growLease r added grown).OwnerLaw := by
  obtain ⟨-, hadded, hgrown, -⟩ := Pool.growthInPlace_spec hlt hg
  have hsession := fun m => ((s.allocate added (.run r)).setLease r
    { s.lease r with run := some grown }).addOwnedBy_session (s.lease r).owner m 0 added.len
  have hallocate : ∀ m, ((s.allocate added (.run r)).setLease r { s.lease r with run := some grown }).session m =
      s.session m := by
    obtain ⟨p, x, e⟩ := s.allocate_frame added (.run r)
    rw [e]
    exact fun _ => rfl
  have htarget := (h.rule r).still hm
  refine h.of_lease (l := { s.lease r with run := some grown })
    (fun r' => ((s.growLease_quiet r added grown).lease r').trans (State.lease_setLease _ _ _ _))
    ⟨(h.rule r).free, (h.rule r).still, fun x hx => by rw [show (s.lease r).target = some x from hx] at htarget; cases htarget⟩
    (fun m => ?_) fun m => ?_
  · refine congrArg₂ (· + ·) ((hsession m).1.trans ?_) rfl
    rw [ite_self, hallocate]
    rfl
  · rw [Lease.share_length hr, Lease.share_length (run := grown) rfl, hgrown]
    have hcount : ((s.growLease r added grown).session m).ownedBlocks =
        (s.session m).ownedBlocks + if (s.lease r).owner = some m then added.len else 0 := by
      rw [← hallocate]
      exact (hsession m).2
    rw [hcount, hadded]
    dsimp only
    split <;> omega

/-- The target run of a move that starts is longer than the run (R113). -/
theorem startMove (h : s.OwnerLaw) {r : RecordNo} {dir : Direction} {run target : Run} {len : Nat}
    (hr : (s.lease r).run = some run) (hlt : run.len < len)
    (hf : s.pool.findRun dir len = some target) : (s.startMove r target).OwnerLaw := by
  have hlen := (Pool.findRun_fits hf).1
  obtain ⟨p, x, e⟩ := s.allocate_frame target (.target r)
  refine h.same_owned (l := { s.lease r with state := .moving, target := some target })
    (fun r' => ((s.startMove_quiet r target).lease r').trans (State.lease_setLease _ _ _ _)) ?_
    ⟨(nomatch ·), fun hn => absurd rfl hn, fun x hx => ?_⟩ rfl rfl
  · unfold State.startMove
    rw [e]
    rfl
  · cases hx
    refine (Lease.length_eq (run := run) hr).le.trans ?_
    omega

/-- A completed move adds to its owner's count what the target run is longer (R120). -/
theorem completeMove (h : s.OwnerLaw) (r : RecordNo) : (s.completeMove r).OwnerLaw := by
  have hsessions : ∀ m, (s.completeMove r).session m = (((s.swapRuns r).addOwnedBy (s.lease r).owner 0
      ((s.lease r).targetLength - (s.lease r).length)).session m) := by
    intro m
    obtain ⟨b, hb⟩ := State.forMasters_frame
      (((s.swapRuns r).addOwnedBy (s.lease r).owner 0 ((s.lease r).targetLength - (s.lease r).length)).setEngine
        s.engine.endMove) (s.lease r).holders
      (fun s' m => s'.endMove m
        { handle := s.handle r, result := some .done, reason := .none, length := (s.lease r).targetLength })
      fun _ _ => ⟨_, rfl⟩
    unfold State.completeMove
    rw [hb]
    rfl
  have hadd := fun m => (s.swapRuns r).addOwnedBy_session (s.lease r).owner m 0
    ((s.lease r).targetLength - (s.lease r).length)
  have hswap : ∀ m, (s.swapRuns r).session m = s.session m := by
    rcases s.swapRuns_cases r with ⟨-, e⟩ | ⟨target, -, e⟩
    · rw [e]; exact fun _ => rfl
    · rw [e]; cases (s.lease r).run <;> exact fun _ => rfl
  rcases s.swapRuns_cases r with ⟨hnone, e⟩ | ⟨target, ht, -⟩
  · refine h.congr (((s.completeMove_quiet r).leases).trans (by rw [e]; rfl)) fun m => ?_
    rw [hsessions, (hadd m).1, (hadd m).2, hswap, show (s.lease r).targetLength = 0 by
      unfold Lease.targetLength; rw [hnone]]
    simp
  · have hlonger := (h.rule r).target target ht
    have hlength : (s.lease r).targetLength = target.len := by unfold Lease.targetLength; rw [ht]
    refine h.of_lease (r := r) (l := (s.lease r).onTarget target) (fun r' => ?_) (.settled (by simp [Lease.onTarget]) rfl)
      (fun m => ?_) fun m => ?_
    · split
      · next e => rw [← e]; exact State.completeMove_lease ht
      · next hne =>
        rcases s.swapRuns_cases r with ⟨hnone, -⟩ | ⟨target', -, e⟩
        · rw [hnone] at ht; cases ht
        · rw [(s.completeMove_quiet r).lease, State.lease_setEngine, e, State.lease_setLease, if_neg hne,
            State.lease_scrubRun]
          rfl
    · rw [hsessions, (hadd m).1, hswap, ite_self]
      rfl
    · rw [hsessions, (hadd m).2, hswap, hlength, Lease.share_length (l := (s.lease r).onTarget target) rfl]
      unfold Lease.share Lease.onTarget
      dsimp only
      split <;> omega

/-- CREATE takes a FREE record, which counts for nobody (R69). -/
theorem createLease (h : s.OwnerLaw) (m : Master) {r : RecordNo} (hr : (s.lease r).state = .free) (run : Run) :
    (s.createLease m r run).OwnerLaw := by
  have hnone := (h.rule r).free hr
  have hsession := fun m' => (((s.allocate run (.run r)).setLease r
    ((s.lease r).created m (s.mailbox m) run)).addOwnedBy_session (some m) m' 1 run.len)
  have hallocate : ∀ m', ((s.allocate run (.run r)).setLease r ((s.lease r).created m (s.mailbox m) run)).session m' =
      s.session m' := by
    obtain ⟨p, x, e⟩ := s.allocate_frame run (.run r)
    rw [e]
    exact fun _ => rfl
  refine h.of_lease (fun r' => s.createLease_lease m r r' run) (.settled (by simp [Lease.created]) rfl) (fun m' => ?_)
    fun m' => ?_
  · rw [Lease.share_none hnone, ← hallocate]
    exact (hsession m').1
  · rw [Lease.share_none hnone, ← hallocate]
    exact (hsession m').2

/-- RESET-ALL frees every record and clears every count (R62, R184). -/
theorem resetAll (s : State) : (resetAllBody s).1.OwnerLaw := by
  have hfree : (resetAllBody s).1.AllFree := fun r => ⟨_, State.resetAllBody_lease s r⟩
  have hsession : ∀ m, (resetAllBody s).1.session m = (s.session m).resetAll := by
    intro m
    unfold State.session
    rw [resetAllBody_eq, State.wakeEngine_sessions]
    exact Table.get_map _ _ _
  have hcounts : ∀ x : Session, x.resetAll.ownedLeases = 0 ∧ x.resetAll.ownedBlocks = 0 := by
    intro x
    unfold Session.resetAll
    split <;> exact ⟨rfl, rfl⟩
  have htally : ∀ f m, (resetAllBody s).1.tally f m = 0 := by
    intro f m
    refine Finset.sum_eq_zero fun r _ => ?_
    obtain ⟨g, e⟩ := hfree r
    rw [e]
    exact Lease.share_none rfl _ _
  refine (State.ownerLaw_iff _).2 ⟨fun r => ?_, fun m => ?_, fun m => ?_⟩
  · obtain ⟨g, e⟩ := hfree r
    rw [e]
    exact .freed g
  · rw [hsession, htally, (hcounts _).1]
  · rw [hsession, htally, (hcounts _).2]

end State.OwnerLaw

/-- Every operation keeps the law of owned counts. -/
theorem bookOps_ownerLaw : BookOps State.OwnerLaw where
  unseen hs h := hs.congr h.leases fun m => ⟨h.ownedLeases m, h.ownedBlocks m⟩
  openSession {s} m term hs := hs.congr rfl fun m' => by
    unfold State.openSession
    rw [State.session_setSession]
    split
    · next e => subst e; exact ⟨rfl, rfl⟩
    · exact ⟨rfl, rfl⟩
  endSession m reason hs := hs.endSession m reason
  edit r mode written hs := hs.setLease ((hs.rule r).congr rfl rfl rfl rfl) rfl rfl
  acquire {s} m r mode hs _ _ hg := by
    refine hs.setLease (.settled (by simp [Lease.grantedNow]) ((hs.rule r).still ?_)) rfl rfl
    unfold State.grantableNow at hg
    simp only [Bool.and_eq_true, Bool.or_eq_true, beq_iff_eq] at hg
    rcases hg with ⟨-, e | ⟨⟨e, -⟩, -⟩⟩ <;> simp [e]
  wait _ hs _ _ := hs.of_eq rfl rfl
  queue _ hs _ := hs.of_eq rfl rfl
  pass r hs := hs.grantPass r
  leave m r hs := (hs.leave r m).settle r
  abandon r reason hs _ := hs.abandonMove r reason
  retire r cause hs _ := hs.retire r cause
  unbind _ hs _ := hs.of_eq rfl rfl
  bind _ _ _ hs _ := hs.of_eq rfl rfl
  create m r run hs _ hr := hs.createLease m hr run
  shrink r dir run len hs hm hr hlt := hs.shrinkLease dir hm hr hlt
  grow r dir run added grown len hs hm hr hlt hg := hs.growLease hm hr hlt hg
  startMove r dir run target len hs _ hr hlt hf := hs.startMove hr hlt hf
  completeMove r hs := hs.completeMove r
  resetAll {s} _ := State.OwnerLaw.resetAll s
  reset s := s.systemReset_atReset.ownerLaw

/-- Settles O54. -/
theorem stepKeepsOwnedCounts : Obligations.StepKeepsOwnedCounts := fun _ _ ht hs => bookOps_ownerLaw.step ht hs

end Sys2Proof.Machine
end

section
/-! ### Sessions that are closed (R53, R129) -/

namespace Sys2Proof.Machine

/-! #### What the stages of an ending leave of the sessions -/

/-- Between two cards no session has been opened, renewed or closed, and nobody has been told of an ending: the sessions
are as they were but for their owned counts, and so are the supervisor's flags and every SESSION_END. -/
structure State.InSession (t s : State) : Prop where
  session : ∀ m, t.session m =
    { s.session m with ownedLeases := (t.session m).ownedLeases, ownedBlocks := (t.session m).ownedBlocks }
  supervisor : t.supervisor = s.supervisor
  sessionEnd : ∀ m, (t.mailbox m).events.getLsbD 4 = (s.mailbox m).events.getLsbD 4

namespace State.InSession

variable {s t u : State}

theorem refl (s : State) : s.InSession s := ⟨fun _ => rfl, rfl, fun _ => rfl⟩

theorem trans (h : u.InSession t) (h' : t.InSession s) : u.InSession s := by
  refine ⟨fun m => ?_, h.supervisor.trans h'.supervisor, fun m => (h.sessionEnd m).trans (h'.sessionEnd m)⟩
  refine (h.session m).trans ?_
  rw [h'.session m]

theorem of_eq (sessions : t.sessions = s.sessions) (supervisor : t.supervisor = s.supervisor)
    (mailboxes : t.mailboxes = s.mailboxes) : t.InSession s := by
  refine ⟨fun m => ?_, supervisor, fun m => ?_⟩
  · unfold State.session
    rw [sessions]
  · unfold State.mailbox
    rw [mailboxes]

/-- A flag other than SESSION_END is raised. -/
theorem raise (s : State) {m : Master} {b : Mailbox} {f : EventFlag} (hf : f ≠ .sessionEnd)
    (events : b.events = (s.mailbox m).events) : (s.setMailbox m (b.raise f)).InSession s := by
  refine ⟨fun _ => rfl, rfl, fun m' => ?_⟩
  rw [State.mailbox_setMailbox]
  split
  · next e =>
    subst e
    have hpos : f.position ≠ 4 := by revert hf; cases f <;> decide
    rw [Mailbox.raise_flag, events, decide_eq_false hpos, Bool.or_false]
  · rfl

theorem endWait (s : State) (m : Master) (record : WaitRecord) : (s.endWait m record).InSession s :=
  raise s (fun e => nomatch e) rfl

theorem endMove (s : State) (m : Master) (record : MoveRecord) : (s.endMove m record).InSession s :=
  raise s (fun e => nomatch e) rfl

theorem lostNotice (s : State) (m : Master) (h : Handle) : (s.lostNotice m h).InSession s :=
  raise s (fun e => nomatch e) rfl

theorem foldl {β : Type} {f : State → β → State} (h : ∀ s b, (f s b).InSession s) (l : List β) (s : State) :
    (l.foldl f s).InSession s :=
  List.foldlRecOn (motive := fun u : State => u.InSession s) _ _ (refl s) fun u hu b _ => (h u b).trans hu

/-- The owned counts of a master change. -/
theorem setOwned (s : State) (m : Master) (leases blocks : Nat) :
    (s.setSession m { s.session m with ownedLeases := leases, ownedBlocks := blocks }).InSession s := by
  refine ⟨fun m' => ?_, rfl, fun _ => rfl⟩
  rw [State.session_setSession]
  split
  · next e => subst e; rfl
  · rfl

theorem dropOwnedBy (s : State) (owner : Option Master) (a b : Nat) : (s.dropOwnedBy owner a b).InSession s := by
  cases owner with
  | none => exact refl s
  | some m => exact setOwned s m _ _

theorem addOwnedBy (s : State) (owner : Option Master) (a b : Nat) : (s.addOwnedBy owner a b).InSession s := by
  cases owner with
  | none => exact refl s
  | some m => exact setOwned s m _ _

theorem grantPass (s : State) (r : RecordNo) : (s.grantPass r).InSession s := by
  refine foldl (f := State.grantEntry r) (fun u e => ?_) (s.grantable r) s
  exact (endWait _ e.master _).trans (of_eq rfl rfl rfl)

theorem removeEntry (s : State) (e : WaitEntry) : (s.removeEntry e).InSession s := by
  have hq : (s.setQueue (dropFromQueue s.queue e.master e.handle)).InSession s := of_eq rfl rfl rfl
  unfold State.removeEntry
  dsimp only
  split
  · split
    · exact (grantPass _ _).trans hq
    · exact hq
  · exact hq

theorem abandonMove (s : State) (r : RecordNo) (reason : MoveReason) : (s.abandonMove r reason).InSession s := by
  refine (foldl (fun s m => endMove s m _) _ _).trans ?_
  obtain ⟨p, e⟩ := s.scrubRun_frame (s.lease r).target
  rw [e]
  exact of_eq rfl rfl rfl

theorem retire (s : State) (r : RecordNo) (cause : RetireCause) : (s.retire r cause).InSession s := by
  have hmove : (s.retireMove r).InSession s := by
    unfold State.retireMove
    split
    · exact abandonMove s r .revoked
    · exact refl s
  have hwaits : ∀ (u : State) h, (u.withdrawWaiters h).InSession u := by
    intro u h
    refine trans (t := (u.entriesFor h).foldl _ u) (of_eq rfl rfl rfl) (foldl (fun v (e : WaitEntry) => ?_) _ u)
    exact endWait v e.master _
  have hapertures : ∀ u : State, (u.retireApertures r cause).InSession u := by
    intro u
    unfold State.retireApertures
    split
    · exact of_eq rfl rfl rfl
    · split <;> exact of_eq rfl rfl rfl
    · exact (foldl (fun v m => lostNotice v m _) _ _).trans (of_eq rfl rfl rfl)
  have hfree : ∀ u : State, (u.freeRecord r).InSession u := by
    intro u
    obtain ⟨p, e⟩ := u.scrubRun_frame (u.lease r).run
    have hscrub : (u.scrubRun (u.lease r).run).InSession u := by rw [e]; exact of_eq rfl rfl rfl
    exact trans (t := (u.scrubRun (u.lease r).run).dropOwnedBy (u.lease r).owner 1 (u.lease r).length)
      (of_eq rfl rfl rfl) ((dropOwnedBy _ _ _ _).trans hscrub)
  exact (hfree _).trans ((hapertures _).trans ((hwaits _ _).trans hmove))

theorem settle (s : State) (r : RecordNo) : (s.settle r).InSession s := by
  rcases s.settle_cases r with ⟨e, -⟩ | ⟨-, -, e | e⟩
  · rw [e]; exact refl s
  · rw [e]; exact of_eq rfl rfl rfl
  · rw [e]; exact retire s r .emptied

theorem leave (s : State) (r : RecordNo) (m : Master) : (s.leave r m).InSession s :=
  (grantPass _ r).trans (of_eq rfl rfl rfl)

/-- The first three stages of an ending (R54 to R56). -/
theorem endStages (s : State) (m : Master) : (((s.endStage1 m).endStage2 m).endStage3 m).InSession s := by
  have h1 : (s.endStage1 m).InSession s := by
    unfold State.endStage1
    split
    · exact removeEntry s _
    · exact refl s
  have h2 : ((s.endStage1 m).endStage2 m).InSession (s.endStage1 m) := by
    unfold State.endStage2
    split
    · split
      · exact abandonMove _ _ _
      · exact refl _
    · exact refl _
  refine (foldl (fun u r => ?_) allRecords _).trans (h2.trans h1)
  unfold State.endHold
  split
  · exact (settle _ r).trans (leave u r m)
  · exact refl u

theorem isOpen_iff (h : t.InSession s) (m : Master) : t.Open m ↔ s.Open m := by
  unfold State.Open
  rw [h.session m]

end State.InSession

/-- The session of the master is closed with its reason and keeps its term (R57). -/
theorem State.endSession_session_self (s : State) (m : Master) (reason : EndReason) :
    (s.endSession m reason).session m = { s.session m with
      state := .closed, remaining := 0, endReason := reason
      ownedLeases := ((s.endSession m reason).session m).ownedLeases
      ownedBlocks := ((s.endSession m reason).session m).ownedBlocks } := by
  have hsession := (State.InSession.endStages s m).session m
  have hclose : ∀ u : State, (u.closeSession m reason).session m =
      { u.session m with state := .closed, remaining := 0, endReason := reason } := fun u => Table.get_set_self _ _ _
  have hnotices : (s.endSession m reason).session m =
      (((((s.endStage1 m).endStage2 m).endStage3 m).unbindMaster m).closeSession m reason).session m := by
    unfold State.endSession State.endNotices
    split <;> rfl
  rw [hnotices, hclose, show ((((s.endStage1 m).endStage2 m).endStage3 m).unbindMaster m).session m =
    (((s.endStage1 m).endStage2 m).endStage3 m).session m from rfl, hsession]

/-- The other sessions go on (R53). -/
theorem State.endSession_session_other (s : State) {m m' : Master} (hm : m ≠ m') (reason : EndReason) :
    (s.endSession m reason).session m' = { s.session m' with
      ownedLeases := ((s.endSession m reason).session m').ownedLeases
      ownedBlocks := ((s.endSession m reason).session m').ownedBlocks } := by
  have hclose : ∀ u : State, (u.closeSession m reason).session m' = u.session m' := fun u => Table.get_set_ne _ _ hm
  have hnotices : (s.endSession m reason).session m' = (((s.endStage1 m).endStage2 m).endStage3 m).session m' := by
    unfold State.endSession State.endNotices
    split <;> exact hclose _
  rw [hnotices]
  exact (State.InSession.endStages s m).session m'

theorem State.endSession_open {s : State} {m m' : Master} {reason : EndReason} (h : s.Open m') (hm : m ≠ m') :
    (s.endSession m reason).Open m' := by
  unfold State.Open
  rw [s.endSession_session_other hm]
  exact h

/-! #### The law of sessions -/

namespace State.SessionLaw

variable {s t : State}

theorem without (h : s.SessionLaw) {m : Master} (hm : ¬ s.Open m) : s.Without m :=
  ⟨h.waits m hm, h.holds m hm, h.apertures m hm⟩

theorem of_without (queue : s.QueueLaw) (closed : ∀ m, ¬ s.Open m → s.Without m) : s.SessionLaw :=
  ⟨queue, fun m hm => (closed m hm).waits, fun m hm => (closed m hm).holds, fun m hm => (closed m hm).apertures⟩

/-- No session closes, and new waits, holds and apertures are those of masters whose session is open. -/
theorem of_parts (h : s.SessionLaw)
    (queue : (t.queue.map fun e => e.master).Sublist (s.queue.map fun e => e.master))
    (holders : ∀ r m, (t.lease r).holders.mem m = true → (s.lease r).holders.mem m = true ∨ s.Open m)
    (apertures : ∀ m, ¬ s.Open m → ∀ a, s.aperture m a = .unbound → t.aperture m a = .unbound)
    (opened : ∀ m, s.Open m → t.Open m) : t.SessionLaw := by
  refine of_without (queue.nodup h.queue) fun m hm => ?_
  have hclosed : ¬ s.Open m := fun c => hm (opened m c)
  have hs := h.without hclosed
  refine ⟨fun e he hem => ?_, fun r => Bool.eq_false_iff.2 fun hr => ?_, fun a => apertures m hclosed a (hs.apertures a)⟩
  · obtain ⟨e', he', hem'⟩ := List.mem_map.1 (queue.subset (List.mem_map_of_mem he))
    exact hs.waits e' he' (hem'.trans hem)
  · rcases holders r m hr with hold | ho
    · exact Bool.false_ne_true ((hs.holds r).symm.trans hold)
    · exact hclosed ho

/-- One record changes, with no new holder but those whose session is open. -/
theorem of_lease {r : RecordNo} {l : Lease} (h : s.SessionLaw)
    (ht : ∀ r', t.lease r' = if r = r' then l else s.lease r')
    (holders : ∀ m, l.holders.mem m = true → (s.lease r).holders.mem m = true ∨ s.Open m)
    (queue : t.queue = s.queue) (apertures : t.apertures = s.apertures) (opened : ∀ m, s.Open m → t.Open m) :
    t.SessionLaw := by
  refine h.of_parts (by rw [queue]) (fun r' m => ?_) (fun m _ a ha => ?_) opened
  · rw [ht]
    split
    · next e => subst e; exact holders m
    · exact .inl
  · unfold State.aperture
    rw [apertures]
    exact ha

/-- The ending of a session and its parts: what they give, they give to masters that wait, whose session is open. -/
theorem of_winds {R : RecordNo → Prop} (h : s.SessionLaw) (ht : t.Winds s R) (opened : ∀ m, s.Open m → t.Open m) :
    t.SessionLaw :=
  of_without (ht.queueLaw h.queue) fun m hm => ht.without (h.without fun c => hm (opened m c))

theorem of_stages {R : RecordNo → Prop} (h : s.SessionLaw) (ht : t.Winds s R) (hi : t.InSession s) : t.SessionLaw :=
  h.of_winds ht fun m => (hi.isOpen_iff m).2

theorem endSession (h : s.SessionLaw) (m : Master) (reason : EndReason) : (s.endSession m reason).SessionLaw := by
  have hw := State.Winds.endSession s m reason
  refine of_without (hw.queueLaw h.queue) fun m' hm' => ?_
  by_cases hmm : m = m'
  · exact hmm ▸ State.endSession_without h.queue m reason
  · exact hw.without (h.without fun c => hm' (State.endSession_open c hmm))

/-- A master that has no entry and whose session is open comes to wait. -/
theorem wait (h : s.SessionLaw) {e : WaitEntry} {q : List WaitEntry} (hq : q.Perm (e :: s.queue)) (ho : s.Open e.master)
    (hn : s.entryOf e.master = none) : (s.setQueue q).SessionLaw := by
  have hother : ∀ x ∈ s.queue, x.master ≠ e.master := fun x hx => by simpa using List.find?_eq_none.1 hn x hx
  refine of_without ?_ fun m hm => ?_
  · have hqueue : (s.queue.map fun x => x.master).Nodup := h.queue
    refine ((hq.map fun x => x.master).nodup_iff).2 (List.nodup_cons.2 ⟨fun hmem => ?_, hqueue⟩)
    obtain ⟨x, hx, hxm⟩ := List.mem_map.1 hmem
    exact hother x hx hxm
  · have hs := h.without hm
    refine ⟨fun x hx hxm => ?_, hs.holds, hs.apertures⟩
    rcases List.mem_cons.1 (hq.subset hx) with rfl | hold
    · exact hm (hxm ▸ ho)
    · exact hs.waits x hold hxm

/-- No session closes and nobody comes to wait, to hold or to bind. -/
theorem of_same (h : s.SessionLaw) (holders : ∀ r, (t.lease r).holders = (s.lease r).holders) (queue : t.queue = s.queue)
    (apertures : t.apertures = s.apertures) (opened : ∀ m, s.Open m → t.Open m) : t.SessionLaw := by
  refine h.of_parts (by rw [queue]) (fun r m hm => .inl (holders r ▸ hm)) (fun m _ a ha => ?_) opened
  unfold State.aperture
  rw [apertures]
  exact ha

theorem setLease (h : s.SessionLaw) {r : RecordNo} {l : Lease} (holders : l.holders = (s.lease r).holders) :
    (s.setLease r l).SessionLaw :=
  h.of_lease (s.lease_setLease r · l) (fun _ hm => .inl (holders ▸ hm)) rfl rfl fun _ => id

theorem allocate (h : s.SessionLaw) (run : Run) (x : BlockState) : (s.allocate run x).SessionLaw := by
  obtain ⟨p, v, e⟩ := s.allocate_frame run x
  rw [e]
  exact h.of_same (fun _ => rfl) rfl rfl fun _ => id

theorem scrubRun (h : s.SessionLaw) (run : Option Run) : (s.scrubRun run).SessionLaw := by
  obtain ⟨p, e⟩ := s.scrubRun_frame run
  rw [e]
  exact h.of_same (fun _ => rfl) rfl rfl fun _ => id

theorem addOwnedBy (h : s.SessionLaw) (owner : Option Master) (a b : Nat) : (s.addOwnedBy owner a b).SessionLaw := by
  have hopen := (State.InSession.addOwnedBy s owner a b).isOpen_iff
  obtain ⟨x, e⟩ := s.addOwnedBy_frame owner a b
  rw [e] at hopen ⊢
  exact h.of_same (fun _ => rfl) rfl rfl fun m => (hopen m).2

theorem dropOwnedBy (h : s.SessionLaw) (owner : Option Master) (a b : Nat) : (s.dropOwnedBy owner a b).SessionLaw := by
  have hopen := (State.InSession.dropOwnedBy s owner a b).isOpen_iff
  obtain ⟨x, e⟩ := s.dropOwnedBy_frame owner a b
  rw [e] at hopen ⊢
  exact h.of_same (fun _ => rfl) rfl rfl fun m => (hopen m).2

theorem setEngine (h : s.SessionLaw) (e : Engine) : (s.setEngine e).SessionLaw :=
  h.of_same (fun _ => rfl) rfl rfl fun _ => id

theorem shrinkLease (h : s.SessionLaw) (r : RecordNo) (dir : Direction) (run : Run) (len : Nat) :
    (s.shrinkLease r dir run len).SessionLaw :=
  ((h.scrubRun _).setLease (by rw [State.lease_scrubRun])).dropOwnedBy _ _ _

theorem growLease (h : s.SessionLaw) (r : RecordNo) (added grown : Run) : (s.growLease r added grown).SessionLaw :=
  ((h.allocate _ _).setLease (by rw [(s.allocate_quiet _ _).lease]; rfl)).addOwnedBy _ _ _

theorem startMove (h : s.SessionLaw) (r : RecordNo) (target : Run) : (s.startMove r target).SessionLaw :=
  ((h.allocate _ _).setLease (by rw [(s.allocate_quiet _ _).lease]; rfl)).setEngine _

theorem completeMove (h : s.SessionLaw) (r : RecordNo) : (s.completeMove r).SessionLaw := by
  have hswap : (s.swapRuns r).SessionLaw := by
    rcases s.swapRuns_cases r with ⟨-, e⟩ | ⟨target, -, e⟩
    · rw [e]; exact h
    · rw [e]
      have hmark : (s.setPool (s.pool.remark target (.run r))).SessionLaw := h.of_same (fun _ => rfl) rfl rfl fun _ => id
      exact (hmark.scrubRun _).setLease (by rw [State.lease_scrubRun]; rfl)
  unfold State.completeMove
  obtain ⟨b, hb⟩ := State.forMasters_frame
    (((s.swapRuns r).addOwnedBy (s.lease r).owner 0 ((s.lease r).targetLength - (s.lease r).length)).setEngine
      s.engine.endMove) (s.lease r).holders
    (fun s' m => s'.endMove m
      { handle := s.handle r, result := some .done, reason := .none, length := (s.lease r).targetLength })
    fun _ _ => ⟨_, rfl⟩
  rw [hb]
  exact ((hswap.addOwnedBy _ _ _).setEngine s.engine.endMove).of_same (fun _ => rfl) rfl rfl fun _ => id

/-- RESET-ALL closes every session and leaves nothing (R62, R184). -/
theorem resetAll (s : State) : (resetAllBody s).1.SessionLaw := by
  have hqueue : (resetAllBody s).1.queue = [] := by rw [resetAllBody_eq, State.wakeEngine_queue]; rfl
  have hapertures : (resetAllBody s).1.apertures = Table.replicate 12 (Table.replicate 4 .unbound) := by
    rw [resetAllBody_eq, State.wakeEngine_apertures]; rfl
  refine of_without ?_ fun m _ => ⟨fun e he => ?_, fun r => ?_, fun a => ?_⟩
  · unfold State.QueueLaw
    rw [hqueue]
    exact List.nodup_nil
  · rw [hqueue] at he
    cases he
  · rw [State.resetAllBody_lease]
    exact MasterSet.mem_empty m
  · unfold State.aperture
    rw [hapertures, Table.get_replicate, Table.get_replicate]

end State.SessionLaw

/-- Every operation keeps the law of sessions. -/
theorem bookOps_sessionLaw : BookOps State.SessionLaw where
  unseen {s t} hs h := by
    refine hs.of_parts (by rw [h.queue]) (fun r m => ?_) (fun m _ a ha => (h.aperture m a).trans ha) fun m hm =>
      (h.state m).trans hm
    rw [h.lease]
    exact .inl
  openSession {s} m term hs := by
    refine hs.of_parts (.refl _) (fun _ _ => .inl) (fun _ _ _ => id) fun m' hm' => ?_
    unfold State.Open State.openSession
    rw [State.session_setSession]
    split
    · rfl
    · exact hm'
  endSession m reason hs := hs.endSession m reason
  edit {s} r mode written hs := hs.of_lease (s.lease_setLease r · _) (fun _ => .inl) rfl rfl fun _ => id
  acquire {s} m r mode hs ho _ _ := by
    refine hs.of_lease (s.lease_setLease r · _) (fun m' hm' => ?_) rfl rfl fun _ => id
    rw [show ((s.lease r).grantedNow m mode).holders = (s.lease r).holders.insert m from rfl, MasterSet.mem_insert,
      Bool.or_eq_true, decide_eq_true_eq] at hm'
    rcases hm' with hold | e
    · exact .inl hold
    · subst e
      exact .inr ho
  wait hq hs ho hn := hs.wait hq ho hn
  queue q hs hq := hs.of_parts hq (fun _ _ => .inl) (fun _ _ _ => id) fun _ => id
  pass {s} r hs := hs.of_stages (.grantPass (R := fun _ => True) s trivial) (.grantPass s r)
  leave {s} m r hs := hs.of_stages
    ((State.Winds.settle (R := fun _ => True) _ trivial).trans (.leave s trivial m))
    ((State.InSession.settle _ r).trans (.leave s r m))
  abandon {s} r reason hs _ :=
    hs.of_stages (.abandonMove (R := fun _ => True) s trivial reason) (.abandonMove s r reason)
  retire {s} r cause hs _ := hs.of_stages (.retire (R := fun _ => True) s trivial cause) (.retire s r cause)
  unbind x hs hx := hs.of_parts (.refl _) (fun _ _ => .inl) (fun m _ a => hx m a) fun _ => id
  bind {s} m a h hs ho := by
    refine hs.of_parts (.refl _) (fun _ _ => .inl) (fun m' hm' a' ha' => ?_) fun _ => id
    have hne : m ≠ m' := fun e => hm' (e ▸ ho)
    unfold State.aperture
    rw [State.setAperture_apertures, Table.get_set_ne _ _ hne]
    exact ha'
  create {s} m r run hs ho _ := by
    obtain ⟨p, x, e⟩ := s.allocate_frame run (.run r)
    have hopen : ∀ m', s.Open m' → (s.createLease m r run).Open m' := by
      intro m' hm'
      unfold State.Open State.createLease State.addOwned
      rw [State.session_setSession, e]
      split
      · next c => subst c; exact hm'
      · exact hm'
    refine hs.of_lease (s.createLease_lease m r · run) (fun m' hm' => ?_) ?_ ?_ hopen
    · exact .inr (MasterSet.eq_of_mem_single hm' ▸ ho)
    all_goals
      unfold State.createLease
      rw [e]
      rfl
  shrink r dir run len hs _ _ _ := hs.shrinkLease r dir run len
  grow r _ _ added grown _ hs _ _ _ _ := hs.growLease r added grown
  startMove r _ _ target _ hs _ _ _ _ := hs.startMove r target
  completeMove r hs := hs.completeMove r
  resetAll {s} _ := State.SessionLaw.resetAll s
  reset s := s.systemReset_atReset.sessionLaw

/-- Settles O55. -/
theorem stepKeepsClosedSessionsBare : Obligations.StepKeepsClosedSessionsBare := fun _ _ ht hs =>
  bookOps_sessionLaw.step ht hs

end Sys2Proof.Machine
end

section
/-! ### Ticks and countdowns (R46, R47, R100) -/

namespace Sys2Proof.Machine

/-- An open session is counted down by one, a closed one is not (R47). -/
theorem State.countSessions_session (s : State) (m : Master) :
    s.countSessions.session m = (s.session m).countdown := Table.get_map _ _ _

theorem Session.countdown_opened {x : Session} (h : x.state = .opened) :
    x.countdown = { x with remaining := x.remaining - 1 } := if_pos h

theorem Session.countdown_closed {x : Session} (h : x.state ≠ .opened) : x.countdown = x := if_neg h

theorem State.mem_lapsing {s : State} {m : Master} : m ∈ s.lapsing ↔ s.Open m ∧ (s.session m).remaining = 0 := by
  have hm : m ∈ allMasters := mem_allMasters m
  unfold State.lapsing State.isOpen State.Open
  simp only [List.mem_filter, hm, true_and, Bool.and_eq_true, beq_iff_eq]

theorem State.open_countSessions {s : State} {m : Master} : s.countSessions.Open m ↔ s.Open m := by
  unfold State.Open
  rw [s.countSessions_session]
  unfold Session.countdown
  split <;> rfl

/-- The sessions that lapse at a countdown are the open ones with at most one tick left (R47). -/
theorem State.mem_lapsing_countSessions {s : State} {m : Master} :
    m ∈ s.countSessions.lapsing ↔ s.Open m ∧ (s.session m).remaining ≤ 1 := by
  rw [State.mem_lapsing, State.open_countSessions, s.countSessions_session]
  refine and_congr_right fun ho => ?_
  rw [Session.countdown_opened ho, Nat.sub_eq_zero_iff_le]

theorem State.timeOutAll_of_none {s : State} (h : ∀ e ∈ s.queue, e.remaining ≠ 0) : s.timeOutAll = s := by
  have hexpired : s.expired = [] := List.filter_eq_nil_iff.2 fun e he => by simpa using h e he
  have hkept : (s.queue.filter fun e => !(e.remaining == 0)) = s.queue :=
    List.filter_eq_self.2 fun e he => by simpa using h e he
  have hheads : s.expiredHeads = [] := by
    refine List.filter_eq_nil_iff.2 fun r _ => ?_
    cases hh : (s.entriesFor (s.handle r)).head? with
    | none => simp
    | some e =>
      have he := h e (List.mem_of_mem_filter (List.mem_of_mem_head? (Option.mem_def.2 hh)))
      simpa [hh] using fun _ => he
  unfold State.timeOutAll State.timeOut
  rw [hheads, hexpired, hkept]
  rfl

/-- Settles O31: nothing lapses and nothing times out, so that the counts alone change. -/
theorem tickCountsDown : Obligations.TickCountsDown := by
  refine ⟨fun _ => rfl, fun s hdue hlong => ?_, fun s hdue hlong => ?_⟩
  · have hnone : s.countSessions.lapsing = [] := List.eq_nil_iff_forall_not_mem.2 fun m hm => by
      obtain ⟨ho, hle⟩ := State.mem_lapsing_countSessions.1 hm
      have := hlong m ho
      omega
    refine ⟨s.countSessions, ?_, fun m ho => ?_, fun m ho => ?_, rfl⟩
    · rw [show exec .sessionCountdown s = execSessionCountdown s from rfl]
      unfold execSessionCountdown State.sessionTick State.lapseAll
      rw [if_pos hdue, if_pos hnone]
    · exact (s.countSessions_session m).trans (Session.countdown_opened ho)
    · exact (s.countSessions_session m).trans (Session.countdown_closed ho)
  · have hnone : ∀ e ∈ s.countQueue.queue, e.remaining ≠ 0 := by
      intro e he
      obtain ⟨x, hx, rfl⟩ := List.mem_map.1 he
      have := hlong x hx
      show x.remaining - 1 ≠ 0
      omega
    rw [show exec .waitQueueCountdown s = execWaitQueueCountdown s from rfl]
    unfold execWaitQueueCountdown State.queueTick
    rw [if_pos hdue, State.timeOutAll_of_none hnone]
    rfl

end Sys2Proof.Machine
end

section
/-! ### What a grant pass leaves (R97 to R99) -/

namespace Sys2Proof.MasterSet

/-- Where a master is not the only holder, others are left when it goes. -/
theorem erase_ne_zero_of_others {set : MasterSet} {m : Master} (hm : mem set m = true) (h : set ≠ single m) :
    erase set m ≠ 0 := by
  intro e
  refine h (ext fun m' => ?_)
  have hm' := mem_erase set m m'
  rw [e, show mem 0 m' = false from mem_empty m'] at hm'
  rw [mem_single]
  by_cases hmm : m = m'
  · simpa [hmm] using hmm ▸ hm
  · simpa [hmm] using hm'

end Sys2Proof.MasterSet

namespace Sys2Proof.Machine

/-! #### The grants on a lease -/

/-- A pass grants nothing; or the head alone, an UPGRADE of the only holder or an ACQ_EXCL of an empty lease; or a row of
ACQ_SHARED entries from the head on (R98). -/
theorem Lease.grants_cases (l : Lease) (entries : List WaitEntry) :
    l.grants entries = [] ∨
      (∃ e rest, entries = e :: rest ∧ l.grants entries = [e] ∧
        (e.kind = .upgrade ∧ l.holders = MasterSet.single e.master ∨ e.kind = .acqExcl ∧ l.holders = 0)) ∨
      ∃ e rest, entries = e :: rest ∧ e.kind = .acqShared ∧ (l.holders = 0 ∨ l.mode = some .shared) ∧
        l.grants entries = e :: rest.takeWhile fun x => x.kind == .acqShared := by
  cases entries with
  | nil => exact .inl rfl
  | cons e rest =>
    unfold Lease.grants
    dsimp only
    split
    · next h => exact .inr (.inl ⟨e, rest, rfl, rfl, h⟩)
    · split
      · next h => exact .inr (.inr ⟨e, rest, rfl, h.1, h.2, rfl⟩)
      · exact .inl rfl

theorem Lease.grants_shared {l : Lease} {e : WaitEntry} {rest : List WaitEntry} (hk : e.kind = .acqShared)
    (h : l.holders = 0 ∨ l.mode = some .shared) :
    l.grants (e :: rest) = e :: rest.takeWhile fun x => x.kind == .acqShared := by
  unfold Lease.grants
  dsimp only
  rw [if_neg (by simp [hk]), if_pos ⟨hk, h⟩]

/-- An empty lease goes to its head entry, unless that is an UPGRADE (R98). -/
theorem Lease.mem_grants_of_empty {l : Lease} {e : WaitEntry} (rest : List WaitEntry) (hl : l.holders = 0)
    (hk : e.kind ≠ .upgrade) : e ∈ l.grants (e :: rest) := by
  cases h : e.kind with
  | upgrade => exact absurd h hk
  | acqExcl => simp [Lease.grants, h, hl]
  | acqShared => rw [Lease.grants_shared h (.inl hl)]; exact List.mem_cons_self

/-- ACQ_SHARED entries granted one after another add their masters and change nothing else (R98). -/
theorem Lease.foldl_granted_row {entries : List WaitEntry} (hk : ∀ e ∈ entries, e.kind = .acqShared) (l : Lease)
    (state : l.state = .held) (mode : l.mode = some .shared) :
    (entries.foldl Lease.granted l = { l with holders := (entries.foldl Lease.granted l).holders }) ∧
      ∀ m, (entries.foldl Lease.granted l).holders.mem m = true ↔ l.holders.mem m = true ∨ ∃ x ∈ entries, x.master = m := by
  induction entries generalizing l with
  | nil => exact ⟨rfl, fun m => by simp⟩
  | cons e rest ih =>
    rw [List.foldl_cons, Lease.granted_acqShared l (hk e List.mem_cons_self)]
    obtain ⟨heq, hmem⟩ := ih (fun x hx => hk x (List.mem_cons_of_mem e hx))
      { l with holders := l.holders.insert e.master, mode := some .shared, state := .held } rfl rfl
    refine ⟨heq.trans (by rw [state, mode]), fun m => ?_⟩
    rw [hmem, MasterSet.mem_insert, Bool.or_eq_true, decide_eq_true_eq, List.exists_mem_cons_iff, or_assoc]

/-- The grants of a pass on a HELD lease add the masters of their entries, and set the mode (R98). -/
theorem Lease.foldl_grants_held {l : Lease} (held : l.state = .held) (entries : List WaitEntry) :
    ((l.grants entries).foldl Lease.granted l = { l with
      holders := ((l.grants entries).foldl Lease.granted l).holders
      mode := match l.grants entries with
        | [] => l.mode
        | e :: _ => some e.kind.mode }) ∧
      ∀ m, ((l.grants entries).foldl Lease.granted l).holders.mem m = true ↔
        l.holders.mem m = true ∨ ∃ x ∈ l.grants entries, x.master = m := by
  rcases l.grants_cases entries with hg | ⟨e, -, -, hg, ⟨hk, hh⟩ | ⟨hk, hh⟩⟩ | ⟨e, rest, -, hk, -, hg⟩
  · rw [hg]
    exact ⟨rfl, fun m => by simp⟩
  · rw [hg, List.foldl_cons, List.foldl_nil, Lease.granted_upgrade l hk]
    refine ⟨by dsimp only; rw [hk]; rfl, fun m => ?_⟩
    rw [hh]
    simp
  · rw [hg, List.foldl_cons, List.foldl_nil, Lease.granted_acqExcl l hk]
    refine ⟨by dsimp only; rw [hk, held]; rfl, fun m => ?_⟩
    rw [hh, show MasterSet.mem 0 m = false from MasterSet.mem_empty m]
    simp
  · have hrow : ∀ x ∈ rest.takeWhile (fun x => x.kind == .acqShared), x.kind = .acqShared :=
      fun x hx => by simpa using List.mem_takeWhile_imp hx
    rw [hg, List.foldl_cons, Lease.granted_acqShared l hk]
    obtain ⟨heq, hmem⟩ := Lease.foldl_granted_row hrow
      { l with holders := l.holders.insert e.master, mode := some .shared, state := .held } rfl rfl
    refine ⟨heq.trans (by dsimp only; rw [hk, held]; rfl), fun m => ?_⟩
    rw [hmem, MasterSet.mem_insert, Bool.or_eq_true, decide_eq_true_eq, List.exists_mem_cons_iff, or_assoc]

/-! #### The queue and the notices of a pass -/

theorem State.foldl_grantEntry_queue (r : RecordNo) (entries : List WaitEntry) (s : State) :
    (entries.foldl (State.grantEntry r) s).queue =
      s.queue.filter fun y => entries.all fun x => !(y.master == x.master && y.handle == x.handle) := by
  induction entries generalizing s with
  | nil => exact (List.filter_eq_self.2 fun _ _ => rfl).symm
  | cons e rest ih =>
    have hq : (State.grantEntry r s e).queue = dropFromQueue s.queue e.master e.handle := rfl
    rw [List.foldl_cons, ih, hq]
    unfold dropFromQueue
    rw [List.filter_filter]
    exact List.filter_congr fun y _ => by rw [List.all_cons, Bool.and_comm]

/-- Every entry granted leaves the queue, and no other (R98). -/
theorem State.QueueLaw.grantPass_queue {s : State} (h : s.QueueLaw) (r : RecordNo) :
    (s.grantPass r).queue = s.queue.filter fun y => decide (y ∉ s.grantable r) := by
  unfold State.grantPass
  rw [State.foldl_grantEntry_queue]
  refine List.filter_congr fun y hy => ?_
  rw [Bool.eq_iff_iff, List.all_eq_true, decide_eq_true_eq]
  refine ⟨fun hn c => by simpa using hn y c, fun hn x hx => ?_⟩
  have hxq := (State.mem_entriesFor.1 ((s.grantable_sublist r).subset hx)).1
  rw [Bool.not_eq_true', Bool.and_eq_false_iff, beq_eq_false_iff_ne]
  refine .inl fun hxy => ?_
  cases h.unique hy hxq hxy
  exact hn hx

theorem State.QueueLaw.mem_grantPass {s : State} (h : s.QueueLaw) (r : RecordNo) (y : WaitEntry) :
    y ∈ (s.grantPass r).queue ↔ y ∈ s.queue ∧ y ∉ s.grantable r := by
  rw [h.grantPass_queue, List.mem_filter, decide_eq_true_eq]

theorem State.endWait_mailbox (s : State) (m m' : Master) (record : WaitRecord) :
    (s.endWait m record).mailbox m' =
      if m = m' then ({ s.mailbox m with waitRecord := record } : Mailbox).raise .waitEnd else s.mailbox m' :=
  s.mailbox_setMailbox _ _ _

/-- Masters whose entries are not granted are told nothing. -/
theorem State.foldl_grantEntry_other (r : RecordNo) {entries : List WaitEntry} {m : Master} (s : State)
    (hm : ∀ e ∈ entries, e.master ≠ m) : (entries.foldl (State.grantEntry r) s).mailbox m = s.mailbox m := by
  induction entries generalizing s with
  | nil => rfl
  | cons e rest ih =>
    rw [List.foldl_cons, ih _ fun x hx => hm x (List.mem_cons_of_mem e hx)]
    exact (State.endWait_mailbox _ _ _ _).trans (if_neg (hm e List.mem_cons_self))

/-- The master of each entry granted has its GRANTED record and WAIT_END (R99). -/
theorem State.foldl_grantEntry_told (r : RecordNo) {entries : List WaitEntry} (s : State)
    (hn : (entries.map fun e => e.master).Nodup) {x : WaitEntry} (hx : x ∈ entries) :
    ((entries.foldl (State.grantEntry r) s).mailbox x.master).waitRecord =
        { handle := x.handle, mode := some x.kind.mode, result := some .granted } ∧
      ((entries.foldl (State.grantEntry r) s).mailbox x.master).events.getLsbD 1 = true := by
  induction entries generalizing s with
  | nil => cases hx
  | cons e rest ih =>
    obtain ⟨hnot, hrest⟩ := List.nodup_cons.1 hn
    rw [List.foldl_cons]
    rcases List.mem_cons.1 hx with rfl | hmem
    · have hbox : (State.grantEntry r s x).mailbox x.master = ({ s.mailbox x.master with
          waitRecord := { handle := x.handle, mode := some x.kind.mode, result := some .granted } } : Mailbox).raise
            .waitEnd := (State.endWait_mailbox _ _ _ _).trans (if_pos rfl)
      rw [State.foldl_grantEntry_other r _ fun y hy c => hnot (List.mem_map.2 ⟨y, hy, c⟩), hbox]
      refine ⟨rfl, ?_⟩
      rw [Mailbox.raise_flag]
      exact Bool.or_true _
    · exact ih _ hrest hmem

/-! #### The pass as a whole -/

theorem State.grantable_held {s : State} {r : RecordNo} (h : (s.lease r).state = .held) :
    s.grantable r = (s.lease r).grants (s.entriesFor (s.handle r)) := by
  rw [s.grantable_eq, if_neg (by rw [h]; decide)]

/-- A grant pass that grants nothing changes nothing. -/
theorem State.grantPass_of_none {s : State} {r : RecordNo} (h : s.grantable r = []) : s.grantPass r = s := by
  unfold State.grantPass
  rw [h]
  rfl

/-- The grant pass of a HELD lease leaves what R98 and R99 say. -/
theorem State.QueueLaw.grantPass_passed {s : State} (h : s.QueueLaw) {r : RecordNo} (held : (s.lease r).state = .held) :
    (s.grantPass r).Passed r (s.handle r) (s.lease r) (s.entriesFor (s.handle r)) := by
  have hg := State.grantable_held held
  obtain ⟨hlease, hholders⟩ := Lease.foldl_grants_held held (s.entriesFor (s.handle r))
  have hl : (s.grantPass r).lease r =
      ((s.lease r).grants (s.entriesFor (s.handle r))).foldl Lease.granted (s.lease r) := by
    rw [(s.grantPass_quiet r).lease, State.lease_setLease_self, hg]
  have hqueue : ∀ x ∈ (s.lease r).grants (s.entriesFor (s.handle r)), x ∈ s.queue ∧ x.handle = s.handle r :=
    fun x hx => State.mem_entriesFor.1 (((s.lease r).grants_sublist _).subset hx)
  have hmasters : ((s.grantable r).map fun e => e.master).Nodup :=
    (((s.grantable_sublist r).trans List.filter_sublist).map _).nodup h
  refine ⟨hl ▸ hlease, fun m => hl ▸ hholders m, fun x hx y hy c => ?_, fun x hx hn => ?_, fun x hx => ?_⟩
  · obtain ⟨hyq, hyn⟩ := (h.mem_grantPass r y).1 hy
    cases h.unique hyq (hqueue x hx).1 c
    exact hyn (hg ▸ hx)
  · exact (h.mem_grantPass r x).2 ⟨(State.mem_entriesFor.1 hx).1, hg ▸ hn⟩
  · rw [← (hqueue x hx).2]
    exact State.foldl_grantEntry_told r s hmasters (hg ▸ hx)

/-- What the pass has left of the record outlasts changes elsewhere. -/
theorem State.Passed.later {v t : State} {R : RecordNo → Prop} {r : RecordNo} {x : Handle} {l : Lease}
    {entries : List WaitEntry} (h : v.Passed r x l entries) (ht : t.Winds v R) (hr : ¬ R r)
    (hentries : ∀ e ∈ entries, e.handle = v.handle r) : t.Passed r x l entries := by
  have hlease := ht.lease r hr
  refine ⟨?_, ?_, fun y hy z hz => h.left y hy z (ht.queue.subset hz), fun y hy hn => ?_, fun y hy => ?_⟩
  · rw [hlease]; exact h.lease
  · rw [hlease]; exact h.holders
  · have hmem : y ∈ v.entriesFor (v.handle r) := State.mem_entriesFor.2 ⟨h.stay y hy hn, hentries y hy⟩
    rw [← ht.entries r hr] at hmem
    exact (State.mem_entriesFor.1 hmem).1
  · obtain ⟨hw, hf⟩ := ht.quiet y.master fun z hz c => absurd c (h.left y hy z hz)
    rw [hw, hf]
    exact h.told y hy

/-! #### A holder leaves, with the pass that follows (R56) -/

theorem Lease.without_of_others {l : Lease} {m : Master} (h : l.holders.erase m ≠ 0) :
    l.without m = { l with holders := l.holders.erase m } := by
  unfold Lease.without
  rw [if_neg (show ¬ l.holders.erase m = MasterSet.empty from h)]

theorem Lease.without_of_alone {l : Lease} {m : Master} (held : l.state = .held) (alone : l.holders = MasterSet.single m) :
    l.without m = l.emptied := by
  unfold Lease.without Lease.emptied Lease.unmoved
  rw [alone, MasterSet.erase_single, if_pos (show (0 : MasterSet) = MasterSet.empty from rfl),
    if_neg (by rw [held]; decide)]

theorem State.removeHolder_handle (s : State) (r : RecordNo) (m : Master) : (s.removeHolder r m).handle r = s.handle r := by
  unfold State.handle
  rw [State.removeHolder_eq, State.lease_setLease_self]
  rfl

/-- A HELD lease that a holder leaves has its pass without it (R56). -/
theorem State.QueueLaw.leave_passed {s : State} (h : s.QueueLaw) {r : RecordNo} (held : (s.lease r).state = .held)
    (m : Master) : (s.leave r m).Passed r (s.handle r) ((s.lease r).without m) (s.entriesFor (s.handle r)) := by
  have hlease : (s.removeHolder r m).lease r = (s.lease r).without m := State.lease_setLease_self _ _ _
  have hlaw : (s.removeHolder r m).QueueLaw := h
  have hp := hlaw.grantPass_passed (r := r) (by rw [hlease]; exact held)
  rw [hlease, s.removeHolder_handle r m] at hp
  exact hp

/-- After the pass somebody holds the lease, so that it stays as the pass has left it. -/
theorem State.settle_of_passed {u : State} {r : RecordNo} {x : Handle} {l : Lease} {entries : List WaitEntry}
    (h : u.Passed r x l entries) (hl : l.holders ≠ 0 ∨ l.grants entries ≠ []) : u.settle r = u := by
  rcases u.settle_cases r with ⟨e, -⟩ | ⟨-, hempty, -⟩
  · exact e
  · have hnone : ∀ m, l.holders.mem m ≠ true ∧ ¬ ∃ x ∈ l.grants entries, x.master = m := fun m => by
      rw [← not_or, ← h.holders m, hempty, show MasterSet.mem 0 m = false from MasterSet.mem_empty m]
      exact Bool.false_ne_true
    rcases hl with hl | hl
    · exact absurd (MasterSet.ext fun m => by
        rw [Bool.eq_false_iff.2 (hnone m).1, show MasterSet.mem 0 m = false from MasterSet.mem_empty m]) hl
    · obtain ⟨e, he⟩ := List.exists_mem_of_ne_nil _ hl
      exact absurd ⟨e, he, rfl⟩ (hnone e.master).2

/-- Stage 3 at a HELD record of the master that somebody holds afterwards (R56). -/
theorem State.QueueLaw.endHold_passed {s : State} (h : s.QueueLaw) {r : RecordNo} {m : Master}
    (held : (s.lease r).state = .held) (hm : (s.lease r).holders.mem m = true)
    (hl : ((s.lease r).without m).holders ≠ 0 ∨ ((s.lease r).without m).grants (s.entriesFor (s.handle r)) ≠ []) :
    (State.endHold m s r).Passed r (s.handle r) ((s.lease r).without m) (s.entriesFor (s.handle r)) := by
  have hp := h.leave_passed held m
  unfold State.endHold
  rw [if_pos hm, State.settle_of_passed hp hl]
  exact hp

theorem State.settle_kept {s : State} {r : RecordNo} (held : (s.lease r).state = .held) (empty : (s.lease r).holders = 0)
    (keep : (s.lease r).keep = true) : s.settle r = s.setLease r { s.lease r with state := .idle, mode := none } := by
  unfold State.settle State.fate
  rw [if_pos ⟨held, empty⟩, if_pos keep]

theorem State.settle_unkept {s : State} {r : RecordNo} (held : (s.lease r).state = .held)
    (empty : (s.lease r).holders = 0) (keep : (s.lease r).keep = false) : s.settle r = s.retire r .emptied := by
  unfold State.settle State.fate
  rw [if_pos ⟨held, empty⟩, if_neg (by rw [keep]; decide)]

/-- The blocks of a run that goes to SCRUB. -/
theorem State.block_scrubRun {s : State} {run : Run} {b : Nat} (h1 : run.base ≤ b) (h2 : b < run.base + run.len)
    (hb : b < 512) : (s.scrubRun (some run)).block b = some .scrub := by
  rw [State.block_of_setRun (s := s) (t := s.scrubRun (some run)) (run := run) (x := .scrub) rfl]
  exact if_pos ⟨h1, h2, hb⟩

/-- Retirement of a lease that is not MOVING frees the record and scrubs its run (R20, R22). -/
theorem State.retire_still (s : State) {r : RecordNo} (h : (s.lease r).state ≠ .moving) (cause : RetireCause) :
    (s.retire r cause).Quiet ((s.scrubRun (s.lease r).run).setLease r (Lease.freed (s.lease r).generation)) := by
  have hmove : s.retireMove r = s := if_neg h
  have hq := s.retire_quiet r cause
  rw [hmove] at hq
  exact hq.trans (s.freeRecord_quiet r)

/-- A record that its only holder has left, with nobody waiting, is IDLE when it is kept, and otherwise FREE with its run in
SCRUB (R17, R56). -/
structure State.Vacated (t : State) (r : RecordNo) (l : Lease) : Prop where
  idle : l.keep = true → t.lease r = { l.emptied with state := .idle }
  freed : l.keep = false → t.lease r = Lease.freed l.generation ∧
    ∀ run b, l.run = some run → run.base ≤ b → b < run.base + run.len → b < 512 → t.block b = some .scrub

theorem State.Vacated.later {v t : State} {R : RecordNo → Prop} {r : RecordNo} {l : Lease} (h : v.Vacated r l)
    (ht : t.Winds v R) (hr : t.lease r = v.lease r) : t.Vacated r l := by
  refine ⟨fun keep => hr.trans (h.idle keep), fun keep => ?_⟩
  obtain ⟨hlease, hblocks⟩ := h.freed keep
  exact ⟨hr.trans hlease, fun run b hrun h1 h2 hb => ht.scrub b (hblocks run b hrun h1 h2 hb)⟩

/-- An abandoned move does not show in what becomes of the record (R122). -/
theorem State.Vacated.of_unmoved {t : State} {r : RecordNo} {l : Lease} (h : t.Vacated r l.unmoved) : t.Vacated r l := by
  obtain ⟨idle, freed⟩ := h
  have hemptied : l.unmoved.emptied = l.emptied := by
    unfold Lease.emptied
    rw [show l.unmoved.unmoved = l.unmoved from if_neg l.unmoved_not_moving]
  have hrest : l.unmoved.keep = l.keep ∧ l.unmoved.generation = l.generation ∧ l.unmoved.run = l.run := by
    unfold Lease.unmoved
    split <;> exact ⟨rfl, rfl, rfl⟩
  obtain ⟨hkeep, hgen, hrun⟩ := hrest
  rw [hkeep, hemptied] at idle
  rw [hkeep, hgen, hrun] at freed
  exact ⟨idle, freed⟩

/-- Stage 3 at a HELD record that the master holds alone and nobody waits for (R17, R56). -/
theorem State.endHold_vacated {s : State} {r : RecordNo} {m : Master} (held : (s.lease r).state = .held)
    (alone : (s.lease r).holders = MasterSet.single m) (hnone : s.entriesFor (s.handle r) = []) :
    (State.endHold m s r).Vacated r (s.lease r) := by
  have hlease : (s.removeHolder r m).lease r = (s.lease r).emptied :=
    (State.lease_setLease_self _ _ _).trans (Lease.without_of_alone held alone)
  have hemptied : (s.lease r).emptied = { s.lease r with holders := 0, mode := none } := by
    unfold Lease.emptied Lease.unmoved
    rw [if_neg (by rw [held]; decide)]
  rw [hemptied] at hlease
  have hgrants : (s.removeHolder r m).grantable r = [] := by
    rw [State.grantable_held (by rw [hlease]; exact held), s.removeHolder_handle]
    rw [show (s.removeHolder r m).entriesFor (s.handle r) = s.entriesFor (s.handle r) from rfl, hnone]
    rfl
  have hstep : State.endHold m s r = (s.removeHolder r m).settle r := by
    unfold State.endHold State.leave
    rw [if_pos (by rw [alone]; simp), State.grantPass_of_none hgrants]
  rw [hstep]
  refine ⟨fun keep => ?_, fun keep => ?_⟩
  · rw [hemptied, State.settle_kept (by rw [hlease]; exact held) (by rw [hlease]) (by rw [hlease]; exact keep),
      State.lease_setLease_self, hlease]
  · rw [State.settle_unkept (by rw [hlease]; exact held) (by rw [hlease]) (by rw [hlease]; exact keep)]
    have hq := (s.removeHolder r m).retire_still (r := r) (by rw [hlease]; exact held ▸ by decide) .emptied
    refine ⟨?_, fun run b hrun h1 h2 hb => ?_⟩
    · rw [hq.lease, State.lease_setLease_self, hlease]
    · rw [hq.blocks, hlease]
      show ((s.removeHolder r m).scrubRun (s.lease r).run).block b = some .scrub
      rw [hrun]
      exact State.block_scrubRun h1 h2 hb

/-! #### A second pass on the lease that the master's own entry headed (R54, R56) -/

/-- What is left of a list when the entries of its first part go. -/
theorem filter_not_mem_left {a b : List WaitEntry} (h : (a ++ b).Nodup) :
    (a ++ b).filter (fun y => decide (y ∉ a)) = b := by
  obtain ⟨-, -, hne⟩ := List.nodup_append.1 h
  rw [List.filter_append, List.filter_eq_nil_iff.2 fun y hy => by simpa using hy,
    List.filter_eq_self.2 fun y hy => by simpa using fun c => hne y c y hy rfl, List.nil_append]

/-- After a pass that has granted a row of ACQ_SHARED entries no such entry is at the head (R98). -/
theorem State.QueueLaw.head_after_row {s : State} (h : s.QueueLaw) {r : RecordNo} {e b : WaitEntry}
    {rest rest' : List WaitEntry} (hentries : s.entriesFor (s.handle r) = e :: rest)
    (hg : s.grantable r = e :: rest.takeWhile fun x => x.kind == .acqShared)
    (hb : (s.grantPass r).entriesFor (s.handle r) = b :: rest') : b.kind ≠ .acqShared := by
  have hsplit : s.entriesFor (s.handle r) = s.grantable r ++ rest.dropWhile fun x => x.kind == .acqShared := by
    rw [hentries, hg, List.cons_append, List.takeWhile_append_dropWhile]
  have hnodup : (s.entriesFor (s.handle r)).Nodup := (List.Nodup.of_map _ h).sublist List.filter_sublist
  have hleft : (s.grantPass r).entriesFor (s.handle r) = rest.dropWhile fun x => x.kind == .acqShared := by
    have hcomm : (s.grantPass r).entriesFor (s.handle r) =
        (s.entriesFor (s.handle r)).filter fun y => decide (y ∉ s.grantable r) := by
      unfold State.entriesFor
      rw [h.grantPass_queue, List.filter_filter, List.filter_filter]
      exact List.filter_congr fun _ _ => Bool.and_comm _ _
    rw [hcomm, hsplit]
    exact filter_not_mem_left (hsplit ▸ hnodup)
  have hhead := List.head?_dropWhile_not (fun x : WaitEntry => x.kind == .acqShared) rest
  rw [← hleft, hb] at hhead
  simpa using hhead

/-- A lease somebody else holds, with a head entry that waits to acquire it EXCLUSIVE or is another's UPGRADE, stays as it
is (R98). -/
theorem Lease.grants_eq_nil {l : Lease} {m : Master} {entries : List WaitEntry} (hm : l.holders.mem m = true)
    (h : ∀ b rest, entries = b :: rest → b.kind ≠ .acqShared ∧ b.master ≠ m) : l.grants entries = [] := by
  rcases l.grants_cases entries with hg | ⟨e, rest, he, -, ⟨-, hh⟩ | ⟨-, hh⟩⟩ | ⟨e, rest, he, hk, -⟩
  · exact hg
  · exact absurd (MasterSet.eq_of_mem_single (hh ▸ hm)) (h e rest he).2
  · exact absurd hh (MasterSet.ne_zero_of_mem hm)
  · exact absurd hk (h e rest he).1

/-- A lease passed on loses a holder that was there before the pass, where the grants would have been the same. -/
theorem State.Passed.removeHolder {s : State} {r : RecordNo} {x : Handle} {l : Lease} {entries : List WaitEntry}
    {m : Master} (h : s.Passed r x l entries)
    (same : Lease.grants { l with holders := l.holders.erase m } entries = l.grants entries)
    (others : ∀ e ∈ l.grants entries, e.master ≠ m) (left : (s.lease r).holders.erase m ≠ 0) :
    (s.removeHolder r m).Passed r x { l with holders := l.holders.erase m } entries := by
  have hlease : (s.removeHolder r m).lease r = { s.lease r with holders := (s.lease r).holders.erase m } :=
    (State.lease_setLease_self _ _ _).trans (Lease.without_of_others left)
  refine ⟨?_, fun m' => ?_, same ▸ h.left, same ▸ h.stay, same ▸ h.told⟩
  · rw [hlease, same, h.lease]
  · rw [hlease, same, MasterSet.mem_erase, MasterSet.mem_erase, Bool.and_eq_true, Bool.and_eq_true, h.holders, or_and_right]
    refine or_congr_right (and_iff_left_of_imp ?_)
    rintro ⟨e, he, rfl⟩
    simpa using (others e he).symm

/-- Stage 3 at a HELD record that the master holds with others (R56). -/
theorem State.QueueLaw.endHold_shared {s : State} (h : s.QueueLaw) {r : RecordNo} {m : Master}
    (held : (s.lease r).state = .held) (hm : (s.lease r).holders.mem m = true)
    (hne : (s.lease r).holders ≠ MasterSet.single m) :
    (State.endHold m s r).Passed r (s.handle r) { s.lease r with holders := (s.lease r).holders.erase m }
      (s.entriesFor (s.handle r)) := by
  have hleft := MasterSet.erase_ne_zero_of_others hm hne
  rw [← Lease.without_of_others hleft]
  exact h.endHold_passed held hm (.inl hleft)

/-- The same when stage 1 has had the grant pass of the record: the second pass grants nothing more, and both together
grant what one pass without the master grants (R54, R56). -/
theorem State.QueueLaw.endHold_repassed {s z : State} (h : s.QueueLaw) {r : RecordNo} {m : Master}
    (held : (s.lease r).state = .held) (hm : (s.lease r).holders.mem m = true)
    (hne : (s.lease r).holders ≠ MasterSet.single m) (hothers : ∀ e ∈ s.entriesFor (s.handle r), e.master ≠ m)
    (hz : z.Winds (s.grantPass r) (· ≠ r)) :
    (State.endHold m z r).Passed r (s.handle r) { s.lease r with holders := (s.lease r).holders.erase m }
      (s.entriesFor (s.handle r)) := by
  have hg := State.grantable_held held
  have hwaits : ∀ e ∈ (s.lease r).grants (s.entriesFor (s.handle r)), e.master ≠ m :=
    fun e he => hothers e (((s.lease r).grants_sublist _).subset he)
  have hpass := h.grantPass_passed held
  have hpasswinds := State.Winds.grantPass (R := fun _ => True) s (r := r) trivial
  have hhandle : z.handle r = s.handle r := (hz.handle r).trans (hpasswinds.handle r)
  have hentries : z.entriesFor (s.handle r) = (s.grantPass r).entriesFor (s.handle r) := by
    have := hz.entries r (fun c => c rfl)
    rwa [hpasswinds.handle] at this
  have hzlaw : z.QueueLaw := hz.queueLaw (hpasswinds.queueLaw h)
  rcases (s.lease r).grants_cases (s.entriesFor (s.handle r)) with hnone | ⟨e, -, -, hone, ⟨-, hh⟩ | ⟨-, hh⟩⟩ |
    ⟨e, rest, hrow, hk, hmode, hall⟩
  · rw [State.grantPass_of_none (hg.trans hnone)] at hz hentries
    have hlease : z.lease r = s.lease r := hz.lease r fun c => c rfl
    have hp := hzlaw.endHold_shared (r := r) (m := m) (by rw [hlease]; exact held) (by rw [hlease]; exact hm)
      (by rw [hlease]; exact hne)
    rw [hlease, hhandle, hentries] at hp
    exact hp
  · exact absurd (MasterSet.eq_of_mem_single (hh ▸ hm)) (hwaits e (by simp [hone]))
  · exact absurd hh (MasterSet.ne_zero_of_mem hm)
  · have hmem : e ∈ (s.lease r).grants (s.entriesFor (s.handle r)) := by rw [hall]; exact List.mem_cons_self
    have hshared : (s.lease r).mode = some .shared := hmode.resolve_left (MasterSet.ne_zero_of_mem hm)
    have hzp := hpass.later hz (fun c => c rfl) fun x hx => by
      rw [hpasswinds.handle]
      exact (State.mem_entriesFor.1 hx).2
    have hzm : (z.lease r).holders.mem m = true := (hzp.holders m).2 (.inl hm)
    have hze : ((z.lease r).holders.erase m).mem e.master = true := by
      rw [MasterSet.mem_erase, (hzp.holders e.master).2 (.inr ⟨e, hmem, rfl⟩)]
      simpa using (hwaits e hmem).symm
    have hleft := MasterSet.ne_zero_of_mem hze
    have hzheld : (z.lease r).state = .held := by rw [hzp.lease]; exact held
    have hsame : Lease.grants { s.lease r with holders := (s.lease r).holders.erase m } (s.entriesFor (s.handle r)) =
        (s.lease r).grants (s.entriesFor (s.handle r)) := by
      rw [hall, hrow]
      exact Lease.grants_shared hk (.inr hshared)
    have hnow : (z.removeHolder r m).lease r = (z.lease r).without m := State.lease_setLease_self _ _ _
    have hsecond : (z.removeHolder r m).grantable r = [] := by
      rw [State.grantable_held (by rw [hnow]; exact hzheld), hnow, z.removeHolder_handle, hhandle]
      refine Lease.grants_eq_nil hze fun b rest' hb => ⟨?_, ?_⟩
      · exact h.head_after_row hrow (hg.trans hall) (hentries.symm.trans hb)
      · refine hzp.left e hmem b ?_
        have hbmem : b ∈ z.entriesFor (s.handle r) := by
          rw [show z.entriesFor (s.handle r) = b :: rest' from hb]
          exact List.mem_cons_self
        exact (State.mem_entriesFor.1 hbmem).1
    have hp := hzp.removeHolder hsame hwaits hleft
    have hkeep := State.settle_of_passed hp (.inl (MasterSet.erase_ne_zero_of_others hm hne))
    unfold State.endHold State.leave
    rw [if_pos hzm, State.grantPass_of_none hsecond, hkeep]
    exact hp

end Sys2Proof.Machine
end

section
/-! ### What the ending of a session does to one record (R54 to R56) -/

namespace Sys2Proof.Machine

theorem nodup_allRecords : allRecords.Nodup := by decide

/-! #### The ending as it comes to one record -/

/-- A master heads at most one lease, since it has at most one entry (R83). -/
theorem State.HeadedBy.unique {s : State} (h : s.QueueLaw) {r r' : RecordNo} {m : Master} (hr : s.HeadedBy r m)
    (hr' : s.HeadedBy r' m) : r = r' := by
  obtain ⟨-, e, rest, he, hm⟩ := hr
  obtain ⟨-, e', rest', he', hm'⟩ := hr'
  obtain ⟨hq, hh⟩ := State.mem_entriesFor.1 (he ▸ List.mem_cons_self : e ∈ s.entriesFor (s.handle r))
  obtain ⟨hq', hh'⟩ := State.mem_entriesFor.1 (he' ▸ List.mem_cons_self : e' ∈ s.entriesFor (s.handle r'))
  by_contra hne
  have heq : e = e' := h.unique hq hq' (hm.trans hm'.symm)
  exact State.handle_ne hne (hh.symm.trans ((congrArg WaitEntry.handle heq).trans hh'))

/-- Stage 1 as one record sees it: a grant pass when the master's entry headed the record, and nothing but the removal of
the entry when not (R54). -/
theorem State.QueueLaw.endStage1_at {s : State} (h : s.QueueLaw) (m : Master) (r : RecordNo) :
    ¬ s.HeadedBy r m ∧ (s.endStage1 m).Winds (s.waitless m) (· ≠ r) ∨
      s.HeadedBy r m ∧ s.endStage1 m = (s.waitless m).grantPass r := by
  rcases State.endStage1_cases h m with ⟨e, hnone⟩ | ⟨r', hr', e⟩
  · rw [e]
    exact .inl ⟨hnone r, .refl _ _⟩
  · by_cases hr : r' = r
    · subst hr
      exact .inr ⟨hr', e⟩
    · rw [e]
      exact .inl ⟨fun c => hr (hr'.unique h c), .grantPass _ hr⟩

/-- Where a pass on the record grants nothing, stage 1 leaves it alone. -/
theorem State.QueueLaw.endStage1_elsewhere {s : State} (h : s.QueueLaw) {m : Master} {r : RecordNo}
    (hr : s.HeadedBy r m → (s.lease r).state = .moving) : (s.endStage1 m).Winds (s.waitless m) (· ≠ r) := by
  rcases h.endStage1_at m r with ⟨-, hw⟩ | ⟨hhead, e⟩
  · exact hw
  · have hnone : (s.waitless m).grantable r = [] := ((s.waitless m).grantable_eq r).trans (if_pos (hr hhead))
    rw [e, State.grantPass_of_none hnone]
    exact .refl _ _

/-- Stage 2 leaves a record alone that is not MOVING or not held by the master (R55). -/
theorem State.endStage2_elsewhere {u : State} {m : Master} {r : RecordNo}
    (h : ¬ ((u.lease r).state = .moving ∧ (u.lease r).holders.mem m = true)) : (u.endStage2 m).Winds u (· ≠ r) :=
  .endStage2 u m fun _ hmoving hm c => h (c ▸ ⟨hmoving, hm⟩)

/-- Stage 3 comes to each record once; before and after, the record is left alone (R56). -/
theorem State.endSession_at (s : State) (m : Master) (reason : EndReason) (r : RecordNo) :
    ∃ z, z.Winds ((s.endStage1 m).endStage2 m) (· ≠ r) ∧ (s.endSession m reason).Winds (State.endHold m z r) (· ≠ r) := by
  obtain ⟨before, after, hsplit⟩ := List.append_of_mem (mem_allRecords r)
  have hnodup := nodup_allRecords
  rw [hsplit, List.nodup_append, List.nodup_cons] at hnodup
  obtain ⟨-, ⟨hafter, -⟩, hbefore⟩ := hnodup
  refine ⟨before.foldl (State.endHold m) ((s.endStage1 m).endStage2 m),
    .foldl_endHold _ m fun r' hr' => hbefore r' hr' r List.mem_cons_self, ?_⟩
  refine .endStages4And5 ?_ m reason
  unfold State.endStage3
  rw [hsplit, List.foldl_append, List.foldl_cons]
  exact .foldl_endHold _ m fun r' hr' c => hafter (c ▸ hr')

theorem State.endHold_of_not_holder {s : State} {r : RecordNo} {m : Master} (h : (s.lease r).holders.mem m = false) :
    State.endHold m s r = s := by
  unfold State.endHold
  rw [if_neg (by rw [h]; decide)]

/-- A record that the master does not hold is left as stage 1 leaves it. -/
theorem State.endSession_of_not_holder {s : State} {m : Master} {r : RecordNo} (reason : EndReason)
    (h : ((s.endStage1 m).lease r).holders.mem m = false) :
    (s.endSession m reason).Winds (s.endStage1 m) (· ≠ r) := by
  obtain ⟨z, hz, ht⟩ := s.endSession_at m reason r
  have hz1 : z.Winds (s.endStage1 m) (· ≠ r) :=
    hz.trans (State.endStage2_elsewhere fun c => Bool.false_ne_true (h.symm.trans c.2))
  have hlease : z.lease r = (s.endStage1 m).lease r := hz1.lease r fun c => c rfl
  rw [State.endHold_of_not_holder (by rw [hlease]; exact h)] at ht
  exact ht.trans hz1

/-- A record that the master neither holds nor waits for is left alone. -/
theorem State.QueueLaw.endSession_elsewhere {s : State} (h : s.QueueLaw) {m : Master} {r : RecordNo} (reason : EndReason)
    (hm : (s.lease r).holders.mem m = false) (hw : ∀ e ∈ s.queue, e.handle = s.handle r → e.master ≠ m) :
    (s.endSession m reason).Winds s (· ≠ r) := by
  have hwaitless : (s.waitless m).Winds s (· ≠ r) := by
    refine (State.Winds.refl s _).setQueue List.filter_sublist fun r' hr' => ?_
    cases not_not.1 hr'
    exact State.waitless_entriesFor_self fun e he => hw e (State.mem_entriesFor.1 he).1 (State.mem_entriesFor.1 he).2
  have h1 : (s.endStage1 m).Winds s (· ≠ r) := by
    refine (h.endStage1_elsewhere fun c => ?_).trans hwaitless
    obtain ⟨-, e, rest, he, hem⟩ := c
    obtain ⟨hq, hh⟩ := State.mem_entriesFor.1 (he ▸ List.mem_cons_self : e ∈ s.entriesFor (s.handle r))
    exact absurd hem (hw e hq hh)
  refine (State.endSession_of_not_holder reason ?_).trans h1
  rw [h1.lease r fun c => c rfl]
  exact hm

/-- The record that moves is the only one that does (R114). -/
theorem State.MovingLaw.movingRecord {s : State} (h : s.MovingLaw) {r : RecordNo} (hr : (s.lease r).state = .moving) :
    s.movingRecord = some r := by
  cases hf : s.movingRecord with
  | none => exact absurd hr (State.movingRecord_none hf r)
  | some r' => rw [h r' r (State.movingRecord_moving hf) hr]

/-- Stage 2 abandons the move of the MOVING lease of the master (R55). -/
theorem State.endStage2_abandons {u : State} {m : Master} {r : RecordNo} (law : u.MovingLaw)
    (hmoving : (u.lease r).state = .moving) (hm : (u.lease r).holders.mem m = true) :
    u.endStage2 m = u.abandonMove r .sessionEnded := by
  unfold State.endStage2
  rw [law.movingRecord hmoving]
  exact if_pos hm

theorem Lease.unmoved_moving {l : Lease} (h : l.state = .moving) : l.unmoved = { l with state := .held, target := none } :=
  if_pos h

theorem Lease.unmoved_still {l : Lease} (h : l.state ≠ .moving) : l.unmoved = l := if_neg h

theorem Lease.unmoved_emptied (l : Lease) : l.unmoved.emptied = l.emptied := by
  unfold Lease.emptied
  rw [Lease.unmoved_still l.unmoved_not_moving]

theorem State.HoldsAlone.unmoved_held {s : State} {m : Master} {r : RecordNo} (h : s.HoldsAlone m r) :
    (s.lease r).unmoved.state = .held := by
  rcases h.held with hs | ⟨hs, -⟩
  · rw [Lease.unmoved_still (by rw [hs]; decide)]
    exact hs
  · rw [Lease.unmoved_moving hs]

/-- A lease held alone comes to stage 3 HELD, on its run, with the entries of the others (R55, R122). -/
theorem State.HoldsAlone.reaches {s : State} {m : Master} {r : RecordNo} (h : s.HoldsAlone m r) (law : s.QueueLaw)
    (hhead : ¬ s.HeadedBy r m) (reason : EndReason) :
    ∃ z, z.lease r = (s.lease r).unmoved ∧ z.handle r = s.handle r ∧
      z.entriesFor (s.handle r) = (s.waitless m).entriesFor (s.handle r) ∧ z.QueueLaw ∧
      (s.endSession m reason).Winds (State.endHold m z r) (· ≠ r) := by
  obtain ⟨z, hz, ht⟩ := s.endSession_at m reason r
  have h1 := law.endStage1_elsewhere (m := m) (r := r) fun c => absurd c hhead
  have hlease1 : (s.endStage1 m).lease r = s.lease r := h1.lease r fun c => c rfl
  have hm : ((s.endStage1 m).lease r).holders.mem m = true := by rw [hlease1, h.alone]; simp
  have hany : z.Winds (s.waitless m) fun _ => True :=
    (hz.mono fun _ _ => trivial).trans ((State.Winds.endStage2 _ m fun _ _ _ => trivial).trans
      (h1.mono fun _ _ => trivial))
  have h2 : ((s.endStage1 m).endStage2 m).lease r = (s.lease r).unmoved ∧
      ((s.endStage1 m).endStage2 m).entriesFor (s.handle r) = (s.endStage1 m).entriesFor (s.handle r) := by
    rcases h.held with hheld | ⟨hmoving, hlaw⟩
    · have hstill : (s.lease r).state ≠ .moving := by rw [hheld]; decide
      have h2 := State.endStage2_elsewhere (u := s.endStage1 m) (m := m) (r := r) fun c => hstill (hlease1 ▸ c.1)
      refine ⟨?_, ?_⟩
      · rw [h2.lease r fun c => c rfl, hlease1, Lease.unmoved_still hstill]
      · have := h2.entries r fun c => c rfl
        rwa [show (s.endStage1 m).handle r = s.handle r from h1.handle r] at this
    · have hlaw1 : (s.endStage1 m).MovingLaw := h1.movingLaw hlaw
      rw [State.endStage2_abandons hlaw1 (by rw [hlease1]; exact hmoving) hm]
      refine ⟨?_, ?_⟩
      · rw [State.abandonMove_lease, if_pos rfl, hlease1, Lease.unmoved_moving hmoving]
      · unfold State.entriesFor
        rw [State.abandonMove_queue]
  refine ⟨z, ?_, hany.handle r, ?_, hany.queueLaw (law.waitless m), ht⟩
  · rw [hz.lease r fun c => c rfl]
    exact h2.1
  · have hzentries := hz.entries r fun c => c rfl
    have hhandle : ((s.endStage1 m).endStage2 m).handle r = s.handle r :=
      ((State.Winds.endStage2 (R := fun _ => True) _ m fun _ _ _ => trivial).handle r).trans (h1.handle r)
    rw [hhandle, h2.2] at hzentries
    exact hzentries.trans (h1.entries r fun c => c rfl)

/-! #### PassedOn (R54, R56) -/

theorem State.Winds.mem_queue {s t : State} {R : RecordNo → Prop} (h : t.Winds s R) {r : RecordNo} (hr : ¬ R r)
    {x : WaitEntry} (hx : x ∈ s.queue) (hh : x.handle = s.handle r) : x ∈ t.queue := by
  have hmem : x ∈ s.entriesFor (s.handle r) := State.mem_entriesFor.2 ⟨hx, hh⟩
  rw [← h.entries r hr] at hmem
  exact (State.mem_entriesFor.1 hmem).1

/-- The entries behind the head are those of other masters (R83). -/
theorem State.QueueLaw.waitless_of_head {s : State} (h : s.QueueLaw) {m : Master} {x : Handle} {e : WaitEntry}
    {rest : List WaitEntry} (he : s.entriesFor x = e :: rest) (hm : e.master = m) :
    (s.waitless m).entriesFor x = rest := by
  have hnodup : ((e :: rest).map fun y => y.master).Nodup := he ▸ (List.filter_sublist.map _).nodup h
  obtain ⟨hnot, -⟩ := List.nodup_cons.1 hnodup
  rw [State.waitless_entriesFor, he, List.filter_cons_of_neg (by simp [hm]), List.filter_eq_self]
  intro y hy
  simpa using fun c => hnot (List.mem_map.2 ⟨y, hy, c.trans hm.symm⟩)

/-- What a pass at stage 3 has left of a record is what the ending leaves. -/
theorem State.Passed.of_endHold {t z : State} {m : Master} {r : RecordNo} {x : Handle} {l : Lease}
    {entries : List WaitEntry} (h : (State.endHold m z r).Passed r x l entries)
    (ht : t.Winds (State.endHold m z r) (· ≠ r)) (hentries : ∀ e ∈ entries, e.handle = z.handle r) :
    t.Passed r x l entries := by
  refine h.later ht (fun c => c rfl) fun e he => (hentries e he).trans ?_
  exact ((State.Winds.endHold (R := fun _ => True) z (r := r) trivial m).handle r).symm

/-- A lease held SHARED with others stays with them (R54, R56). -/
theorem State.QueueLaw.endSession_shared {s : State} (h : s.QueueLaw) {m : Master} {r : RecordNo} (reason : EndReason)
    (held : (s.lease r).state = .held) (hm : (s.lease r).holders.mem m = true)
    (hne : (s.lease r).holders ≠ MasterSet.single m) :
    (s.endSession m reason).Passed r (s.handle r) { s.lease r with holders := (s.lease r).holders.erase m }
      ((s.waitless m).entriesFor (s.handle r)) := by
  have hlaw := h.waitless m
  have hstill : (s.lease r).state ≠ .moving := by rw [held]; decide
  have hentries : ∀ e ∈ (s.waitless m).entriesFor (s.handle r), e.handle = s.handle r ∧ e.master ≠ m := fun e he =>
    ⟨(State.mem_entriesFor.1 he).2, s.waitless_waits m e (State.mem_entriesFor.1 he).1⟩
  obtain ⟨z, hz, ht⟩ := s.endSession_at m reason r
  have hstage2 : ∀ {u : State} {R : RecordNo → Prop}, s.endStage1 m = u → u.Winds (s.waitless m) R →
      z.Winds u (· ≠ r) := fun {u _} e hu =>
    e ▸ hz.trans (State.endStage2_elsewhere fun c => hstill (hu.moving r (e ▸ c.1)))
  rcases h.endStage1_at m r with ⟨-, hw⟩ | ⟨-, e⟩
  · have hzw : z.Winds (s.waitless m) (· ≠ r) := (hstage2 rfl hw).trans hw
    have hlease : z.lease r = s.lease r := hzw.lease r fun c => c rfl
    have hhandle : z.handle r = s.handle r := hzw.handle r
    have hp := (hzw.queueLaw hlaw).endHold_shared (r := r) (m := m) (by rw [hlease]; exact held)
      (by rw [hlease]; exact hm) (by rw [hlease]; exact hne)
    rw [hlease, hhandle, show z.entriesFor (s.handle r) = (s.waitless m).entriesFor (s.handle r) from
      hzw.entries r fun c => c rfl] at hp
    exact hp.of_endHold ht fun e he => (hentries e he).1.trans hhandle.symm
  · have hpass := State.Winds.grantPass (R := fun _ => True) (s.waitless m) (r := r) trivial
    have hzu := hstage2 e hpass
    have hhandle : z.handle r = s.handle r := (hzu.handle r).trans (hpass.handle r)
    exact (hlaw.endHold_repassed held hm hne (fun e he => (hentries e he).2) hzu).of_endHold ht fun e he =>
      (hentries e he).1.trans hhandle.symm

theorem State.not_headedBy_of_others {s : State} {m : Master} {r : RecordNo}
    (h : ∀ e ∈ s.entriesFor (s.handle r), e.master ≠ m) : ¬ s.HeadedBy r m := by
  rintro ⟨-, e, rest, he, hm⟩
  exact h e (by rw [he]; exact List.mem_cons_self) hm

/-- A lease held alone passes to those that wait to acquire it (R56, R123). -/
theorem State.QueueLaw.endSession_handed {s : State} (h : s.QueueLaw) {m : Master} {r : RecordNo} {e : WaitEntry}
    {rest : List WaitEntry} (reason : EndReason) (ha : s.AwaitedFrom m r e rest) :
    (s.endSession m reason).HandedOn s r e rest := by
  have he : s.entriesFor (s.handle r) = e :: rest := ha.entries
  have hothers : ∀ x ∈ s.entriesFor (s.handle r), x.master ≠ m := fun x hx => ha.others x (he ▸ hx)
  obtain ⟨z, hlease, hhandle, hentries, hlaw, ht⟩ := ha.toHoldsAlone.reaches h (State.not_headedBy_of_others hothers) reason
  rw [State.waitless_entriesFor_self hothers, he] at hentries
  have hheld : (z.lease r).state = .held := by rw [hlease]; exact ha.toHoldsAlone.unmoved_held
  have halone : (z.lease r).holders = MasterSet.single m := by rw [hlease, Lease.unmoved_holders]; exact ha.alone
  have hwithout : (z.lease r).without m = (s.lease r).emptied := by
    rw [Lease.without_of_alone hheld halone, hlease, Lease.unmoved_emptied]
  have hgrant := Lease.mem_grants_of_empty (l := (s.lease r).emptied) rest rfl ha.acquire
  have hp := hlaw.endHold_passed (m := m) hheld (by rw [halone]; simp)
    (.inr (by rw [hwithout, hhandle, hentries]; exact List.ne_nil_of_mem hgrant))
  rw [hwithout, hhandle, hentries] at hp
  refine hp.of_endHold ht fun x hx => ?_
  rw [hhandle]
  exact (State.mem_entriesFor.1 (he ▸ hx)).2

/-- A lease held alone that nobody waits for is left vacant (R17, R56). -/
theorem State.QueueLaw.endSession_vacated {s : State} (h : s.QueueLaw) {m : Master} {r : RecordNo} (reason : EndReason)
    (ha : s.HoldsAlone m r) (hn : s.NoWaiters (s.handle r)) : (s.endSession m reason).Vacated r (s.lease r) := by
  have he : s.entriesFor (s.handle r) = [] :=
    List.filter_eq_nil_iff.2 fun e he => by simpa using hn e he
  have hothers : ∀ x ∈ s.entriesFor (s.handle r), x.master ≠ m := by rw [he]; exact fun _ hx => nomatch hx
  obtain ⟨z, hlease, hhandle, hentries, -, ht⟩ := ha.reaches h (State.not_headedBy_of_others hothers) reason
  rw [State.waitless_entriesFor_self hothers, he] at hentries
  have hheld : (z.lease r).state = .held := by rw [hlease]; exact ha.unmoved_held
  have hv := State.endHold_vacated hheld (m := m) (by rw [hlease, Lease.unmoved_holders]; exact ha.alone)
    (by rw [hhandle]; exact hentries)
  rw [hlease] at hv
  exact (hv.later ht (ht.lease r fun c => c rfl)).of_unmoved

/-- The ending of a session passes every record on. -/
theorem State.QueueLaw.endSession_passedOn {s : State} (h : s.QueueLaw) (m : Master) (reason : EndReason) (r : RecordNo) :
    (s.endSession m reason).PassedOn s m r := by
  have hwaits := s.waitless_waits m
  have hstage1 : (s.endStage1 m).Winds (s.waitless m) fun _ => True := by
    rcases h.endStage1_at m r with ⟨-, hw⟩ | ⟨-, e⟩
    · exact hw.mono fun _ _ => trivial
    · rw [e]; exact .grantPass _ trivial
  have hnot : (s.lease r).holders.mem m = false → ((s.endStage1 m).lease r).holders.mem m = false :=
    hstage1.not_holder fun e he _ => hwaits e he
  refine ⟨fun held hm hne => ?_, fun e rest => h.endSession_handed reason, fun e rest held hm he hem => ?_,
    fun hm hr => ?_, fun x _ _ _ => ?_⟩
  · have hp := h.endSession_shared reason held hm hne
    rw [State.waitless_entriesFor] at hp
    exact hp
  · have hhead : s.HeadedBy r m := ⟨by rw [held]; decide, e, rest, he, hem⟩
    have hstage : s.endStage1 m = (s.waitless m).grantPass r :=
      ((h.endStage1_at m r).resolve_left fun c => c.1 hhead).2
    have hp := (h.waitless m).grantPass_passed (r := r) held
    rw [show (s.waitless m).entriesFor ((s.waitless m).handle r) = rest from h.waitless_of_head he hem, ← hstage] at hp
    refine hp.later (State.endSession_of_not_holder reason (hnot hm)) (fun c => c rfl) fun x hx => ?_
    have hxe : x ∈ s.entriesFor (s.handle r) := by
      rw [show s.entriesFor (s.handle r) = e :: rest from he]
      exact List.mem_cons_of_mem e hx
    exact (State.mem_entriesFor.1 hxe).2.trans (hstage1.handle r).symm
  · have h1 : (s.endStage1 m).Winds (s.waitless m) (· ≠ r) := by
      refine h.endStage1_elsewhere fun c => ?_
      obtain ⟨hlive, e, rest, he, hem⟩ := c
      rcases hr with hfree | hmoving | hhead
      · exact absurd hfree hlive
      · exact hmoving
      · refine absurd hem (hhead e ?_)
        rw [← List.head?_filter, show s.queue.filter (fun x => x.handle == s.handle r) = e :: rest from he]
        rfl
    have ht := (State.endSession_of_not_holder reason (hnot hm)).trans h1
    refine ⟨ht.lease r fun c => c rfl, fun x hx hh hne => ht.mem_queue (r := r) (fun c => c rfl) ?_ hh⟩
    exact List.mem_filter.2 ⟨hx, by simpa using hne⟩
  · have ht : (s.endSession m reason).Winds (s.waitless m) fun _ => True :=
      .endStages4And5 ((State.Winds.foldl_endHold _ m fun _ _ => trivial).trans
        ((State.Winds.endStage2 _ m fun _ _ _ => trivial).trans hstage1)) m reason
    exact ht.quiet m fun e he hem => absurd hem (hwaits e he)

/-! #### The same, seen from an earlier and from a later card -/

/-- What happens elsewhere before the ending does not show. -/
theorem State.PassedOn.earlier {s u t : State} {m : Master} {r : RecordNo} (h : t.PassedOn u m r) (law : s.QueueLaw)
    (hu : u.Winds s (· ≠ r)) : t.PassedOn s m r := by
  have hlease : u.lease r = s.lease r := hu.lease r fun c => c rfl
  have hhandle : u.handle r = s.handle r := hu.handle r
  have hentries : u.queue.filter (fun x => x.handle == s.handle r) = s.queue.filter fun x => x.handle == s.handle r :=
    hu.entries r fun c => c rfl
  obtain ⟨shared, handed, headed, untouched, quiet⟩ := h
  simp only [State.HandedOn, hlease, hhandle, hentries] at shared handed headed untouched quiet
  refine ⟨shared, fun e rest ha => handed e rest ⟨⟨?_, ?_⟩, ?_, ha.acquire, ha.others⟩, headed, fun hm hr => ?_,
    fun x hx hxm hh => ?_⟩
  · rw [hlease]
    exact ha.held.imp_right fun c => ⟨c.1, hu.movingLaw c.2⟩
  · rw [hlease]
    exact ha.alone
  · rw [hhandle, hentries]
    exact ha.entries
  · rw [← List.head?_filter, hentries, List.head?_filter] at untouched
    obtain ⟨hl, hq⟩ := untouched hm hr
    exact ⟨hl, fun x hx hh => hq x (hu.mem_queue (fun c => c rfl) hx hh) hh⟩
  · obtain ⟨hw, hf⟩ := quiet x (hu.mem_queue (fun c => c rfl) hx hh) hxm hh
    obtain ⟨hw', hf'⟩ := hu.quiet m fun e he hem => ⟨r, fun c => c rfl, law.unique he hx (hem.trans hxm.symm) ▸ hh⟩
    exact ⟨hw.trans hw', hf.trans hf'⟩

/-- What happens elsewhere after the ending does not show. -/
theorem State.PassedOn.later {s v t : State} {m : Master} {r : RecordNo} (h : v.PassedOn s m r) (hv : v.Without m)
    (hhandle : v.handle r = s.handle r) (ht : t.Winds v (· ≠ r)) : t.PassedOn s m r := by
  have hpassed : ∀ {l : Lease} {entries : List WaitEntry}, v.Passed r (s.handle r) l entries →
      (∀ e ∈ entries, e ∈ s.entriesFor (s.handle r)) → t.Passed r (s.handle r) l entries := fun hp hentries =>
    hp.later ht (fun c => c rfl) fun e he => (State.mem_entriesFor.1 (hentries e he)).2.trans hhandle.symm
  refine ⟨fun held hm hne => ?_, fun e rest ha => ?_, fun e rest held hm he hem => ?_, fun hm hr => ?_,
    fun x hx hxm hh => ?_⟩
  · exact hpassed (h.shared held hm hne) fun e he => List.mem_of_mem_filter he
  · refine hpassed (h.handed e rest ha) fun x hx => ?_
    rw [show s.entriesFor (s.handle r) = e :: rest from ha.entries]
    exact hx
  · refine hpassed (h.headed e rest held hm he hem) fun x hx => ?_
    rw [show s.entriesFor (s.handle r) = e :: rest from he]
    exact List.mem_cons_of_mem e hx
  · obtain ⟨hl, hq⟩ := h.untouched hm hr
    refine ⟨(ht.lease r fun c => c rfl).trans hl, fun x hx hh hne => ?_⟩
    exact ht.mem_queue (fun c => c rfl) (hq x hx hh hne) (hh.trans hhandle.symm)
  · obtain ⟨hw, hf⟩ := h.quiet x hx hxm hh
    obtain ⟨hw', hf'⟩ := ht.quiet m fun e he hem => absurd hem (hv.waits e he)
    exact ⟨hw'.trans hw, hf'.trans hf⟩

end Sys2Proof.Machine
end

section
/-! ### The moves that an ending abandons (R55, R122, R127) -/

namespace Sys2Proof.MasterSet

theorem members_single (m : Master) : members (single m) = [m] := by
  revert m; decide

end Sys2Proof.MasterSet

namespace Sys2Proof.Machine

/-- No move has been taken, copied or given up, and no end of a move has been told. -/
structure State.Rests (t s : State) : Prop where
  engine : t.engine = s.engine
  record : ∀ m, (t.mailbox m).moveRecord = (s.mailbox m).moveRecord

namespace State.Rests

variable {s t u : State}

theorem refl (s : State) : s.Rests s := ⟨rfl, fun _ => rfl⟩

theorem trans (h : u.Rests t) (h' : t.Rests s) : u.Rests s :=
  ⟨h.engine.trans h'.engine, fun m => (h.record m).trans (h'.record m)⟩

theorem of_eq (engine : t.engine = s.engine) (mailboxes : t.mailboxes = s.mailboxes) : t.Rests s :=
  ⟨engine, fun m => by unfold State.mailbox; rw [mailboxes]⟩

theorem setMailbox (s : State) {m : Master} {b : Mailbox} (h : b.moveRecord = (s.mailbox m).moveRecord) :
    (s.setMailbox m b).Rests s := by
  refine ⟨rfl, fun m' => ?_⟩
  rw [State.mailbox_setMailbox]
  split
  · next e => exact e ▸ h
  · rfl

theorem endWait (s : State) (m : Master) (record : WaitRecord) : (s.endWait m record).Rests s := setMailbox s rfl

theorem foldl {β : Type} {f : State → β → State} (h : ∀ s b, (f s b).Rests s) (l : List β) (s : State) :
    (l.foldl f s).Rests s :=
  List.foldlRecOn (motive := fun u : State => u.Rests s) _ _ (refl s) fun u hu b _ => (h u b).trans hu

theorem grantPass (s : State) (r : RecordNo) : (s.grantPass r).Rests s := by
  refine foldl (f := State.grantEntry r) (fun u e => ?_) (s.grantable r) s
  exact (endWait _ e.master _).trans (of_eq rfl rfl)

/-- A lease that nobody holds is retired on its run, so that no move ends (R17). -/
theorem retire (s : State) {r : RecordNo} (h : (s.lease r).state ≠ .moving) : (s.retire r .emptied).Rests s := by
  have hmove : s.retireMove r = s := if_neg h
  have hwaits : (s.withdrawWaiters (s.handle r)).Rests s := by
    refine trans (t := (s.entriesFor (s.handle r)).foldl _ s) (of_eq rfl rfl) (foldl (fun v (e : WaitEntry) => ?_) _ s)
    exact endWait v e.master _
  have hfree : ∀ u : State, (u.freeRecord r).Rests u := by
    intro u
    obtain ⟨p, hp⟩ := u.scrubRun_frame (u.lease r).run
    obtain ⟨x, hx⟩ := (u.scrubRun (u.lease r).run).dropOwnedBy_frame (u.lease r).owner 1 (u.lease r).length
    unfold State.freeRecord
    rw [hx, hp]
    exact of_eq rfl rfl
  unfold State.retire
  rw [hmove]
  exact (hfree _).trans (trans (t := s.withdrawWaiters (s.handle r)) (of_eq rfl rfl) hwaits)

theorem settle (s : State) (r : RecordNo) : (s.settle r).Rests s := by
  rcases s.settle_cases r with ⟨e, -⟩ | ⟨held, -, e | e⟩
  · rw [e]; exact refl s
  · rw [e]; exact of_eq rfl rfl
  · rw [e]; exact retire s (by rw [held]; decide)

theorem endHold (s : State) (m : Master) (r : RecordNo) : (State.endHold m s r).Rests s := by
  unfold State.endHold
  split
  · exact (settle _ r).trans ((grantPass _ r).trans (of_eq rfl rfl))
  · exact refl s

theorem endStage1 (s : State) (m : Master) : (s.endStage1 m).Rests s := by
  have hdrop : ∀ e : WaitEntry, (s.setQueue (dropFromQueue s.queue e.master e.handle)).Rests s := fun _ => of_eq rfl rfl
  unfold State.endStage1 State.removeEntry
  dsimp only
  split
  · split
    · split
      · exact (grantPass _ _).trans (hdrop _)
      · exact hdrop _
    · exact hdrop _
  · exact refl s

/-- The stages after the second (R56, R57). -/
theorem endStages3To5 (s : State) (m : Master) (reason : EndReason) :
    ((((s.endStage3 m).unbindMaster m).closeSession m reason).endNotices m reason).Rests s := by
  have hholds : (s.endStage3 m).Rests s := foldl (fun u r => endHold u m r) _ s
  have hclose : (((s.endStage3 m).unbindMaster m).closeSession m reason).Rests s :=
    trans (t := s.endStage3 m) (of_eq rfl rfl) hholds
  have hraise : ∀ u : State, (u.raise m .sessionEnd).Rests u := fun u => setMailbox u rfl
  unfold State.endNotices
  split
  · exact trans (t := (((s.endStage3 m).unbindMaster m).closeSession m .lapsed).raise m .sessionEnd) (of_eq rfl rfl)
      ((hraise _).trans hclose)
  · exact (hraise _).trans hclose
  · exact hclose

end State.Rests

/-- The ending of a master that holds no MOVING lease ends no move (R55). -/
theorem State.QueueLaw.endSession_rests {s : State} (h : s.QueueLaw) {m : Master} (reason : EndReason)
    (hm : ∀ r, (s.lease r).state = .moving → (s.lease r).holders.mem m = false) : (s.endSession m reason).Rests s := by
  have hstage2 : (s.endStage1 m).endStage2 m = s.endStage1 m := by
    unfold State.endStage2
    split
    · next r hr =>
      have hmoving := State.movingRecord_moving hr
      have hnot : ((s.endStage1 m).lease r).holders.mem m = false := by
        have hs := hm r ((State.Winds.endStage1 s m).moving r hmoving)
        rcases h.endStage1_at m r with ⟨-, hw⟩ | ⟨-, e⟩
        · exact hw.not_holder (fun e he _ => s.waitless_waits m e he) hs
        · rw [e]
          exact (State.Winds.grantPass (R := fun _ => True) (s.waitless m) trivial).not_holder
            (fun e he _ => s.waitless_waits m e he) hs
      rw [if_neg (by rw [hnot]; decide)]
    · rfl
  unfold State.endSession
  rw [hstage2]
  exact (State.Rests.endStages3To5 _ m reason).trans (.endStage1 s m)

/-! #### Abandonment -/

theorem Lease.targetBlock_eq {l : Lease} {dir : Direction} {run target : Run} (hd : l.direction = some dir)
    (hr : l.run = some run) (ht : l.target = some target) (i : Nat) :
    l.targetBlock i = pairedBlock dir run target i := by
  cases dir with
  | up => exact Lease.targetBlock_up ht hd i
  | down => exact Lease.targetBlock_down hr ht hd i

/-- Abandonment does what R122 and R127 say, for a lease that one master holds. -/
theorem State.abandonMove_abandoned {u : State} {m : Master} {r : RecordNo} (reason : MoveReason)
    (alone : (u.lease r).holders = MasterSet.single m) : (u.abandonMove r reason).MoveAbandoned u m r reason := by
  have heq : u.abandonMove r reason =
      (((u.scrubRun (u.lease r).target).setLease r { u.lease r with state := .held, target := none }).setEngine
        (u.engine.giveUpMove (u.lease r))).endMove m
          { handle := u.handle r, result := some .abandoned, reason := reason, length := (u.lease r).length } := by
    unfold State.abandonMove State.forMasters
    rw [alone, MasterSet.members_single]
    rfl
  have hmailbox := congrArg (fun v : State => v.mailbox m) heq
  dsimp only at hmailbox
  unfold State.endMove at hmailbox
  rw [State.mailbox_setMailbox, if_pos rfl] at hmailbox
  have hengine : (u.abandonMove r reason).engine = u.engine.giveUpMove (u.lease r) := by rw [heq]; rfl
  refine ⟨fun target b ht h1 h2 hb => ?_, ?_, ?_, ?_, fun dir run target hd hr ht hstep => ?_, fun x hx hne => ?_⟩
  · rw [heq, ht]
    exact State.block_scrubRun h1 h2 hb
  · rw [hmailbox]
    rfl
  · rw [hmailbox, Mailbox.raise_flag]
    exact Bool.or_true _
  · rw [hengine]
    rfl
  · rw [hengine, ← Lease.sourceBlock_eq hr, ← Lease.targetBlock_eq hd hr ht]
    exact if_pos hstep
  · rw [hengine]
    refine (if_neg ?_).trans hx
    rw [hx]
    exact fun c => hne (Option.some.inj c)

namespace State.MoveAbandoned

variable {s u v t : State} {m : Master} {r : RecordNo} {reason : MoveReason}

/-- The record and the engine were as they were. -/
theorem earlier (h : t.MoveAbandoned u m r reason) (lease : u.lease r = s.lease r) (engine : u.engine = s.engine) :
    t.MoveAbandoned s m r reason := by
  obtain ⟨target, record, told, mover, burst, step⟩ := h
  have hhandle : u.handle r = s.handle r := State.handle_eq_of_generation (by rw [lease])
  rw [lease] at target record burst
  rw [engine] at burst step
  rw [hhandle] at record
  exact ⟨target, record, told, mover, burst, step⟩

theorem later {R : RecordNo → Prop} (h : v.MoveAbandoned s m r reason) (ht : t.Winds v R) (rests : t.Rests v) :
    t.MoveAbandoned s m r reason := by
  obtain ⟨target, record, told, mover, burst, step⟩ := h
  refine ⟨fun x b hx h1 h2 hb => ht.scrub b (target x b hx h1 h2 hb), (rests.record m).trans record,
    ht.flags m 2 told, ?_, ?_, ?_⟩
  all_goals rw [rests.engine]
  · exact mover
  · exact burst
  · exact step

/-- The engine, woken, goes on with its step, or begins one that is not a copy (R42). -/
theorem wakeEngine (h : v.MoveAbandoned s m r reason) : v.wakeEngine.MoveAbandoned s m r reason := by
  unfold State.wakeEngine
  split
  · next hstep =>
    obtain ⟨target, record, told, mover, burst, step⟩ := h
    have hw : v.chooseStep.Winds v fun _ => True :=
      (State.Winds.refl v _).of_mailboxes v.chooseStep_leases v.chooseStep_queue v.chooseStep_apertures
        (by rw [v.chooseStep_pool]) v.chooseStep_mailboxes
    have hmail : v.chooseStep.mailbox m = v.mailbox m := by unfold State.mailbox; rw [v.chooseStep_mailboxes]
    refine ⟨fun x b hx h1 h2 hb => hw.scrub b (target x b hx h1 h2 hb), hmail ▸ record, hmail ▸ told, ?_,
      fun dir run x hd hr hx hs => ?_, fun x hx hne => ?_⟩
    · rcases v.chooseStep_cases with ⟨-, e⟩ | ⟨b, -, e⟩ | e <;> rw [e] <;> exact mover
    · exact nomatch hstep.symm.trans (burst dir run x hd hr hx hs)
    · exact nomatch hstep.symm.trans (step x hx hne)
  · exact h

end State.MoveAbandoned

theorem State.HoldsAlone.oneMoving {s : State} {m : Master} {r : RecordNo} (h : s.HoldsAlone m r)
    (hm : (s.lease r).state = .moving) : s.MovingLaw := by
  rcases h.held with hheld | ⟨-, hlaw⟩
  · rw [hm] at hheld
    cases hheld
  · exact hlaw

/-- Stage 1 leaves a MOVING lease that the master holds alone as it is, and stage 2 abandons its move (R55, R97). -/
theorem State.QueueLaw.endStage2_moving {s : State} (h : s.QueueLaw) {m : Master} {r : RecordNo} (ha : s.HoldsAlone m r)
    (hm : (s.lease r).state = .moving) :
    (s.endStage1 m).lease r = s.lease r ∧
      (s.endStage1 m).endStage2 m = (s.endStage1 m).abandonMove r .sessionEnded := by
  have h1 := h.endStage1_elsewhere (m := m) (r := r) fun _ => hm
  have hlease : (s.endStage1 m).lease r = s.lease r := h1.lease r fun c => c rfl
  refine ⟨hlease, State.endStage2_abandons (h1.movingLaw (ha.oneMoving hm)) (by rw [hlease]; exact hm) ?_⟩
  rw [hlease, ha.alone]
  simp

/-- The ending abandons the move of a lease that its master holds alone (R55, R124). -/
theorem State.QueueLaw.endSession_moved {s : State} (h : s.QueueLaw) {m : Master} {r : RecordNo} (reason : EndReason)
    (ha : s.HoldsAlone m r) (hm : (s.lease r).state = .moving) :
    (s.endSession m reason).MoveAbandoned s m r .sessionEnded ∧ ((s.endSession m reason).lease r).state ≠ .moving := by
  obtain ⟨hlease, hstage2⟩ := h.endStage2_moving ha hm
  have hwinds := State.Winds.endStages4And5
    (.foldl_endHold (R := fun _ => True) ((s.endStage1 m).endStage2 m) m fun r (_ : r ∈ allRecords) => trivial) m reason
  have habandoned := (State.abandonMove_abandoned (u := s.endStage1 m) .sessionEnded
    (by rw [hlease]; exact ha.alone)).earlier hlease (State.Rests.endStage1 s m).engine
  rw [← hstage2] at habandoned
  refine ⟨habandoned.later hwinds (.endStages3To5 _ m reason), fun c => ?_⟩
  have hmoving := hwinds.moving r c
  rw [hstage2, State.abandonMove_lease, if_pos rfl] at hmoving
  cases hmoving

end Sys2Proof.Machine
end

section
/-! ### CLOSE and OPEN (R48, R49, R52) -/

namespace Sys2Proof.Machine

/-! #### What an ending and its answer leave -/

/-- The ending, seen from a card on which no lease, no entry and no move has changed since. -/
theorem State.QueueLaw.endSession_ended {s t : State} (h : s.QueueLaw) {m : Master} {reason : EndReason}
    (ht : t.Winds (s.endSession m reason).wakeEngine fun _ => False) (rests : t.Rests (s.endSession m reason).wakeEngine) :
    t.Ended s m ∧ ∀ r, t.PassedOn s m r := by
  have hwinds : t.Winds (s.endSession m reason) fun _ => False := ht.trans (.wakeEngine (.refl _ _))
  have hwithout := State.endSession_without h m reason
  have hhandle : ∀ r, (s.endSession m reason).handle r = s.handle r := (State.Winds.endSession s m reason).handle
  have hvacated : ∀ r, s.HoldsAlone m r → s.NoWaiters (s.handle r) → t.Vacated r (s.lease r) := fun r ha hn =>
    (h.endSession_vacated reason ha hn).later hwinds (hwinds.lease r id)
  refine ⟨⟨hwinds.without hwithout, fun r ha hm => ?_, fun r ha hn => (hvacated r ha hn).idle,
    fun r ha hn => (hvacated r ha hn).freed⟩, fun r => ?_⟩
  · exact (h.endSession_moved reason ha hm).1.wakeEngine.later ht rests
  · exact (h.endSession_passedOn m reason r).later hwithout (hhandle r) (hwinds.mono fun _ => False.elim)

/-- The end of a take is an answer in the mailbox of its master (R154). -/
theorem State.answer_mailbox (s : State) (m : Master) (a : Answer) :
    (s.answer m a).mailbox m = ({ s.mailbox m with
      state := .done, answer := a.code, answer0 := a.word0, answer1 := a.word1 } : Mailbox).raise .done :=
  (s.mailbox_setMailbox m m _).trans (if_pos rfl)

theorem State.answer_answered (s : State) (m : Master) (a : Answer) :
    ((s.answer m a).mailbox m).Answered a.code a.word0 a.word1 := by
  rw [s.answer_mailbox]
  refine ⟨rfl, rfl, rfl, rfl, ?_⟩
  rw [Mailbox.raise_flag]
  exact Bool.or_true _

/-- The answer sets DONE and no other flag (R154). -/
theorem State.answer_flag (s : State) (m : Master) (a : Answer) {i : Nat} (hi : i ≠ 0) :
    ((s.answer m a).mailbox m).events.getLsbD i = (s.mailbox m).events.getLsbD i := by
  rw [s.answer_mailbox, Mailbox.raise_flag, decide_eq_false (show ¬ EventFlag.done.position = i from fun c => hi c.symm),
    Bool.or_false]

theorem State.Winds.answer {s t : State} {R : RecordNo → Prop} (h : t.Winds s R) (m : Master) (a : Answer) :
    (t.answer m a).Winds s R :=
  (h.raise (m := m) (b := { t.mailbox m with
    state := .done, answer := a.code, answer0 := a.word0, answer1 := a.word1 }) (f := .done) (fun e => nomatch e)
    rfl rfl).of_mailboxes rfl rfl rfl rfl rfl

theorem State.Rests.answer (s : State) (m : Master) (a : Answer) : (s.answer m a).Rests s :=
  .trans (t := s.setMailbox m _) (.of_eq rfl rfl) (.setMailbox s rfl)

theorem State.Winds.openSession {s t : State} {R : RecordNo → Prop} (h : t.Winds s R) (m : Master) (term : Nat) :
    (t.openSession m term).Winds s R :=
  h.of_mailboxes rfl rfl rfl rfl rfl

/-- CLOSE and a reopening tell nobody but through the answer (R49, R52, R57). -/
theorem State.endSession_untold (s : State) (m : Master) {reason : EndReason} (hl : reason ≠ .lapsed)
    (he : reason ≠ .evicted) :
    (s.endSession m reason).supervisor = s.supervisor ∧
      ∀ m', ((s.endSession m reason).mailbox m').events.getLsbD 4 = (s.mailbox m').events.getLsbD 4 := by
  have hstages := State.InSession.endStages s m
  have heq : s.endSession m reason =
      ((((s.endStage1 m).endStage2 m).endStage3 m).unbindMaster m).closeSession m reason := by
    unfold State.endSession State.endNotices
    split
    · exact absurd rfl hl
    · exact absurd rfl he
    · rfl
  rw [heq]
  exact ⟨hstages.supervisor, hstages.sessionEnd⟩

theorem State.isOpen_iff_open (s : State) (m : Master) : s.isOpen m = true ↔ s.Open m := by
  unfold State.isOpen State.Open
  exact beq_iff_eq

theorem State.wakeEngine_session (s : State) (m : Master) : s.wakeEngine.session m = s.session m := by
  unfold State.session
  rw [s.wakeEngine_sessions]

theorem State.wakeEngine_mailbox (s : State) (m : Master) : s.wakeEngine.mailbox m = s.mailbox m := by
  unfold State.mailbox
  rw [s.wakeEngine_mailboxes]

/-! #### CLOSE -/

/-- Settles O6: the ending of a session, as its stages leave it, with the answer. -/
theorem closeEndsTheSession : Obligations.CloseEndsTheSession := by
  intro s m htakes hopen law
  have hexec : exec .takeClose s =
      .next ((s.endSession m .closed).wakeEngine.answer m { code := .ok }) := by
    refine (takeRequest_takes htakes closeBody).trans ?_
    unfold closeBody
    rw [if_pos ((s.isOpen_iff_open m).2 hopen)]
  obtain ⟨hended, hpassed⟩ := law.endSession_ended (reason := .closed)
    (State.Winds.answer (.refl _ _) m { code := .ok }) (.answer _ m _)
  have hsession : ∀ m', ((s.endSession m .closed).wakeEngine.answer m { code := .ok }).session m' =
      (s.endSession m .closed).session m' := State.wakeEngine_session _
  have hself := s.endSession_session_self m .closed
  obtain ⟨hsupervisor, hflag⟩ := s.endSession_untold m (reason := .closed) (fun c => nomatch c) (fun c => nomatch c)
  refine ⟨_, hexec, hended, ?_⟩
  rw [hsession, hself]
  refine ⟨rfl, rfl, rfl, rfl, State.answer_answered _ m _, ?_, ?_, hpassed⟩
  · rw [State.answer_flag _ _ _ (by decide), State.wakeEngine_mailbox]
    exact hflag m
  · exact (State.wakeEngine_supervisor _).trans hsupervisor

/-! #### OPEN -/

theorem legalTerm_iff (term : Nat) : legalTerm term = true ↔ 1 ≤ term ∧ term ≤ 4095 := by
  unfold legalTerm
  rw [Bool.and_eq_true, decide_eq_true_eq, decide_eq_true_eq]
  rfl

theorem legalTerm_false {term : Nat} (h : term = 0 ∨ 4095 < term) : legalTerm term = false := by
  rw [Bool.eq_false_iff, ne_eq, legalTerm_iff]
  omega

theorem State.renewIfOpen_open {s : State} {m : Master} (h : s.Open m) : s.renewIfOpen m = s.renewed m :=
  if_pos ((s.isOpen_iff_open m).2 h)

theorem State.renewIfOpen_closed {s : State} {m : Master} (h : ¬ s.Open m) : s.renewIfOpen m = s :=
  if_neg fun c => h ((s.isOpen_iff_open m).1 c)

/-- What OPEN does, by its checks in their order (R48, R49). -/
theorem openBody_denied {s : State} {m : Master} (h : (s.policy m).openAllowed = false) :
    openBody s m = (s.renewIfOpen m, { code := .denied }) := if_pos h

theorem openBody_badArg {s : State} {m : Master} (h : (s.policy m).openAllowed = true)
    (hterm : (s.parameter m).toNat = 0 ∨ 4095 < (s.parameter m).toNat) :
    openBody s m = (s.renewIfOpen m, { code := .badArg }) := by
  unfold openBody
  dsimp only
  rw [if_neg (by rw [h]; decide)]
  exact if_pos (legalTerm_false hterm)

theorem openBody_legal {s : State} {m : Master} (h : (s.policy m).openAllowed = true)
    (h1 : 1 ≤ (s.parameter m).toNat) (h2 : (s.parameter m).toNat ≤ 4095) :
    openBody s m =
      if s.isOpen m then
        (((s.endSession m .reopened).wakeEngine).openSession m (s.parameter m).toNat, { code := .reopened })
      else (s.openSession m (s.parameter m).toNat, { code := .ok }) := by
  unfold openBody
  dsimp only
  rw [if_neg (by rw [h]; decide)]
  refine if_neg ?_
  rw [show (s.mailbox m).openTerm = (s.parameter m).toNat from rfl, (legalTerm_iff _).2 ⟨h1, h2⟩]
  decide

/-- Settles O5: the refused forms and the opening by the checks in their order, the reopening by the ending. -/
theorem openOpensOrReopens : Obligations.OpenOpensOrReopens := by
  refine ⟨fun s m htakes => ?_, fun s m htakes hopen hallowed h1 h2 law => ?_⟩
  · have hexec : exec .takeOpen s = .next ((openBody s m).1.answer m (openBody s m).2) :=
      takeRequest_takes htakes openBody
    rw [hexec]
    refine ⟨fun hd hc => ?_, fun hd ho => ?_, fun ha hterm hc => ?_, fun ha hterm ho => ?_, fun ha h1 h2 hc => ?_⟩
    · rw [openBody_denied hd, State.renewIfOpen_closed hc]; rfl
    · rw [openBody_denied hd, State.renewIfOpen_open ho]; rfl
    · rw [openBody_badArg ha hterm, State.renewIfOpen_closed hc]; rfl
    · rw [openBody_badArg ha hterm, State.renewIfOpen_open ho]; rfl
    · rw [openBody_legal ha h1 h2, if_neg fun c => hc ((s.isOpen_iff_open m).1 c)]; rfl
  · have hexec : exec .takeOpen s = .next (((s.endSession m .reopened).wakeEngine.openSession m
        (s.parameter m).toNat).answer m { code := .reopened }) := by
      refine (takeRequest_takes htakes openBody).trans ?_
      rw [openBody_legal hallowed h1 h2, if_pos ((s.isOpen_iff_open m).2 hopen)]
    obtain ⟨hended, hpassed⟩ := law.endSession_ended (reason := .reopened)
      (((State.Winds.refl _ _).openSession m (s.parameter m).toNat).answer m { code := .reopened })
      ((State.Rests.answer _ m _).trans (.of_eq rfl rfl))
    have hwoken : ∀ m', ((s.endSession m .reopened).wakeEngine).session m' = (s.endSession m .reopened).session m' :=
      State.wakeEngine_session _
    have hself : (((s.endSession m .reopened).wakeEngine.openSession m (s.parameter m).toNat).answer m
        { code := .reopened }).session m = { (s.endSession m .reopened).session m with
          state := .opened, term := some (s.parameter m).toNat, remaining := (s.parameter m).toNat } := by
      rw [← hwoken]
      exact (State.session_setSession _ m m _).trans (if_pos rfl)
    obtain ⟨hsupervisor, hflag⟩ := s.endSession_untold m (reason := .reopened) (fun c => nomatch c) (fun c => nomatch c)
    refine ⟨_, hexec, hended, ?_⟩
    rw [hself, s.endSession_session_self m .reopened]
    refine ⟨rfl, rfl, rfl, rfl, State.answer_answered _ m _, ?_, ?_, fun m' hm' => ?_, hpassed⟩
    · rw [State.answer_flag _ _ _ (by decide)]
      exact (congrArg (fun b : Mailbox => b.events.getLsbD 4) (State.wakeEngine_mailbox _ m)).trans (hflag m)
    · exact (State.wakeEngine_supervisor _).trans hsupervisor
    · have hother : (((s.endSession m .reopened).wakeEngine.openSession m (s.parameter m).toNat).answer m
          { code := .reopened }).session m' = (s.endSession m .reopened).session m' :=
        ((State.session_setSession _ m m' _).trans (if_neg (Ne.symm hm'))).trans (hwoken m')
      rw [hother, s.endSession_session_other (Ne.symm hm')]
      exact ⟨rfl, rfl⟩

end Sys2Proof.Machine
end

section
/-! ### Lapses (R47, R57) -/

namespace Sys2Proof.Machine

/-- The lapses of some masters, one after another, each whole (R47). -/
def State.lapses (s : State) (masters : List Master) : State := masters.foldl (fun u m => u.endSession m .lapsed) s

theorem State.lapses_cons (s : State) (m : Master) (masters : List Master) :
    s.lapses (m :: masters) = (s.endSession m .lapsed).lapses masters := rfl

theorem State.lapses_append (s : State) (before after : List Master) :
    s.lapses (before ++ after) = (s.lapses before).lapses after := List.foldl_append

theorem State.Winds.lapses (s : State) (masters : List Master) : (s.lapses masters).Winds s fun _ => True :=
  List.foldlRecOn (motive := fun u : State => u.Winds s fun _ => True) _ _ (.refl s _) fun u hu m _ =>
    (State.Winds.endSession u m .lapsed).trans hu

/-! #### Sessions, flags and counts -/

/-- The session of a master that does not lapse goes on. -/
theorem State.lapses_session_other {masters : List Master} {m : Master} (s : State) (hm : m ∉ masters) :
    (s.lapses masters).session m = { s.session m with
      ownedLeases := ((s.lapses masters).session m).ownedLeases
      ownedBlocks := ((s.lapses masters).session m).ownedBlocks } := by
  induction masters generalizing s with
  | nil => rfl
  | cons m' rest ih =>
    obtain ⟨hne, hrest⟩ := List.ne_and_not_mem_of_not_mem_cons hm
    rw [State.lapses_cons]
    refine (ih _ hrest).trans ?_
    rw [s.endSession_session_other (Ne.symm hne)]

theorem State.endSession_lapsed_supervisor (s : State) (m : Master) :
    (s.endSession m .lapsed).supervisor = s.supervisor.raise .lapse := by
  have hstages := (State.InSession.endStages s m).supervisor
  exact congrArg (fun x : Supervisor => x.raise .lapse) hstages

/-- LAPSE is set once and stays (R57, R185). -/
theorem State.lapses_supervisor (s : State) {masters : List Master} (h : masters ≠ []) :
    (s.lapses masters).supervisor.flags = s.supervisor.flags ||| 0x01#6 := by
  have hflags : ∀ u m, (State.endSession u m .lapsed).supervisor.flags = u.supervisor.flags ||| 0x01#6 := fun u m =>
    congrArg Supervisor.flags (u.endSession_lapsed_supervisor m)
  have hrest : ∀ (rest : List Master) (u : State),
      (u.lapses rest).supervisor.flags ||| 0x01#6 = u.supervisor.flags ||| 0x01#6 := by
    intro rest
    induction rest with
    | nil => exact fun _ => rfl
    | cons m rest ih =>
      intro u
      rw [State.lapses_cons, ih, hflags, BitVec.or_assoc, BitVec.or_self]
  obtain ⟨m, rest, rfl⟩ := List.exists_cons_of_ne_nil h
  induction rest using List.reverseRecOn with
  | nil => exact hflags s m
  | append_singleton rest m' _ =>
    rw [← List.cons_append, State.lapses_append]
    exact (hflags _ m').trans (hrest (m :: rest) s)

theorem State.lapses_ticks (s : State) (masters : List Master) : (s.lapses masters).ticks = s.ticks :=
  List.foldlRecOn (motive := fun u : State => u.ticks = s.ticks) _ _ rfl fun u hu m _ =>
    (u.endSession_ticks m .lapsed).trans hu

/-- SESSION_END is set for a lapse (R57). -/
theorem State.endSession_lapsed_told (s : State) (m : Master) :
    ((s.endSession m .lapsed).mailbox m).events.getLsbD 4 = true := by
  have hbox : (s.endSession m .lapsed).mailbox m =
      ((((((s.endStage1 m).endStage2 m).endStage3 m).unbindMaster m).closeSession m .lapsed).mailbox m).raise .sessionEnd :=
    (State.mailbox_setMailbox _ m m _).trans (if_pos rfl)
  rw [hbox, Mailbox.raise_flag]
  exact Bool.or_true _

/-! #### One record among several lapses -/

/-- Lapses of masters that neither hold a record nor wait for it leave it alone. -/
theorem State.QueueLaw.lapses_elsewhere {masters : List Master} {r : RecordNo} {s : State} (h : s.QueueLaw)
    (hm : ∀ m ∈ masters, (s.lease r).holders.mem m = false ∧ ∀ e ∈ s.queue, e.handle = s.handle r → e.master ≠ m) :
    (s.lapses masters).Winds s (· ≠ r) := by
  induction masters generalizing s with
  | nil => exact .refl s _
  | cons m rest ih =>
    obtain ⟨hholder, hwaits⟩ := hm m List.mem_cons_self
    have hstep := h.endSession_elsewhere .lapsed hholder hwaits
    have hwinds := State.Winds.endSession s m .lapsed
    refine (ih (hwinds.queueLaw h) fun m' hm' => ?_).trans hstep
    obtain ⟨hholder', hwaits'⟩ := hm m' (List.mem_cons_of_mem m hm')
    rw [hstep.lease r fun c => c rfl, hwinds.handle]
    exact ⟨hholder', fun e he => hwaits' e (hwinds.queue.subset he)⟩

/-- Lapses of masters that hold no MOVING lease end no move and leave the MOVING leases as they are. -/
theorem State.QueueLaw.lapses_rests {masters : List Master} {s : State} (h : s.QueueLaw)
    (hm : ∀ m ∈ masters, ∀ r, (s.lease r).state = .moving → (s.lease r).holders.mem m = false) :
    (s.lapses masters).Rests s ∧ ∀ r, (s.lease r).state = .moving → (s.lapses masters).lease r = s.lease r := by
  induction masters generalizing s with
  | nil => exact ⟨.refl s, fun _ _ => rfl⟩
  | cons m rest ih =>
    have hnot := hm m List.mem_cons_self
    have hwinds := State.Winds.endSession s m .lapsed
    have hlease : ∀ r, (s.lease r).state = .moving → (s.endSession m .lapsed).lease r = s.lease r := fun r hr =>
      ((h.endSession_passedOn m .lapsed r).untouched (hnot r hr) (.inr (.inl hr))).1
    obtain ⟨hrests, hleases⟩ := ih (hwinds.queueLaw h) fun m' hm' r hr => by
      have hmoving := hwinds.moving r hr
      rw [hlease r hmoving]
      exact hm m' (List.mem_cons_of_mem m hm') r hmoving
    refine ⟨hrests.trans (h.endSession_rests .lapsed hnot), fun r hr => ?_⟩
    exact (hleases r (by rw [hlease r hr]; exact hr)).trans (hlease r hr)

/-- A record that one of the lapsing masters alone holds or waits for sees its ending only. -/
theorem State.QueueLaw.lapses_at {s : State} (h : s.QueueLaw) {masters : List Master} (hnodup : masters.Nodup) {m : Master}
    (hmem : m ∈ masters) {r : RecordNo}
    (hothers : ∀ m' ∈ masters, m' ≠ m →
      (s.lease r).holders.mem m' = false ∧ ∀ e ∈ s.queue, e.handle = s.handle r → e.master ≠ m') :
    ∃ u : State, u.QueueLaw ∧ u.Winds s (· ≠ r) ∧ (s.lapses masters).Winds (u.endSession m .lapsed) (· ≠ r) := by
  obtain ⟨before, after, rfl⟩ := List.append_of_mem hmem
  obtain ⟨-, hcons, hdisjoint⟩ := List.nodup_append.1 hnodup
  have hafter := (List.nodup_cons.1 hcons).1
  have hu : (s.lapses before).Winds s (· ≠ r) := h.lapses_elsewhere fun m' hm' =>
    hothers m' (List.mem_append_left _ hm') (hdisjoint m' hm' m List.mem_cons_self)
  have hlaw := hu.queueLaw h
  have hv := State.Winds.endSession (s.lapses before) m .lapsed
  refine ⟨s.lapses before, hlaw, hu, ?_⟩
  rw [State.lapses_append, State.lapses_cons]
  refine (hv.queueLaw hlaw).lapses_elsewhere fun m' hm' => ?_
  obtain ⟨hholder, hwaits⟩ := hothers m' (List.mem_append_right _ (List.mem_cons_of_mem m hm')) fun c => hafter (c ▸ hm')
  have huwaits : ∀ e ∈ (s.lapses before).queue, e.handle = (s.lapses before).handle r → e.master ≠ m' :=
    fun e he hh => hwaits e (hu.queue.subset he) (hh.trans (hu.handle r))
  refine ⟨hv.not_holder huwaits ?_, fun e he hh => huwaits e (hv.queue.subset he) (hh.trans (hv.handle r))⟩
  rw [hu.lease r fun c => c rfl]
  exact hholder

/-- The move of a lease that a lapsing master holds alone is abandoned, whoever else lapses (R55, R124). -/
theorem State.QueueLaw.lapses_moved {s : State} (h : s.QueueLaw) {masters : List Master} (hnodup : masters.Nodup)
    {m : Master} (hmem : m ∈ masters) {r : RecordNo} (ha : s.HoldsAlone m r) (hm : (s.lease r).state = .moving) :
    (s.lapses masters).MoveAbandoned s m r .sessionEnded := by
  obtain ⟨before, after, rfl⟩ := List.append_of_mem hmem
  obtain ⟨-, -, hdisjoint⟩ := List.nodup_append.1 hnodup
  have hone := ha.oneMoving hm
  have hbefore : ∀ m' ∈ before, ∀ r', (s.lease r').state = .moving → (s.lease r').holders.mem m' = false := by
    intro m' hm' r' hr'
    rw [hone r' r hr' hm, ha.alone, MasterSet.mem_single]
    exact decide_eq_false (Ne.symm (hdisjoint m' hm' m List.mem_cons_self))
  obtain ⟨hrests, hleases⟩ := h.lapses_rests hbefore
  have hu := State.Winds.lapses s before
  have hlaw := hu.queueLaw h
  have hlease := hleases r hm
  have hua : (s.lapses before).HoldsAlone m r := by
    refine ⟨.inr ⟨?_, hu.movingLaw hone⟩, ?_⟩ <;> rw [hlease]
    · exact hm
    · exact ha.alone
  have hv := State.Winds.endSession (s.lapses before) m .lapsed
  obtain ⟨habandoned, hstill⟩ := hlaw.endSession_moved .lapsed hua (by rw [hlease]; exact hm)
  have hnone : ∀ r', (((s.lapses before).endSession m .lapsed).lease r').state ≠ .moving := by
    intro r' hr'
    have hmoving := hu.moving r' (hv.moving r' hr')
    exact hstill (hone r' r hmoving hm ▸ hr')
  have hafter := ((hv.queueLaw hlaw).lapses_rests (masters := after) fun m' _ r' hr' => absurd hr' (hnone r')).1
  rw [State.lapses_append, State.lapses_cons]
  exact (habandoned.earlier hlease hrests.engine).later (.lapses _ after) hafter

/-- A lapsing master is left without waits, holds and apertures (R53). -/
theorem State.QueueLaw.lapses_without {s : State} (h : s.QueueLaw) {masters : List Master} {m : Master}
    (hmem : m ∈ masters) : (s.lapses masters).Without m := by
  obtain ⟨before, after, rfl⟩ := List.append_of_mem hmem
  rw [State.lapses_append, State.lapses_cons]
  exact (State.Winds.lapses _ after).without (State.endSession_without ((State.Winds.lapses s before).queueLaw h) m .lapsed)

/-- What the lapses leave of what a lapsing master had (R53, R55, R17). -/
theorem State.QueueLaw.lapses_ended {s : State} (h : s.QueueLaw) {masters : List Master} (hnodup : masters.Nodup)
    {m : Master} (hmem : m ∈ masters) : (s.lapses masters).Ended s m := by
  have hvacated : ∀ r, s.HoldsAlone m r → s.NoWaiters (s.handle r) → (s.lapses masters).Vacated r (s.lease r) := by
    intro r ha hn
    obtain ⟨u, hlaw, hu, ht⟩ := h.lapses_at hnodup hmem (r := r) fun m' _ hne =>
      ⟨by rw [ha.alone, MasterSet.mem_single]; exact decide_eq_false hne.symm, fun e he hh => absurd hh (hn e he)⟩
    have hlease : u.lease r = s.lease r := hu.lease r fun c => c rfl
    have hua : u.HoldsAlone m r := by
      refine ⟨?_, ?_⟩ <;> rw [hlease]
      · exact ha.held.imp_right fun c => ⟨c.1, hu.movingLaw c.2⟩
      · exact ha.alone
    have hv := hlaw.endSession_vacated .lapsed hua fun e he => by rw [hu.handle]; exact hn e (hu.queue.subset he)
    rw [hlease] at hv
    exact hv.later ht (ht.lease r fun c => c rfl)
  exact ⟨h.lapses_without hmem, fun r ha hm => h.lapses_moved hnodup hmem ha hm, fun r ha hn => (hvacated r ha hn).idle,
    fun r ha hn => (hvacated r ha hn).freed⟩

/-- What the lapses leave of a record that no other lapsing master holds or waits for (R54, R56). -/
theorem State.QueueLaw.lapses_passedOn {s : State} (h : s.QueueLaw) {masters : List Master} (hnodup : masters.Nodup)
    {m : Master} (hmem : m ∈ masters) {r : RecordNo}
    (hothers : ∀ m' ∈ masters, m' ≠ m →
      (s.lease r).holders.mem m' = false ∧ ∀ e ∈ s.queue, e.handle = s.handle r → e.master ≠ m') :
    (s.lapses masters).PassedOn s m r := by
  obtain ⟨u, hlaw, hu, ht⟩ := h.lapses_at hnodup hmem hothers
  have hhandle : (u.endSession m .lapsed).handle r = s.handle r :=
    ((State.Winds.endSession u m .lapsed).handle r).trans (hu.handle r)
  exact ((hlaw.endSession_passedOn m .lapsed r).earlier h hu).later (State.endSession_without hlaw m .lapsed) hhandle ht

/-- The session of a lapsing master is closed with end reason LAPSED, keeps its term, and SESSION_END is set (R57). -/
theorem State.lapses_session_self {s : State} {masters : List Master} (hnodup : masters.Nodup) {m : Master}
    (hmem : m ∈ masters) :
    (s.lapses masters).session m = { s.session m with
      state := .closed, remaining := 0, endReason := .lapsed
      ownedLeases := ((s.lapses masters).session m).ownedLeases
      ownedBlocks := ((s.lapses masters).session m).ownedBlocks } ∧
      ((s.lapses masters).mailbox m).events.getLsbD 4 = true := by
  obtain ⟨before, after, rfl⟩ := List.append_of_mem hmem
  obtain ⟨-, hcons, hdisjoint⟩ := List.nodup_append.1 hnodup
  have hafter := (List.nodup_cons.1 hcons).1
  have hbefore : m ∉ before := fun c => hdisjoint m c m List.mem_cons_self rfl
  rw [State.lapses_append, State.lapses_cons]
  refine ⟨?_, (State.Winds.lapses _ after).flags m 4 (State.endSession_lapsed_told _ m)⟩
  refine (State.lapses_session_other _ hafter).trans ?_
  rw [(s.lapses before).endSession_session_self m .lapsed, s.lapses_session_other hbefore]

/-! #### The happening of a tick -/

theorem State.Winds.countSessions (s : State) (R : RecordNo → Prop) : s.countSessions.Winds s R :=
  (State.Winds.refl s R).of_mailboxes rfl rfl rfl rfl rfl

theorem nodup_allMasters : allMasters.Nodup := by decide

theorem State.nodup_lapsing (s : State) : s.lapsing.Nodup := nodup_allMasters.filter _

theorem State.sessionTick_eq {s : State} (h : s.countSessions.lapsing ≠ []) :
    s.sessionTick = (s.countSessions.lapses s.countSessions.lapsing).wakeEngine := if_neg h

/-- The engine, woken, changes nothing of what a master has lost. -/
theorem State.Ended.wakeEngine {s t : State} {m : Master} (h : t.Ended s m) : t.wakeEngine.Ended s m := by
  have hw : t.wakeEngine.Winds t fun _ => False := .wakeEngine (.refl t _)
  refine ⟨hw.without h.toWithout, fun r ha hm => (h.moved r ha hm).wakeEngine, fun r ha hn keep => ?_,
    fun r ha hn keep => ?_⟩
  · exact (hw.lease r id).trans (h.idle r ha hn keep)
  · obtain ⟨hlease, hblocks⟩ := h.freed r ha hn keep
    exact ⟨(hw.lease r id).trans hlease, fun run b hrun h1 h2 hb => hw.scrub b (hblocks run b hrun h1 h2 hb)⟩

/-- The countdown of the sessions comes before any ending and does not show in it. -/
theorem State.Ended.of_countSessions {s t : State} {m : Master} (h : t.Ended s.countSessions m) : t.Ended s m :=
  ⟨h.toWithout, fun r ha hm => (h.moved r ⟨ha.held, ha.alone⟩ hm).earlier rfl rfl,
    fun r ha => h.idle r ⟨ha.held, ha.alone⟩, fun r ha => h.freed r ⟨ha.held, ha.alone⟩⟩

/-- Settles O32: the lapses, one after another, as each master and each record sees them. -/
theorem lapseEndsTheSession : Obligations.LapseEndsTheSession := by
  intro s hdue law hsome
  have hlapsing : ∀ m, s.Open m → (s.session m).remaining = 1 → m ∈ s.countSessions.lapsing := fun m ho h1 =>
    State.mem_lapsing_countSessions.2 ⟨ho, h1.le⟩
  have hne : s.countSessions.lapsing ≠ [] := by
    obtain ⟨m, ho, h1⟩ := hsome
    exact List.ne_nil_of_mem (hlapsing m ho h1)
  have hnodup := s.countSessions.nodup_lapsing
  have hlaw : s.countSessions.QueueLaw := law
  have hwake : ∀ u : State, u.wakeEngine.Winds u fun _ => False := fun u => .wakeEngine (.refl u _)
  refine ⟨(s.countSessions.lapses s.countSessions.lapsing).wakeEngine, ?_, ?_, fun m ho h1 => ?_, fun m ho h2 => ?_,
    fun m r ho h1 hothers => ?_, ?_, ?_⟩
  · rw [← State.sessionTick_eq hne]
    exact if_pos ⟨hdue, hne⟩
  · rw [← State.sessionTick_eq hne]
    exact if_pos hdue
  · have hmem := hlapsing m ho h1
    obtain ⟨hsession, htold⟩ := State.lapses_session_self hnodup hmem
    rw [State.wakeEngine_session, State.wakeEngine_mailbox, hsession, s.countSessions_session,
      Session.countdown_opened ho]
    exact ⟨(hlaw.lapses_ended hnodup hmem).wakeEngine.of_countSessions, rfl, rfl, rfl, rfl, htold⟩
  · have hnot : m ∉ s.countSessions.lapsing := fun c => by
      have := (State.mem_lapsing_countSessions.1 c).2
      omega
    rw [State.wakeEngine_session, State.lapses_session_other _ hnot, s.countSessions_session, Session.countdown_opened ho]
    exact ⟨ho, rfl, rfl⟩
  · have hmem := hlapsing m ho h1
    have hstays : ∀ m' ∈ s.countSessions.lapsing, m' ≠ m →
        (s.lease r).holders.mem m' = false ∧ ∀ e ∈ s.queue, e.handle = s.handle r → e.master ≠ m' := by
      intro m' hm' hmm
      obtain ⟨ho', hle⟩ := State.mem_lapsing_countSessions.1 hm'
      refine ⟨Bool.eq_false_iff.2 fun c => ?_, fun e he hh c => ?_⟩
      · have := hothers m' hmm ho' (.inl c)
        omega
      · have := hothers m' hmm ho' (.inr ⟨e, he, hh, c⟩)
        omega
    have hpassed := (hlaw.lapses_passedOn hnodup hmem (r := r) hstays).earlier law (.countSessions s _)
    exact hpassed.later (hlaw.lapses_without hmem) ((State.Winds.lapses _ _).handle r)
      ((hwake _).mono fun _ => False.elim)
  · rw [State.wakeEngine_supervisor, State.lapses_supervisor _ hne]
    rfl
  · rw [State.wakeEngine_ticks, State.lapses_ticks]
    rfl

end Sys2Proof.Machine
end

section
/-! ### Words made of fields -/

namespace Sys2Proof.Machine

/-- One field of a word lies below another: it starts no higher, and its value does not reach the other's lowest bit. -/
def FieldBelow (f g : Nat × Nat) : Prop := f.2 ≤ g.2 ∧ f.1 * 2 ^ f.2 < 2 ^ g.2

theorem FieldBelow.trans {f g h : Nat × Nat} (hfg : FieldBelow f g) (hgh : FieldBelow g h) : FieldBelow f h :=
  ⟨hfg.1.trans hgh.1, hfg.2.trans_le (Nat.pow_le_pow_right (by omega) hgh.1)⟩

/-- The sum of the fields of a word, each at its place. -/
def fieldSum : List (Nat × Nat) → Nat
  | [] => 0
  | (value, low) :: fields => value * 2 ^ low + fieldSum fields

/-- Fields that all start at a bit or above it add up to a multiple of that bit. -/
theorem two_pow_dvd_fieldSum {k : Nat} {fields : List (Nat × Nat)} (h : ∀ f ∈ fields, k ≤ f.2) :
    2 ^ k ∣ fieldSum fields := by
  induction fields with
  | nil => exact dvd_zero _
  | cons f rest ih =>
    obtain ⟨hf, hrest⟩ := List.forall_mem_cons.1 h
    exact dvd_add ((pow_dvd_pow 2 hf).mul_left _) (ih hrest)

/-- A word whose fields stand one above another is the sum of its fields. -/
theorem packWord_eq_fieldSum {fields : List (Nat × Nat)} (h : fields.IsChain FieldBelow) :
    packWord fields = BitVec.ofNat 32 (fieldSum fields) := by
  have : Trans FieldBelow FieldBelow FieldBelow := ⟨FieldBelow.trans⟩
  replace h := h.pairwise
  induction fields with
  | nil => rfl
  | cons f rest ih =>
    obtain ⟨hbelow, hrest⟩ := List.pairwise_cons.1 h
    obtain ⟨k, hk⟩ := two_pow_dvd_fieldSum fun g hg => Nat.size_le.2 (hbelow g hg).2
    have hor := Nat.two_pow_add_eq_or_of_lt (Nat.lt_size_self (f.1 * 2 ^ f.2)) k
    rw [packWord, ih hrest, ← BitVec.ofNat_or, fieldSum, hk, Nat.or_comm, ← hor, Nat.add_comm]

theorem LeaseState.code_lt (x : LeaseState) : x.code < 4 := by cases x <;> decide

theorem modeCode_lt (x : Option Mode) : modeCode x < 4 := by
  rcases x with _ | _ | _ <;> decide

theorem boolCode_le (b : Bool) : boolCode b ≤ 1 := by cases b <;> decide

theorem boolCode_mul (b : Bool) (n : Nat) : boolCode b * n = if b then n else 0 := by
  cases b
  · exact Nat.zero_mul n
  · exact Nat.one_mul n

theorem directionCode_mul (dir : Direction) (n : Nat) :
    directionCode (some dir) * n = if dir = .down then n else 0 := by
  cases dir
  · exact Nat.zero_mul n
  · exact Nat.one_mul n

theorem directionCode_le (dir : Option Direction) : directionCode dir ≤ 1 := by
  rcases dir with _ | _ | _ <;> decide

/-- ANSWER1 of FIND by its fields (10.2.4). -/
theorem Lease.findWord_eq {l : Lease} {owner : Master} (ho : l.owner = some owner) :
    l.findWord = BitVec.ofNat 32 (l.tag.toNat + owner.val * 2 ^ 16 + l.state.code * 2 ^ 24) := by
  have htag := l.tag.isLt
  have howner := owner.isLt
  have howned : masterCode l.owner = owner.val := by rw [ho]; rfl
  refine (packWord_eq_fieldSum ?_).trans (congrArg (BitVec.ofNat 32) ?_)
  · simp only [List.isChain_cons_cons, List.isChain_singleton, FieldBelow, and_true, howned]
    omega
  · simp only [fieldSum, howned]
    omega

/-- ANSWER0 of QUERY by its fields (10.2.4). -/
theorem Lease.queryWord0_eq {l : Lease} {run : Run} {owner : Master} {dir : Direction} (hr : l.run = some run)
    (hlen : run.len ≤ 256) (ho : l.owner = some owner) (hd : l.direction = some dir) :
    l.queryWord0 = BitVec.ofNat 32 (l.holders.toNat + l.state.code * 2 ^ 12 + modeCode l.mode * 2 ^ 14 +
      owner.val * 2 ^ 16 + run.len * 2 ^ 20 + (if dir = .down then 2 ^ 29 else 0) + (if l.keep then 2 ^ 30 else 0) +
      (if l.isPublic then 2 ^ 31 else 0)) := by
  have hholders := l.holders.isLt
  have hstate := l.state.code_lt
  have hmode := modeCode_lt l.mode
  have howner := owner.isLt
  have hdir := directionCode_le (some dir)
  have hkeep := boolCode_le l.keep
  have howned : masterCode l.owner = owner.val := by rw [ho]; rfl
  have hlength : l.length = run.len := by unfold Lease.length; rw [hr]
  rw [← directionCode_mul, ← boolCode_mul, ← boolCode_mul]
  refine (packWord_eq_fieldSum ?_).trans (congrArg (BitVec.ofNat 32) ?_)
  · simp only [List.isChain_cons_cons, List.isChain_singleton, FieldBelow, and_true, howned, hlength, hd]
    omega
  · simp only [fieldSum, howned, hlength, hd]
    omega

/-- ANSWER1 of QUERY by its fields (10.2.4). -/
theorem Lease.queryWord1_eq (l : Lease) (waiters : Nat) :
    l.queryWord1 waiters =
      BitVec.ofNat 32 (l.tag.toNat + (if l.written then 2 ^ 16 else 0) + waiters * 2 ^ 20) := by
  have htag := l.tag.isLt
  have hwritten := boolCode_le l.written
  rw [← boolCode_mul]
  refine (packWord_eq_fieldSum ?_).trans (congrArg (BitVec.ofNat 32) ?_)
  · simp only [List.isChain_cons_cons, List.isChain_singleton, FieldBelow, and_true]
    omega
  · simp only [fieldSum]
    omega

end Sys2Proof.Machine
end

section
/-! ### Answers of takes, and searches through the records -/

namespace Sys2Proof.Machine

open Host (Outcome)

/-- A request of an open session that is carried out to a card and an answer leaves that card with the answer. -/
theorem takeRequest_answers {s t : State} {m : Master} {q : Request} {carryOut : State → Master → State × Answer}
    {a : Answer} (h : s.Takes m q) (ho : s.Open m) (hc : carryOut (s.renewed m) m = (t, a)) :
    takeRequest q (withSession carryOut) s = .next (t.done m a.code a.word0 a.word1) := by
  rw [takeRequest_takes h, withSession_open ho, hc]
  rfl

/-- The same of a request on a record. -/
theorem takeRequest_answersOn {s t : State} {m : Master} {q : Request} {r : RecordNo}
    {carryOut : State → Master → RecordNo → State × Answer} {a : Answer} (h : s.TakesOn m q r)
    (hc : carryOut (s.renewed m) m r = (t, a)) :
    takeRequest q (withSession (withLease carryOut)) s = .next (t.done m a.code a.word0 a.word1) := by
  rw [takeRequest_takesOn h, hc]
  rfl

theorem State.renewed_session_self (s : State) (m : Master) : (s.renewed m).session m = s.renewedSession m :=
  Table.get_set_self _ _ _

theorem State.answer_mailbox_other (s : State) {m m' : Master} (h : m' ≠ m) (a : Answer) :
    (s.answer m a).mailbox m' = s.mailbox m' :=
  (s.mailbox_setMailbox m m' _).trans (if_neg h.symm)

/-- An answer leaves every wait record as it was, and every flag but DONE (R154). -/
theorem State.answer_waitRecord (s : State) (m m' : Master) (a : Answer) :
    ((s.answer m a).mailbox m').waitRecord = (s.mailbox m').waitRecord := by
  by_cases h : m' = m
  · subst h
    rw [s.answer_mailbox]
    rfl
  · rw [s.answer_mailbox_other h]

theorem State.answer_flags (s : State) (m m' : Master) (a : Answer) {i : Nat} (hi : i ≠ 0) :
    ((s.answer m a).mailbox m').events.getLsbD i = (s.mailbox m').events.getLsbD i := by
  by_cases h : m' = m
  · subst h
    exact s.answer_flag m' a hi
  · rw [s.answer_mailbox_other h]

/-- The search through the records stops at the lowest-numbered one that passes the test. -/
theorem find?_allRecords_eq_some {p : RecordNo → Bool} {r : RecordNo} (hr : p r = true)
    (first : ∀ r' : RecordNo, r'.val < r.val → p r' = false) : allRecords.find? p = some r := by
  have hlist : allRecords = List.finRange 40 := rfl
  rw [hlist, List.find?_eq_some_iff_getElem]
  refine ⟨hr, r.val, by simp, by simp, fun j hj => ?_⟩
  simpa using first ⟨j, by omega⟩ hj

theorem find?_allRecords_eq_none {p : RecordNo → Bool} (h : ∀ r, p r = false) : allRecords.find? p = none :=
  List.find?_eq_none.2 fun r _ => by rw [h r]; decide

end Sys2Proof.Machine
end

section
/-! ### FIND, QUERY and MARK (R71 to R78) -/

namespace Sys2Proof.Machine

/-! #### FIND -/

theorem Lease.matchesTag_iff (l : Lease) (pattern mask : BitVec 16) :
    l.matchesTag pattern mask = true ↔ l.state ≠ .free ∧ l.tag &&& mask = pattern &&& mask := by
  unfold Lease.matchesTag
  rw [Bool.and_eq_true, bne_iff_ne, beq_iff_eq]

theorem State.findRecord_eq_some {s : State} {pattern mask : BitVec 16} {start : Nat} {r : RecordNo}
    (hstart : start ≤ r.val) (hr : (s.lease r).matchesTag pattern mask = true)
    (first : ∀ r' : RecordNo, start ≤ r'.val → r'.val < r.val → (s.lease r').matchesTag pattern mask = false) :
    s.findRecord pattern mask start = some r := by
  refine find?_allRecords_eq_some (by rw [hr, decide_eq_true hstart]; rfl) fun r' hlt => ?_
  by_cases hs : start ≤ r'.val
  · rw [first r' hs hlt, Bool.and_false]
  · rw [decide_eq_false hs, Bool.false_and]

theorem State.findRecord_eq_none {s : State} {pattern mask : BitVec 16} {start : Nat}
    (h : ∀ r' : RecordNo, start ≤ r'.val → (s.lease r').matchesTag pattern mask = false) :
    s.findRecord pattern mask start = none := by
  refine find?_allRecords_eq_none fun r' => ?_
  by_cases hs : start ≤ r'.val
  · rw [h r' hs, Bool.and_false]
  · rw [decide_eq_false hs, Bool.false_and]

/-- What FIND does, by its cases (R71, R72). -/
theorem findBody_badArg {s : State} {m : Master} (h : 39 < (s.mailbox m).startField) :
    findBody s m = (s, { code := .badArg }) := if_pos h

theorem findBody_found {s : State} {m : Master} {r : RecordNo} (h : (s.mailbox m).startField ≤ 39)
    (hr : s.findRecord (s.parameter m) (s.mailbox m).maskField (s.mailbox m).startField = some r) :
    findBody s m = (s, { code := .ok, word0 := handleWord (s.handle r), word1 := (s.lease r).findWord }) := by
  refine (if_neg (Nat.not_lt.2 h)).trans ?_
  rw [show s.findRecord (s.mailbox m).parameter (s.mailbox m).maskField (s.mailbox m).startField = some r from hr]

theorem findBody_notFound {s : State} {m : Master} (h : (s.mailbox m).startField ≤ 39)
    (hr : s.findRecord (s.parameter m) (s.mailbox m).maskField (s.mailbox m).startField = none) :
    findBody s m = (s, { code := .notFound }) := by
  refine (if_neg (Nat.not_lt.2 h)).trans ?_
  rw [show s.findRecord (s.mailbox m).parameter (s.mailbox m).maskField (s.mailbox m).startField = none from hr]

/-- Settles O9: the start record is checked, and the search through the records from it on decides the answer. -/
theorem findAnswersTheFirstMatch : Obligations.FindAnswersTheFirstMatch := by
  rintro s m _ _ htakes hopen rfl rfl
  have differs : ∀ r' : RecordNo, ((s.lease r').state ≠ .free →
      (s.lease r').tag &&& (s.mailbox m).maskField ≠ s.parameter m &&& (s.mailbox m).maskField) →
      (s.lease r').matchesTag (s.parameter m) (s.mailbox m).maskField = false := fun r' h =>
    Bool.eq_false_iff.2 fun c => h ((Lease.matchesTag_iff ..).1 c).1 ((Lease.matchesTag_iff ..).1 c).2
  refine ⟨fun hstart => takeRequest_answers htakes hopen (findBody_badArg hstart), fun hstart => ⟨?_, fun hnone => ?_⟩⟩
  · intro r hr hlive htag first owner howner
    have hfound : s.findRecord (s.parameter m) (s.mailbox m).maskField (s.mailbox m).startField = some r :=
      State.findRecord_eq_some hr ((Lease.matchesTag_iff ..).2 ⟨hlive, htag⟩) fun r' h1 h2 =>
        differs r' (first r' h1 h2)
    rw [← Lease.findWord_eq howner]
    exact takeRequest_answers htakes hopen (findBody_found hstart hfound)
  · have hmissed : s.findRecord (s.parameter m) (s.mailbox m).maskField (s.mailbox m).startField = none :=
      State.findRecord_eq_none fun r' h => differs r' (hnone r' h)
    exact takeRequest_answers htakes hopen (findBody_notFound hstart hmissed)

/-! #### QUERY -/

/-- Settles O10: the two answer words of the record, by their fields. -/
theorem queryReportsTheRecord : Obligations.QueryReportsTheRecord := by
  intro s m r run owner dir htakes hrun hlen howner hdir _
  have hwaiters : s.waiterCount r = (s.queue.filter fun e => e.handle == s.parameter m).length := by
    unfold State.waiterCount State.entriesFor
    rw [htakes.names.handle]
  rw [← Lease.queryWord0_eq hrun hlen howner hdir, ← hwaiters, ← Lease.queryWord1_eq]
  exact takeRequest_answersOn htakes (carryOut := queryBody) rfl

/-! #### MARK -/

theorem Lease.heldExclusiveBy_iff (l : Lease) (m : Master) :
    l.heldExclusiveBy m = true ↔ l.holders.mem m = true ∧ l.mode = some .exclusive := by
  unfold Lease.heldExclusiveBy
  rw [Bool.and_eq_true, beq_iff_eq]

/-- What MARK does, by its cases (R77, R78). -/
theorem markBody_notHolder {s : State} {m : Master} {r : RecordNo}
    (h : ¬ ((s.lease r).holders.mem m = true ∧ (s.lease r).mode = some .exclusive)) :
    markBody s m r = (s, { code := .notHolder }) :=
  if_pos (Bool.eq_false_iff.2 fun c => h ((Lease.heldExclusiveBy_iff ..).1 c))

theorem markBody_busy {s : State} {m : Master} {r : RecordNo} (hm : (s.lease r).holders.mem m = true)
    (he : (s.lease r).mode = some .exclusive) (h : (s.lease r).state = .moving) :
    markBody s m r = (s, { code := .busy }) := by
  refine (if_neg ?_).trans (if_pos h)
  rw [(Lease.heldExclusiveBy_iff ..).2 ⟨hm, he⟩]
  decide

theorem markBody_ok {s : State} {m : Master} {r : RecordNo} (hm : (s.lease r).holders.mem m = true)
    (he : (s.lease r).mode = some .exclusive) (h : (s.lease r).state ≠ .moving) :
    markBody s m r = (s.setLease r { s.lease r with written := false },
      { code := .ok, word0 := numberWord (boolCode (s.lease r).written) }) := by
  refine (if_neg ?_).trans (if_neg h)
  rw [(Lease.heldExclusiveBy_iff ..).2 ⟨hm, he⟩]
  decide

theorem numberWord_boolCode (b : Bool) : numberWord (boolCode b) = if b then 1 else 0 := by cases b <;> rfl

/-- Settles O11: the two checks of MARK, and the written flag told and cleared. -/
theorem markReportsAndClearsWritten : Obligations.MarkReportsAndClearsWritten := by
  intro s m r htakes
  refine ⟨fun hnot => takeRequest_answersOn htakes (markBody_notHolder hnot), fun hm he => ⟨fun hmoving => ?_,
    fun hstill => ?_⟩⟩
  · exact takeRequest_answersOn htakes (markBody_busy hm he hmoving)
  · rw [← numberWord_boolCode]
    exact takeRequest_answersOn htakes (markBody_ok hm he hstill)

end Sys2Proof.Machine
end

section
/-! ### CREATE (R64 to R69) -/

namespace Sys2Proof.Machine

/-! #### The record and the tag -/

theorem State.firstFree_eq_some {s : State} {r : RecordNo} (hr : (s.lease r).state = .free)
    (first : ∀ r' : RecordNo, r'.val < r.val → (s.lease r').state ≠ .free) : s.firstFree = some r :=
  find?_allRecords_eq_some (beq_iff_eq.2 hr) fun r' h => beq_eq_false_iff_ne.2 (first r' h)

theorem State.firstFree_eq_none {s : State} (h : ∀ r, (s.lease r).state ≠ .free) : s.firstFree = none :=
  find?_allRecords_eq_none fun r => beq_eq_false_iff_ne.2 (h r)

theorem State.exists_firstFree {s : State} (h : ∃ r, (s.lease r).state = .free) : ∃ r, s.firstFree = some r := by
  obtain ⟨r, hr⟩ := h
  exact Option.isSome_iff_exists.1 (List.find?_isSome.2 ⟨r, mem_allRecords r, beq_iff_eq.2 hr⟩)

/-- A tag of 0, or on no live record, passes CREATE's check (R66). -/
theorem State.tagConflict_eq_none {s : State} {tag : BitVec 16}
    (h : tag = 0 ∨ ∀ r', (s.lease r').state ≠ .free → (s.lease r').tag ≠ tag) : s.tagConflict tag = none := by
  unfold State.tagConflict
  split
  · rfl
  · next h0 =>
    refine find?_allRecords_eq_none fun r => Bool.eq_false_iff.2 fun c => ?_
    rw [Bool.and_eq_true, bne_iff_ne, beq_iff_eq] at c
    exact (h.resolve_left h0) r c.1 c.2

/-- A nonzero tag on a live record is on that one alone (R6), so CREATE conflicts with it (R66). -/
theorem State.TagLaw.tagConflict_eq_some {s : State} (law : s.TagLaw) {tag : BitVec 16} {r : RecordNo} (h0 : tag ≠ 0)
    (hlive : (s.lease r).state ≠ .free) (htag : (s.lease r).tag = tag) : s.tagConflict tag = some r := by
  unfold State.tagConflict State.recordWithTag
  rw [if_neg h0]
  refine find?_allRecords_eq_some ?_ fun r' hlt => Bool.eq_false_iff.2 fun c => ?_
  · rw [Bool.and_eq_true, bne_iff_ne, beq_iff_eq]
    exact ⟨hlive, htag⟩
  · rw [Bool.and_eq_true, bne_iff_ne, beq_iff_eq] at c
    have heq : r = r' := law.2 r r' hlive c.1 (htag.trans c.2.symm) (htag ▸ h0)
    exact absurd (congrArg Fin.val heq) (by omega)

/-! #### The quotas of a renewed session -/

theorem State.leaseQuotaRefuses_renewed (s : State) (m : Master) :
    (s.renewed m).leaseQuotaRefuses m = decide ((s.policy m).leaseQuota < (s.session m).ownedLeases + 1) := by
  unfold State.leaseQuotaRefuses
  rw [s.renewed_session_self]
  rfl

theorem State.blockQuotaRefuses_renewed (s : State) (m : Master) (more : Nat) :
    (s.renewed m).blockQuotaRefuses m more = decide ((s.policy m).blockQuota < s.committedBlocks m + more) := by
  unfold State.blockQuotaRefuses State.committedBlocks
  rw [s.renewed_session_self]
  rfl

/-! #### The first-fit search (R28) -/

/-- The search from below finds a base no higher than any that fits. -/
theorem lowestFit_le {l : List BlockState} {len : Nat} (hlen : 1 ≤ len) (base : Nat) {i : Nat}
    (hi : freePrefix (l.drop i) len = true) : ∃ b, lowestFit l len base = some b ∧ b ≤ base + i := by
  induction l generalizing base i with
  | nil =>
    rw [List.drop_nil] at hi
    exact absurd ((freePrefix_iff _ _).1 hi 0 hlen) (by simp)
  | cons a as ih =>
    rw [lowestFit]
    split
    · exact ⟨base, rfl, Nat.le_add_right _ _⟩
    · next hno =>
      cases i with
      | zero => exact absurd hi hno
      | succ i =>
        obtain ⟨b, hb, hle⟩ := ih (base + 1) hi
        exact ⟨b, hb, by omega⟩

/-- The search from above finds a base no lower than any that fits. -/
theorem highestFit_ge {l : List BlockState} {len : Nat} (hlen : 1 ≤ len) (base : Nat) {i : Nat}
    (hi : freePrefix (l.drop i) len = true) : ∃ b, highestFit l len base = some b ∧ base + i ≤ b := by
  induction l generalizing base i with
  | nil =>
    rw [List.drop_nil] at hi
    exact absurd ((freePrefix_iff _ _).1 hi 0 hlen) (by simp)
  | cons a as ih =>
    rw [highestFit]
    cases i with
    | zero =>
      split
      · next b hb =>
        obtain ⟨k, hk, -⟩ := highestFit_fits hb
        exact ⟨b, rfl, by omega⟩
      · exact ⟨base, if_pos hi, le_rfl⟩
    | succ i =>
      obtain ⟨b, hb, hle⟩ := ih (base + 1) hi
      rw [hb]
      exact ⟨b, rfl, by omega⟩

/-- A run fits where the pool calls all its blocks FREE. -/
theorem State.fits_iff {s : State} {base len : Nat} (hlen : 1 ≤ len) :
    s.Fits base len ↔ s.pool.allFree { base := base, len := len } = true :=
  ⟨fun h => (Pool.allFree_iff ..).2 h.2, fun h => ⟨Pool.allFree_le h hlen, (Pool.allFree_iff ..).1 h⟩⟩

/-- The first-fit search finds the base that R28 chooses. -/
theorem State.Chosen.findRun {s : State} {dir : Direction} {len base : Nat} (h : s.Chosen dir len base)
    (hlen : 1 ≤ len) : s.pool.findRun dir len = some { base := base, len := len } := by
  obtain ⟨hfits, hbest⟩ := h
  have hfree : freePrefix (s.pool.map.list.drop base) len = true := (State.fits_iff hlen).1 hfits
  cases dir with
  | up =>
    obtain ⟨b, hb, hle⟩ := lowestFit_le hlen 0 hfree
    obtain ⟨k, hk, hkfree⟩ := lowestFit_fits hb
    have hge := hbest k ((State.fits_iff hlen).2 hkfree)
    exact Option.map_eq_some_iff.2 ⟨b, hb, by rw [show b = base by omega]⟩
  | down =>
    obtain ⟨b, hb, hge⟩ := highestFit_ge hlen 0 hfree
    obtain ⟨k, hk, hkfree⟩ := highestFit_fits hb
    have hle := hbest k ((State.fits_iff hlen).2 hkfree)
    exact Option.map_eq_some_iff.2 ⟨b, hb, by rw [show b = base by omega]⟩

theorem State.findRun_eq_none {s : State} {len : Nat} (hlen : 1 ≤ len) (h : ∀ base, ¬ s.Fits base len)
    (dir : Direction) : s.pool.findRun dir len = none := by
  refine Option.eq_none_iff_forall_ne_some.2 fun run hrun => ?_
  obtain ⟨rfl, hfree⟩ := Pool.findRun_fits hrun
  exact h run.base ((State.fits_iff hlen).2 hfree)

/-! #### The checks, in their order -/

section checks

variable {s : State} {m : Master} {r : RecordNo}

theorem createBody_noRecord (hr : s.firstFree = none) :
    createBody s m = (s.raiseSupervisor .tableFull, { code := .noRecord }) := by
  simp only [createBody, hr]

theorem createBody_conflict {other : RecordNo} (hr : s.firstFree = some r)
    (ht : s.tagConflict (s.mailbox m).parameter = some other) :
    createBody s m = (s, { code := .conflict, word0 := handleWord (s.handle other) }) := by
  simp only [createBody, hr, ht]

variable (hr : s.firstFree = some r) (ht : s.tagConflict (s.mailbox m).parameter = none)
include hr ht

theorem createBody_badArg (hlen : legalLength (s.mailbox m).lengthField = false) :
    createBody s m = (s, { code := .badArg }) := by
  simp only [createBody, hr, ht, hlen, if_true]

variable (hlen : legalLength (s.mailbox m).lengthField = true)
include hlen

theorem createBody_leaseQuota (hq : s.leaseQuotaRefuses m = true) :
    createBody s m = (s, { code := .quota, word1 := numberWord 1 }) := by
  simp only [createBody, hr, ht, hlen, hq, Bool.true_eq_false, if_false, if_true]

variable (hq : s.leaseQuotaRefuses m = false)
include hq

theorem createBody_blockQuota (hb : s.blockQuotaRefuses m (s.mailbox m).lengthField = true) :
    createBody s m = (s, { code := .quota, word1 := numberWord 2 }) := by
  simp only [createBody, hr, ht, hlen, hq, hb, Bool.true_eq_false, Bool.false_eq_true, if_false, if_true]

variable (hb : s.blockQuotaRefuses m (s.mailbox m).lengthField = false)
include hb

theorem createBody_noSpace (hrun : s.pool.findRun (s.mailbox m).directionField (s.mailbox m).lengthField = none) :
    createBody s m = (s, { code := .noSpace, word1 := numberWord s.pool.scrubCount }) := by
  simp only [createBody, hr, ht, hlen, hq, hb, hrun, Bool.true_eq_false, Bool.false_eq_true, if_false]

theorem createBody_ok {run : Run}
    (hrun : s.pool.findRun (s.mailbox m).directionField (s.mailbox m).lengthField = some run) :
    createBody s m = (s.createLease m r run,
      { code := .ok, word0 := handleWord (handleOf (nextGeneration (s.lease r).generation) r) }) := by
  simp only [createBody, hr, ht, hlen, hq, hb, hrun, Bool.true_eq_false, Bool.false_eq_true, if_false]

end checks

/-- Settles O8: each check fails with its own answer once those before it have passed. -/
theorem createChecksInOrder : Obligations.CreateChecksInOrder := by
  rintro s m _ htakes hopen rfl
  refine ⟨fun hfull => takeRequest_answers htakes hopen (createBody_noRecord (State.firstFree_eq_none hfull)),
    fun hfree => ?_⟩
  obtain ⟨r, hr⟩ := State.exists_firstFree hfree
  have hrenewed : (s.renewed m).firstFree = some r := hr
  refine ⟨fun other h0 hlive htag law => ?_, fun htag => ?_⟩
  · have hconflict : (s.renewed m).tagConflict ((s.renewed m).mailbox m).parameter = some other :=
      law.tagConflict_eq_some h0 hlive htag
    exact takeRequest_answers htakes hopen (createBody_conflict hrenewed hconflict)
  have huntagged : (s.renewed m).tagConflict ((s.renewed m).mailbox m).parameter = none :=
    State.tagConflict_eq_none htag
  refine ⟨fun hbad => ?_, fun h1 h256 => ?_⟩
  · have hillegal : legalLength (s.mailbox m).lengthField = false := Bool.eq_false_iff.2 fun c => by
      have hlegal : 1 ≤ ((s.mailbox m).param1.extractLsb' 0 9).toNat ∧
        ((s.mailbox m).param1.extractLsb' 0 9).toNat ≤ 256 := (legalLength_iff _).1 c
      omega
    exact takeRequest_answers htakes hopen (createBody_badArg hrenewed huntagged hillegal)
  have hlegal : legalLength ((s.renewed m).mailbox m).lengthField = true := (legalLength_iff _).2 ⟨h1, h256⟩
  refine ⟨fun hover => ?_, fun hwithin => ⟨fun hover => ?_, fun hblocks hnone => ?_⟩⟩
  · have hrefuses := (s.leaseQuotaRefuses_renewed m).trans (decide_eq_true hover)
    exact takeRequest_answers htakes hopen (createBody_leaseQuota hrenewed huntagged hlegal hrefuses)
  · have hleases := (s.leaseQuotaRefuses_renewed m).trans (decide_eq_false (Nat.not_lt.2 hwithin))
    have hrefuses := (s.blockQuotaRefuses_renewed m _).trans (decide_eq_true hover)
    exact takeRequest_answers htakes hopen (createBody_blockQuota hrenewed huntagged hlegal hleases hrefuses)
  · have hleases := (s.leaseQuotaRefuses_renewed m).trans (decide_eq_false (Nat.not_lt.2 hwithin))
    have hallowed := (s.blockQuotaRefuses_renewed m _).trans (decide_eq_false (Nat.not_lt.2 hblocks))
    have hrun := State.findRun_eq_none h1 hnone (s.mailbox m).directionField
    exact takeRequest_answers htakes hopen (createBody_noSpace hrenewed huntagged hlegal hleases hallowed hrun)

/-! #### The lease made -/

/-- The supervisor once a run of FREE blocks has been given away: POOL_LOW is set as the FREE count falls below the
watermark (R29, R41). -/
theorem State.allocate_eq (s : State) (run : Run) (x : BlockState) : s.allocate run x =
    { s with
      pool := s.pool.allocate run x
      supervisor :=
        if s.pool.watermark ≤ s.pool.freeCount ∧ s.pool.freeCount - run.len < s.pool.watermark then
          { s.supervisor with flags := s.supervisor.flags ||| 0x02#6 }
        else s.supervisor } := by
  have hcross : s.pool.crossesWatermark (s.pool.allocate run x) = true ↔
      s.pool.watermark ≤ s.pool.freeCount ∧ s.pool.freeCount - run.len < s.pool.watermark := by
    unfold Pool.crossesWatermark
    rw [Bool.and_eq_true, decide_eq_true_eq, decide_eq_true_eq]
    rfl
  unfold State.allocate
  by_cases h : s.pool.watermark ≤ s.pool.freeCount ∧ s.pool.freeCount - run.len < s.pool.watermark
  · rw [if_pos h]
    exact if_pos (hcross.2 h)
  · rw [if_neg h]
    exact if_neg fun c => h (hcross.1 c)

theorem handleWord_handleOf (generation : Fin 1024) (r : RecordNo) :
    handleWord (handleOf generation r) = BitVec.ofNat 32 (generation.val * 64 + r.val) := by
  apply BitVec.eq_of_toNat_eq
  unfold handleWord
  rw [BitVec.toNat_setWidth, handleOf_toNat, BitVec.toNat_ofNat]

/-- What CREATE changes when it makes a lease (R69). -/
theorem State.createLease_eq (s : State) (m : Master) (r : RecordNo) (run : Run) : s.createLease m r run =
    { s with
      leases := s.leases.set r ((s.lease r).created m (s.mailbox m) run)
      sessions := s.sessions.set m { s.session m with
        ownedLeases := (s.session m).ownedLeases + 1, ownedBlocks := (s.session m).ownedBlocks + run.len }
      pool := s.pool.allocate run (.run r)
      supervisor :=
        if s.pool.watermark ≤ s.pool.freeCount ∧ s.pool.freeCount - run.len < s.pool.watermark then
          { s.supervisor with flags := s.supervisor.flags ||| 0x02#6 }
        else s.supervisor } := by
  unfold State.createLease
  rw [State.allocate_eq]
  rfl

/-- A session that is renewed and then stored anew. -/
theorem State.renewed_sessions_set (s : State) (m : Master) (x : Session) :
    (s.renewed m).sessions.set m x = s.sessions.set m x := Table.set_set _ _ _ _

/-- Settles O7: all the checks pass, and the lease is made on the lowest FREE record over the run the search chooses. -/
theorem createMakesTheLease : Obligations.CreateMakesTheLease := by
  rintro s m r g _ base _ htakes hopen hfree first htag rfl h1 h256 rfl hleases hblocks hchosen hg
  have hrenewed : (s.renewed m).firstFree = some r := State.firstFree_eq_some hfree first
  have huntagged : (s.renewed m).tagConflict ((s.renewed m).mailbox m).parameter = none :=
    State.tagConflict_eq_none htag
  have hlegal : legalLength ((s.renewed m).mailbox m).lengthField = true := (legalLength_iff _).2 ⟨h1, h256⟩
  have hquota := (s.leaseQuotaRefuses_renewed m).trans (decide_eq_false (Nat.not_lt.2 hleases))
  have hallowed := (s.blockQuotaRefuses_renewed m _).trans (decide_eq_false (Nat.not_lt.2 hblocks))
  have hrun := hchosen.findRun h1
  have hgeneration : nextGeneration (s.lease r).generation = g := Fin.ext ((nextGeneration_val _).trans hg.symm)
  have hbody := createBody_ok hrenewed huntagged hlegal hquota hallowed hrun
  rw [State.createLease_eq, s.renewed_session_self, s.renewed_sessions_set, handleWord_handleOf] at hbody
  rw [← hgeneration]
  exact takeRequest_answers htakes hopen hbody

end Sys2Proof.Machine
end

section
/-! ### RETIRE (R79, R80) -/

namespace Sys2Proof.Machine

/-! #### Waits that end together (R104, R105) -/

/-- The waits of some entries end, each with a record of its own (R104). -/
def State.endWaits (s : State) (record : WaitEntry → WaitRecord) (entries : List WaitEntry) : State :=
  entries.foldl (fun u e => u.endWait e.master (record e)) s

/-- The record of a wait for a lease that is retired (R105). -/
def withdrawal (h : Handle) (e : WaitEntry) : WaitRecord :=
  { handle := h, mode := some e.kind.mode, result := some .withdrawn }

theorem State.withdrawWaiters_eq (s : State) (h : Handle) : s.withdrawWaiters h =
    (s.endWaits (withdrawal h) (s.entriesFor h)).setQueue (s.queue.filter fun e => e.handle != h) := rfl

section endWaits

variable (record : WaitEntry → WaitRecord)

/-- Ended waits are told in the mailboxes, and change nothing else. -/
theorem State.endWaits_frame (s : State) (entries : List WaitEntry) :
    ∃ boxes, s.endWaits record entries = { s with mailboxes := boxes } :=
  foldl_mailboxes _ (fun _ _ => ⟨_, rfl⟩) entries s

/-- The masters whose waits do not end are told nothing. -/
theorem State.endWaits_other (s : State) {entries : List WaitEntry} {m : Master} (hm : ∀ e ∈ entries, e.master ≠ m) :
    (s.endWaits record entries).mailbox m = s.mailbox m :=
  List.foldlRecOn (motive := fun u : State => u.mailbox m = s.mailbox m) _ _ rfl fun u hu e he =>
    ((u.endWait_mailbox e.master m _).trans (if_neg (hm e he))).trans hu

/-- The end of a wait sets no flag but WAIT_END (R104). -/
theorem State.endWaits_flag (s : State) (entries : List WaitEntry) (m : Master) {i : Nat} (hi : i ≠ 1) :
    ((s.endWaits record entries).mailbox m).events.getLsbD i = (s.mailbox m).events.getLsbD i := by
  refine List.foldlRecOn
    (motive := fun u : State => (u.mailbox m).events.getLsbD i = (s.mailbox m).events.getLsbD i) _ _ rfl
    fun u hu e _ => ?_
  rw [State.endWait_mailbox]
  split
  · next he =>
    rw [Mailbox.raise_flag, decide_eq_false (show ¬ EventFlag.waitEnd.position = i from fun c => hi c.symm),
      Bool.or_false]
    exact he ▸ hu
  · exact hu

/-- The master of each wait that ends has its record and WAIT_END, when no master has two of them (R104). -/
theorem State.endWaits_told {entries : List WaitEntry} (s : State) (hn : (entries.map fun e => e.master).Nodup)
    {x : WaitEntry} (hx : x ∈ entries) :
    ((s.endWaits record entries).mailbox x.master).waitRecord = record x ∧
      ((s.endWaits record entries).mailbox x.master).events.getLsbD 1 = true := by
  induction entries generalizing s with
  | nil => cases hx
  | cons e rest ih =>
    obtain ⟨hnot, hrest⟩ := List.nodup_cons.1 hn
    rcases List.mem_cons.1 hx with rfl | hmem
    · have hlater : (s.endWaits record (x :: rest)).mailbox x.master =
          ({ s.mailbox x.master with waitRecord := record x } : Mailbox).raise .waitEnd :=
        (State.endWaits_other record _ fun y hy c => hnot (List.mem_map.2 ⟨y, hy, c⟩)).trans
          ((s.endWait_mailbox x.master x.master _).trans (if_pos rfl))
      rw [hlater, Mailbox.raise_flag]
      exact ⟨rfl, Bool.or_true _⟩
    · exact ih (s.endWait e.master (record e)) hrest hmem

end endWaits

/-- No master has two entries for one lease. -/
theorem State.QueueLaw.entriesFor_nodup {s : State} (h : s.QueueLaw) (x : Handle) :
    ((s.entriesFor x).map fun e => e.master).Nodup := h.sublist (List.filter_sublist.map _)

/-! #### Apertures (R21) -/

theorem Aperture.release_eq (x : Aperture) (h : Handle) : x.release h = if x = .bound h then .unbound else x := by
  cases x with
  | bound h' =>
    unfold Aperture.release
    simp only [Aperture.bound.injEq]
  | unbound => rfl
  | lost h' reason => rfl

/-- The apertures of one master that are bound to a handle become UNBOUND, and no others change (R21, R89). -/
theorem State.releaseApertures_aperture (s : State) (m : Master) (h : Handle) (m' : Master) (a : ApertureNo) :
    (s.releaseApertures m h).aperture m' a =
      if m' = m ∧ s.aperture m' a = .bound h then .unbound else s.aperture m' a := by
  have hget : (s.releaseApertures m h).aperture m' a =
      ((if m = m' then (s.apertures.get m).map (Aperture.release h) else s.apertures.get m').get a) :=
    congrArg (fun t => Table.get t a) (Table.get_set _ _ _ _)
  rw [hget]
  by_cases hm : m = m'
  · subst hm
    rw [if_pos rfl, Table.get_map, Aperture.release_eq]
    simp only [true_and]
    rfl
  · rw [if_neg hm, if_neg fun c => hm c.1.symm]
    rfl

/-! #### The retirement by the owner -/

theorem State.retireApertures_byOwner {s : State} {r : RecordNo} {m : Master} (howner : (s.lease r).owner = some m) :
    s.retireApertures r .byOwner = s.releaseApertures m (s.handle r) := by
  unfold State.retireApertures
  simp only [howner]

/-- A record is freed: its run goes to SCRUB and its owner's counts fall (R20, R22). -/
theorem State.freeRecord_eq {s : State} {r : RecordNo} {m : Master} {run : Run} (howner : (s.lease r).owner = some m)
    (hrun : (s.lease r).run = some run) : s.freeRecord r =
      { s with
        leases := s.leases.set r (Lease.freed (s.lease r).generation)
        sessions := s.sessions.set m { s.session m with
          ownedLeases := (s.session m).ownedLeases - 1, ownedBlocks := (s.session m).ownedBlocks - run.len }
        pool := s.pool.toScrub run } := by
  have hlength : (s.lease r).length = run.len := by unfold Lease.length; rw [hrun]
  unfold State.freeRecord
  rw [hlength, howner, hrun]
  rfl

/-- The owner's retirement of a lease that is not MOVING, field by field (R20 to R22). -/
theorem State.retire_byOwner {s : State} {r : RecordNo} {m : Master} {run : Run}
    (still : (s.lease r).state ≠ .moving) (howner : (s.lease r).owner = some m) (hrun : (s.lease r).run = some run) :
    s.retire r .byOwner =
      { s with
        leases := s.leases.set r (Lease.freed (s.lease r).generation)
        queue := s.queue.filter fun e => e.handle != s.handle r
        sessions := s.sessions.set m { s.session m with
          ownedLeases := (s.session m).ownedLeases - 1, ownedBlocks := (s.session m).ownedBlocks - run.len }
        mailboxes := (s.endWaits (withdrawal (s.handle r)) (s.entriesFor (s.handle r))).mailboxes
        apertures := (s.releaseApertures m (s.handle r)).apertures
        pool := s.pool.toScrub run } := by
  have hmove : s.retireMove r = s := if_neg still
  obtain ⟨boxes, hboxes⟩ := s.endWaits_frame (withdrawal (s.handle r)) (s.entriesFor (s.handle r))
  have hreleased : (s.withdrawWaiters (s.handle r)).retireApertures r .byOwner =
      (s.withdrawWaiters (s.handle r)).releaseApertures m (s.handle r) := by
    rw [State.withdrawWaiters_eq, hboxes]
    exact State.retireApertures_byOwner howner
  unfold State.retire
  rw [hmove, hreleased, State.withdrawWaiters_eq, hboxes]
  refine (State.freeRecord_eq (m := m) (run := run) ?_ ?_).trans rfl
  · exact howner
  · exact hrun

/-! #### The take -/

/-- What RETIRE does, by its cases (R79). -/
theorem retireBody_notOwner {s : State} {m : Master} {r : RecordNo} (h : (s.lease r).owner ≠ some m) :
    retireBody s m r = (s, { code := .notOwner }) := if_pos h

theorem retireBody_busy {s : State} {m : Master} {r : RecordNo} (ho : (s.lease r).owner = some m)
    (h : (s.lease r).state = .moving) : retireBody s m r = (s, { code := .busy }) :=
  (if_neg (not_not.2 ho)).trans (if_pos h)

theorem retireBody_conflict {s : State} {m : Master} {r : RecordNo} (ho : (s.lease r).owner = some m)
    (still : (s.lease r).state ≠ .moving)
    (h : ¬ ((s.lease r).state = .idle ∨ (s.lease r).holders = MasterSet.single m)) :
    retireBody s m r = (s, { code := .conflict }) :=
  (if_neg (not_not.2 ho)).trans ((if_neg still).trans (if_neg h))

theorem retireBody_ok {s : State} {m : Master} {r : RecordNo} (ho : (s.lease r).owner = some m)
    (still : (s.lease r).state ≠ .moving) (h : (s.lease r).state = .idle ∨ (s.lease r).holders = MasterSet.single m) :
    retireBody s m r = ((s.retire r .byOwner).wakeEngine, { code := .ok }) :=
  (if_neg (not_not.2 ho)).trans ((if_neg still).trans (if_pos h))

/-- Settles O12: the three refusals, and the retirement by the owner with the engine woken and the answer given. -/
theorem retireEndsTheLease : Obligations.RetireEndsTheLease := by
  intro s m r htakes
  refine ⟨fun hnot => takeRequest_answersOn htakes (retireBody_notOwner hnot), fun howner => ⟨fun hmoving => ?_,
    fun still hidle hothers => ?_, fun run still hfree hrun law => ?_⟩⟩
  · exact takeRequest_answersOn htakes (retireBody_busy howner hmoving)
  · exact takeRequest_answersOn htakes (retireBody_conflict howner still (not_or.2 ⟨hidle, hothers⟩))
  have hhandle : s.handle r = s.parameter m := htakes.names.handle
  have hexec : exec .takeRetire s =
      .next (((s.renewed m).retire r .byOwner).wakeEngine.answer m { code := .ok }) := by
    refine (takeRequest_takesOn htakes retireBody).trans ?_
    rw [retireBody_ok (s := s.renewed m) howner still hfree]
  have hretired := State.retire_byOwner (s := s.renewed m) (r := r) still howner hrun
  rw [s.renewed_session_self, s.renewed_sessions_set, s.renewed_handle, hhandle] at hretired
  have hleases := (State.wakeEngine_leases _).trans (congrArg State.leases hretired)
  have hqueue := (State.wakeEngine_queue _).trans (congrArg State.queue hretired)
  have hsessions := (State.wakeEngine_sessions _).trans (congrArg State.sessions hretired)
  have hpool := (State.wakeEngine_pool _).trans (congrArg State.pool hretired)
  have hapertures := (State.wakeEngine_apertures _).trans (congrArg State.apertures hretired)
  have hmailboxes := (State.wakeEngine_mailboxes _).trans (congrArg State.mailboxes hretired)
  generalize ((s.renewed m).retire r .byOwner).wakeEngine = u
    at hexec hleases hqueue hsessions hpool hapertures hmailboxes
  have hmailbox : ∀ m', u.mailbox m' = ((s.renewed m).endWaits (withdrawal (s.parameter m))
      (s.entriesFor (s.parameter m))).mailbox m' := fun m' => congrArg (fun t => Table.get t m') hmailboxes
  refine ⟨_, hexec, hleases, hqueue, hsessions, hpool, fun m' a => ?_, State.answer_answered u m _, fun m' => ?_,
    fun e he hh => ?_, fun m' hm' hnone => ?_⟩
  · exact (congrArg (fun t => (Table.get t m').get a) hapertures).trans
      ((s.renewed m).releaseApertures_aperture m (s.parameter m) m' a)
  · rw [State.answer_flags _ _ _ _ (by decide), hmailbox]
    exact State.endWaits_flag _ (s.renewed m) _ m' (by decide)
  · rw [State.answer_waitRecord, State.answer_flags _ _ _ _ (by decide), hmailbox]
    exact State.endWaits_told _ (s.renewed m) (law.entriesFor_nodup _) (State.mem_entriesFor.2 ⟨he, hh⟩)
  · rw [State.answer_mailbox_other _ hm', hmailbox]
    refine State.endWaits_other _ (s.renewed m) fun e he => ?_
    obtain ⟨hq, hh⟩ := State.mem_entriesFor.1 he
    exact hnone e hq hh

end Sys2Proof.Machine
end

section
/-! ### The wait entries of one lease (R83, R84, R95, R98) -/

namespace Sys2Proof.Machine

/-- What the wait queue's laws say of a lease and its entries, whether or not the grant pass that is due has run: only a
HELD or MOVING lease has entries, the master of an ACQ_SHARED or ACQ_EXCL entry is no holder, that of an UPGRADE entry is a
SHARED holder, and only the head may be an UPGRADE (R83, R84, R95). -/
structure Lease.Queued (l : Lease) (entries : List WaitEntry) : Prop where
  held : entries ≠ [] → l.state = .held ∨ l.state = .moving
  acquire : ∀ e ∈ entries, e.kind ≠ .upgrade → l.holders.mem e.master = false
  upgrade : ∀ e ∈ entries, e.kind = .upgrade → l.mode = some .shared ∧ l.holders.mem e.master = true
  head : ∀ e ∈ entries.tail, e.kind ≠ .upgrade

/-- What a pass grants is a first part of the entries (R98). -/
theorem Lease.grants_append (l : Lease) (entries : List WaitEntry) : ∃ rest, l.grants entries ++ rest = entries := by
  rcases l.grants_cases entries with hg | ⟨e, rest, he, hg, -⟩ | ⟨e, rest, he, -, -, hg⟩
  · exact ⟨entries, by rw [hg, List.nil_append]⟩
  · exact ⟨rest, by rw [hg, he, List.singleton_append]⟩
  · exact ⟨_, by rw [hg, he, List.cons_append, List.takeWhile_append_dropWhile]⟩

/-- The grants depend on the holders and the mode of a lease alone (R98). -/
theorem Lease.grants_congr {l l' : Lease} (holders : l'.holders = l.holders) (mode : l'.mode = l.mode)
    (entries : List WaitEntry) : l'.grants entries = l.grants entries := by
  unfold Lease.grants
  rw [holders, mode]

/-- Whether anything is granted depends on the head alone, by its kind and its master (R98). -/
theorem Lease.grants_eq_nil_of_head {l : Lease} {e e' : WaitEntry} {rest : List WaitEntry} (h : l.grants (e :: rest) = [])
    (kind : e'.kind = e.kind) (master : e'.master = e.master) (rest' : List WaitEntry) : l.grants (e' :: rest') = [] := by
  unfold Lease.grants at h ⊢
  dsimp only at h ⊢
  rw [kind, master]
  split at h
  · cases h
  · next h1 =>
    split at h
    · cases h
    · next h2 => rw [if_neg h1, if_neg h2]

namespace Lease.Queued

variable {l : Lease} {entries : List WaitEntry}

theorem nil (l : Lease) : l.Queued [] := ⟨fun h => absurd rfl h, nofun, nofun, nofun⟩

/-- Entries that leave the queue leave the others lawful (R84). -/
theorem sublist {left : List WaitEntry} (h : l.Queued entries) (sub : left.Sublist entries) : l.Queued left where
  held hne := h.held fun e => hne (List.sublist_nil.1 (e ▸ sub))
  acquire e he := h.acquire e (sub.subset he)
  upgrade e he := h.upgrade e (sub.subset he)
  head e he := h.head e (sub.tail.subset he)

/-- Only the state, the holders and the mode of the lease matter. -/
theorem congr {l' : Lease} (h : l.Queued entries)
    (state : l.state = .held ∨ l.state = .moving → l'.state = .held ∨ l'.state = .moving)
    (holders : l'.holders = l.holders) (mode : l'.mode = l.mode) : l'.Queued entries where
  held hne := state (h.held hne)
  acquire := holders ▸ h.acquire
  upgrade := by rw [holders, mode]; exact h.upgrade
  head := h.head

/-- A lease held EXCLUSIVE has no entry that a pass could grant (R98). -/
theorem grants_exclusive (h : l.Queued entries) (mode : l.mode = some .exclusive) (holders : l.holders ≠ 0) :
    l.grants entries = [] := by
  rcases l.grants_cases entries with hg | ⟨e, rest, rfl, -, ⟨hk, -⟩ | ⟨-, hh⟩⟩ | ⟨e, rest, -, -, hh | hm, -⟩
  · exact hg
  · have := (h.upgrade e List.mem_cons_self hk).1
    rw [mode] at this
    cases this
  · exact absurd hh holders
  · exact absurd hh holders
  · rw [mode] at hm
    cases hm

/-- An empty lease on which a pass grants nothing has no entries (R17, R98). -/
theorem eq_nil_of_empty (h : l.Queued entries) (passed : l.grants entries = []) (holders : l.holders = 0) :
    entries = [] := by
  cases entries with
  | nil => rfl
  | cons e rest =>
    by_cases hk : e.kind = .upgrade
    · have := (h.upgrade e List.mem_cons_self hk).2
      rw [holders] at this
      exact absurd ((MasterSet.mem_empty e.master).symm.trans this) Bool.false_ne_true
    · have := Lease.mem_grants_of_empty rest holders hk
      rw [passed] at this
      cases this

/-- A master without an UPGRADE entry leaves the holders (R11, R56, R89). -/
theorem without (h : l.Queued entries) {m : Master} (hm : ∀ e ∈ entries, e.kind = .upgrade → e.master ≠ m) :
    (l.without m).Queued entries where
  held := h.held
  acquire e he hk := by
    rw [show (l.without m).holders = l.holders.erase m from rfl, MasterSet.mem_erase, h.acquire e he hk, Bool.false_and]
  upgrade e he hk := by
    obtain ⟨hmode, hmem⟩ := h.upgrade e he hk
    have hstays : (l.holders.erase m).mem e.master = true := by
      rw [MasterSet.mem_erase, hmem]
      simpa using (hm e he hk).symm
    exact ⟨(if_neg (MasterSet.ne_zero_of_mem hstays)).trans hmode, hstays⟩
  head := h.head

/-- A grant pass that grants an UPGRADE or ACQ_EXCL head leaves one EXCLUSIVE holder, for whom the others wait (R98). -/
theorem exclusive {e : WaitEntry} {rest : List WaitEntry} {l' : Lease} (h : l.Queued (e :: rest))
    (nodup : ((e :: rest).map fun x => x.master).Nodup) (state : l'.state = .held)
    (holders : l'.holders = MasterSet.single e.master) (mode : l'.mode = some .exclusive) :
    l'.Queued rest ∧ l'.grants rest = [] := by
  have hq : l'.Queued rest := by
    refine ⟨fun _ => .inl state, fun x hx _ => ?_, fun x hx hk => absurd hk (h.head x hx), fun x hx =>
      h.head x (List.mem_of_mem_tail hx)⟩
    rw [holders, MasterSet.mem_single]
    exact decide_eq_false fun c => (List.nodup_cons.1 nodup).1 (List.mem_map.2 ⟨x, hx, c.symm⟩)
  exact ⟨hq, hq.grants_exclusive mode (holders ▸ MasterSet.single_ne_zero _)⟩

/-- A grant pass that grants a row of ACQ_SHARED entries leaves the others waiting, with no ACQ_SHARED entry at their head
(R98). -/
theorem row {row rest : List WaitEntry} (h : l.Queued (row ++ rest)) (hne : row ≠ [])
    (nodup : ((row ++ rest).map fun x => x.master).Nodup) (shared : ∀ e ∈ row, e.kind = .acqShared)
    (stop : ∀ e ∈ rest.head?, e.kind ≠ .acqShared) :
    (row.foldl Lease.granted l).Queued rest ∧ (row.foldl Lease.granted l).grants rest = [] := by
  obtain ⟨e, row, rfl⟩ := List.exists_cons_of_ne_nil hne
  have hacq : ∀ x ∈ rest, x.kind ≠ .upgrade := fun x hx => h.head x (List.mem_append_right row hx)
  obtain ⟨heq, hmem⟩ := Lease.foldl_granted_row (fun x hx => shared x (List.mem_cons_of_mem e hx)) (l.granted e)
    (by rw [Lease.granted_acqShared l (shared e List.mem_cons_self)])
    (by rw [Lease.granted_acqShared l (shared e List.mem_cons_self)])
  rw [List.foldl_cons]
  generalize row.foldl Lease.granted (l.granted e) = l' at heq hmem
  rw [Lease.granted_acqShared l (shared e List.mem_cons_self)] at heq hmem
  have hin : ∀ m, l'.holders.mem m = true ↔ l.holders.mem m = true ∨ ∃ x ∈ e :: row, x.master = m := fun m => by
    rw [hmem, MasterSet.mem_insert, Bool.or_eq_true, decide_eq_true_eq, List.exists_mem_cons_iff, or_assoc]
  have hheld : l'.holders ≠ 0 := MasterSet.ne_zero_of_mem ((hin e.master).2 (.inr ⟨e, List.mem_cons_self, rfl⟩))
  refine ⟨⟨fun _ => .inl (by rw [heq]), fun x hx hk => ?_, fun x hx hk => absurd hk (hacq x hx), fun x hx =>
    hacq x (List.mem_of_mem_tail hx)⟩, ?_⟩
  · refine Bool.eq_false_iff.2 fun c => ?_
    rcases (hin x.master).1 c with hold | ⟨y, hy, hm⟩
    · exact absurd (h.acquire x (List.mem_append_right _ hx) hk) (by rw [hold]; decide)
    · rw [List.map_append] at nodup
      exact (List.nodup_append.1 nodup).2.2 _ (List.mem_map_of_mem hy) _ (List.mem_map_of_mem hx) hm
  · rcases l'.grants_cases rest with hg | ⟨b, _, rfl, -, ⟨hk, -⟩ | ⟨-, hh⟩⟩ | ⟨b, _, rfl, hk, -⟩
    · exact hg
    · exact absurd hk (hacq b List.mem_cons_self)
    · exact absurd hh hheld
    · exact absurd hk (stop b rfl)

/-- A grant pass leaves a lease and the entries it does not grant lawful, and a second pass would grant nothing (R98). -/
theorem pass (h : l.Queued entries) (nodup : (entries.map fun e => e.master).Nodup) (still : l.state ≠ .moving) :
    ((l.grants entries).foldl Lease.granted l).Queued (entries.filter fun e => decide (e ∉ l.grants entries)) ∧
      ((l.grants entries).foldl Lease.granted l).grants (entries.filter fun e => decide (e ∉ l.grants entries)) = [] := by
  obtain ⟨rest, hsplit⟩ := l.grants_append entries
  have hrest : entries.filter (fun e => decide (e ∉ l.grants entries)) = rest := by
    have hn : (l.grants entries ++ rest).Nodup := by
      rw [hsplit]
      exact List.Nodup.of_map _ nodup
    have := filter_not_mem_left hn
    rwa [hsplit] at this
  rw [hrest]
  rcases l.grants_cases entries with hg | ⟨e, tail, rfl, hg, hwhy⟩ | ⟨e, tail, rfl, hk, -, hg⟩
  · rw [hg, List.nil_append] at hsplit
    rw [hg, hsplit]
    exact ⟨h, hg⟩
  · have hheld : l.state = .held := (h.held (List.cons_ne_nil _ _)).resolve_right still
    rw [hg] at hsplit ⊢
    obtain rfl : rest = tail := List.cons_inj_right e |>.1 hsplit
    rw [List.foldl_cons, List.foldl_nil]
    rcases hwhy with ⟨hk, hh⟩ | ⟨hk, -⟩
    · rw [Lease.granted_upgrade l hk]
      exact h.exclusive nodup hheld hh rfl
    · rw [Lease.granted_acqExcl l hk]
      exact h.exclusive nodup rfl rfl rfl
  · have hstop : rest = tail.dropWhile fun x => x.kind == .acqShared := by
      rw [hg, List.cons_append, List.cons_inj_right] at hsplit
      exact List.append_cancel_left (hsplit.trans List.takeWhile_append_dropWhile.symm)
    rw [← hsplit] at h nodup
    refine h.row (by rw [hg]; exact List.cons_ne_nil _ _) nodup (fun x hx => ?_) fun x hx => ?_
    · rw [hg] at hx
      rcases List.mem_cons.1 hx with rfl | hx
      · exact hk
      · simpa using List.mem_takeWhile_imp hx
    · have hhead := List.head?_dropWhile_not (fun x : WaitEntry => x.kind == .acqShared) tail
      rw [← hstop, Option.mem_def.1 hx] at hhead
      simpa using hhead

end Lease.Queued

end Sys2Proof.Machine
end

section
/-! ### The wait queue of the card, with the grant passes that are due (R83, R84, R95, R97) -/

namespace Sys2Proof.Machine

/-- The laws of the wait queue, but that grant passes may be due on some records: at most one entry per master, every
entry for some record, the entries of each record lawful, and none grantable where no pass is due (R83, R84, R95, R98). -/
structure State.WaitOrder (s : State) (due : RecordNo → Prop) : Prop where
  queue : s.QueueLaw
  named : ∀ e ∈ s.queue, ∃ r, e.handle = s.handle r
  queued : ∀ r, (s.lease r).Queued (s.entriesFor (s.handle r))
  passed : ∀ r, ¬ due r → (s.lease r).grants (s.entriesFor (s.handle r)) = []

theorem State.handle_inj {s : State} {r r' : RecordNo} (h : s.handle r = s.handle r') : r = r' :=
  by_contra fun hne => State.handle_ne hne h

/-- The current handle of a live record names it, and no other record. -/
theorem State.names_iff {s : State} {h : Handle} {r : RecordNo} :
    s.Names h r ↔ h = s.handle r ∧ (s.lease r).state ≠ .free :=
  ⟨fun n => ⟨n.handle.symm, n.live⟩, fun ⟨e, live⟩ => e ▸ State.names_handle live⟩

/-- The law of the wait queue is the law of holders and an orderly queue with no pass due. -/
theorem State.waitLaw_iff (s : State) : s.WaitLaw ↔ s.HoldLaw ∧ s.WaitOrder fun _ => False := by
  constructor
  · intro h
    have hnames : ∀ {r e}, e ∈ s.entriesFor (s.handle r) → e ∈ s.queue ∧ s.Names e.handle r ∧
        ((s.lease r).state = .held ∨ (s.lease r).state = .moving) := by
      intro r e he
      obtain ⟨hq, hh⟩ := State.mem_entriesFor.1 he
      obtain ⟨r', hn, hstate⟩ := h.named e hq
      cases State.handle_inj (hn.handle.trans hh)
      exact ⟨hq, hn, hstate⟩
    refine ⟨h.hold, h.queue, fun e he => ?_, fun r => ⟨fun hne => ?_, fun e he hk => ?_, fun e he hk => ?_, h.head r⟩,
      fun r _ => h.passed r⟩
    · obtain ⟨r, hn, -⟩ := h.named e he
      exact ⟨r, hn.handle.symm⟩
    · obtain ⟨e, he⟩ := List.exists_mem_of_ne_nil _ hne
      exact (hnames he).2.2
    · obtain ⟨hq, hn, -⟩ := hnames he
      exact h.acquire e hq hk r hn
    · obtain ⟨hq, hn, -⟩ := hnames he
      obtain ⟨hmode, hmem, -⟩ := h.upgrade e hq hk r hn
      exact ⟨hmode, hmem⟩
  · rintro ⟨hold, h⟩
    have hmem : ∀ {e r}, e ∈ s.queue → s.Names e.handle r → e ∈ s.entriesFor (s.handle r) := fun he hn =>
      State.mem_entriesFor.2 ⟨he, hn.handle.symm⟩
    refine ⟨hold, h.queue, fun e he => ?_, fun e he hk r hn => (h.queued r).acquire e (hmem he hn) hk,
      fun e he hk r hn => ?_, fun r => (h.queued r).head, fun r => h.passed r id⟩
    · obtain ⟨r, hr⟩ := h.named e he
      have hstate := (h.queued r).held (List.ne_nil_of_mem (State.mem_entriesFor.2 ⟨he, hr⟩))
      refine ⟨r, State.names_iff.2 ⟨hr, ?_⟩, hstate⟩
      rcases hstate with e | e <;> rw [e] <;> decide
    · obtain ⟨hmode, hholds⟩ := (h.queued r).upgrade e (hmem he hn) hk
      refine ⟨hmode, hholds, fun hsole => ?_⟩
      have hin := hmem he hn
      have hpassed := h.passed r id
      cases hq : s.entriesFor (s.handle r) with
      | nil =>
        rw [hq] at hin
        cases hin
      | cons x rest =>
        have hhead := (h.queued r).head
        rw [hq] at hin hpassed hhead
        rcases List.mem_cons.1 hin with rfl | hin
        · rw [Lease.grants, if_pos (.inl ⟨hk, hsole⟩)] at hpassed
          cases hpassed
        · exact hhead e hin hk

namespace State.WaitOrder

variable {s t : State} {due due' : RecordNo → Prop}

theorem nodup (h : s.WaitOrder due) (x : Handle) : ((s.entriesFor x).map fun e => e.master).Nodup :=
  h.queue.entriesFor_nodup x

theorem mono (h : s.WaitOrder due) (hd : ∀ r, due r → due' r) : s.WaitOrder due' :=
  ⟨h.queue, h.named, h.queued, fun r hr => h.passed r fun c => hr (hd r c)⟩

/-- One record and its entries change, to lawful ones with no grant left where no pass is due; entries that are new are for
it. -/
theorem of_record {r : RecordNo} (h : s.WaitOrder due) (lease : ∀ r', r' ≠ r → t.lease r' = s.lease r')
    (handle : t.handle r = s.handle r) (queue : t.QueueLaw) (new : ∀ e ∈ t.queue, e ∈ s.queue ∨ e.handle = s.handle r)
    (entries : ∀ r', r' ≠ r → t.entriesFor (s.handle r') = s.entriesFor (s.handle r'))
    (queued : (t.lease r).Queued (t.entriesFor (s.handle r)))
    (passed : ¬ due' r → (t.lease r).grants (t.entriesFor (s.handle r)) = [])
    (hd : ∀ r', r' ≠ r → due r' → due' r') : t.WaitOrder due' := by
  have hhandle : ∀ r', t.handle r' = s.handle r' := fun r' => by
    by_cases hr : r' = r
    · rw [hr, handle]
    · exact State.handle_eq_of_generation (by rw [lease r' hr])
  refine ⟨queue, fun e he => ?_, fun r' => ?_, fun r' hr' => ?_⟩
  · rcases new e he with hold | hnew
    · obtain ⟨r', hr'⟩ := h.named e hold
      exact ⟨r', hr'.trans (hhandle r').symm⟩
    · exact ⟨r, hnew.trans handle.symm⟩
  · rw [hhandle]
    by_cases hr : r' = r
    · exact hr ▸ queued
    · rw [lease r' hr, entries r' hr]
      exact h.queued r'
  · rw [hhandle]
    by_cases hr : r' = r
    · subst hr
      exact passed hr'
    · rw [lease r' hr, entries r' hr]
      exact h.passed r' fun c => hr' (hd r' hr c)

/-- The same where the queue only loses entries of the record. -/
theorem of_winds {r : RecordNo} (h : s.WaitOrder due) (ht : t.Winds s (· = r))
    (queued : (t.lease r).Queued (t.entriesFor (s.handle r)))
    (passed : ¬ due' r → (t.lease r).grants (t.entriesFor (s.handle r)) = [])
    (hd : ∀ r', r' ≠ r → due r' → due' r') : t.WaitOrder due' :=
  h.of_record ht.lease (ht.handle r) (ht.queueLaw h.queue) (fun _ he => .inl (ht.queue.subset he)) ht.entries queued
    passed hd

/-- One record changes, with its holders, its mode and the queue as they were. -/
theorem of_lease {r : RecordNo} {l : Lease} (h : s.WaitOrder due)
    (ht : ∀ r', t.lease r' = if r = r' then l else s.lease r') (queue : t.queue = s.queue)
    (generation : l.generation = (s.lease r).generation)
    (state : (s.lease r).state = .held ∨ (s.lease r).state = .moving → l.state = .held ∨ l.state = .moving)
    (holders : l.holders = (s.lease r).holders) (mode : l.mode = (s.lease r).mode) : t.WaitOrder due := by
  have hself : t.lease r = l := (ht r).trans (if_pos rfl)
  have hentries : ∀ x, t.entriesFor x = s.entriesFor x := fun x => by
    unfold State.entriesFor
    rw [queue]
  refine h.of_record (r := r) (fun r' hr' => (ht r').trans (if_neg hr'.symm))
    (State.handle_eq_of_generation (hself ▸ generation)) ?_ (fun e he => .inl (queue ▸ he)) (fun _ _ => hentries _) ?_
    (fun hr => ?_) fun _ _ => id
  · unfold State.QueueLaw
    rw [queue]
    exact h.queue
  · rw [hself, hentries]
    exact (h.queued r).congr state holders mode
  · rw [hself, hentries, Lease.grants_congr holders mode]
    exact h.passed r hr

theorem same (h : s.WaitOrder due) (leases : t.leases = s.leases) (queue : t.queue = s.queue) : t.WaitOrder due := by
  have hlease : ∀ r, t.lease r = s.lease r := fun r => by
    unfold State.lease
    rw [leases]
  refine h.of_lease (r := 0) (l := s.lease 0) (fun r => ?_) queue rfl id rfl rfl
  rw [hlease]
  split
  · next hr => rw [hr]
  · rfl

/-- A grant pass that is due runs, and is due no more (R97, R98). -/
theorem grantPass (h : s.WaitOrder due) (r : RecordNo)
    (moving : (s.lease r).state = .moving → (s.lease r).grants (s.entriesFor (s.handle r)) = []) :
    (s.grantPass r).WaitOrder fun r' => due r' ∧ r' ≠ r := by
  by_cases hm : (s.lease r).state = .moving
  · have hg : s.grantable r = [] := by rw [s.grantable_eq, if_pos hm]
    rw [State.grantPass_of_none hg]
    refine ⟨h.queue, h.named, h.queued, fun r' hr' => ?_⟩
    by_cases hr : r' = r
    · exact hr ▸ moving hm
    · exact h.passed r' fun c => hr' ⟨c, hr⟩
  · have hg : s.grantable r = (s.lease r).grants (s.entriesFor (s.handle r)) := by rw [s.grantable_eq, if_neg hm]
    have hlease : (s.grantPass r).lease r =
        ((s.lease r).grants (s.entriesFor (s.handle r))).foldl Lease.granted (s.lease r) := by
      rw [(s.grantPass_quiet r).lease, State.lease_setLease_self, hg]
    have hentries : (s.grantPass r).entriesFor (s.handle r) = (s.entriesFor (s.handle r)).filter fun e =>
        decide (e ∉ (s.lease r).grants (s.entriesFor (s.handle r))) := by
      unfold State.entriesFor at hg ⊢
      rw [h.queue.grantPass_queue, hg, List.filter_filter, List.filter_filter]
      exact List.filter_congr fun _ _ => Bool.and_comm _ _
    obtain ⟨hqueued, hpassed⟩ := (h.queued r).pass (h.nodup _) hm
    refine h.of_winds (.grantPass (R := (· = r)) s rfl) ?_ (fun _ => ?_) fun r' hr' hd => ⟨hd, hr'⟩
    · rw [hlease, hentries]
      exact hqueued
    · rw [hlease, hentries]
      exact hpassed

/-- Some entries leave the queue; a pass is due on the leases that they headed (R54, R96, R100). -/
theorem filter (h : s.WaitOrder due) (p : WaitEntry → Bool) (queue : t.queue = s.queue.filter p)
    (leases : t.leases = s.leases)
    (hd : ∀ r, ¬ due' r → ¬ due r ∧ ∀ e, (s.entriesFor (s.handle r)).head? = some e → p e = true) : t.WaitOrder due' := by
  have hentries : ∀ x, (s.setQueue (s.queue.filter p)).entriesFor x = (s.entriesFor x).filter p := fun x => by
    unfold State.entriesFor
    rw [State.setQueue_queue, List.filter_filter, List.filter_filter]
    exact List.filter_congr fun _ _ => Bool.and_comm _ _
  have hset : (s.setQueue (s.queue.filter p)).WaitOrder due' := by
    refine ⟨(List.filter_sublist.map _).nodup h.queue, fun e he => h.named e (List.mem_of_mem_filter he), fun r => ?_,
      fun r hr => ?_⟩
    · have := (h.queued r).sublist (List.filter_sublist (p := p))
      rwa [← hentries] at this
    · show (s.lease r).grants ((s.setQueue (s.queue.filter p)).entriesFor (s.handle r)) = []
      rw [hentries]
      cases hq : s.entriesFor (s.handle r) with
      | nil => rfl
      | cons e rest =>
        obtain ⟨hdue, hhead⟩ := hd r hr
        have hpassed := h.passed r hdue
        rw [hq] at hpassed
        rw [List.filter_cons_of_pos (hhead e (by rw [hq]; rfl))]
        exact Lease.grants_eq_nil_of_head hpassed rfl rfl _
  exact hset.same leases queue

end State.WaitOrder

end Sys2Proof.Machine
end

section
/-! ### What the operations on leases and entries leave of the laws of the wait queue -/

namespace Sys2Proof.Machine

/-- Retirement takes the entries of the lease out of the queue (R20). -/
theorem State.retire_queue (s : State) (r : RecordNo) (cause : RetireCause) :
    (s.retire r cause).queue = s.queue.filter fun e => !(e.handle == s.handle r) := by
  obtain ⟨l, b, p, e, hmove⟩ := s.retireMove_frame r
  obtain ⟨b', a, hap⟩ := ((s.retireMove r).withdrawWaiters (s.handle r)).retireApertures_frame r cause
  obtain ⟨l', x, p', hfree⟩ :=
    (((s.retireMove r).withdrawWaiters (s.handle r)).retireApertures r cause).freeRecord_frame r
  unfold State.retire
  rw [hfree, hap]
  show (s.retireMove r).queue.filter _ = _
  rw [hmove]

theorem State.retire_entriesFor (s : State) (r : RecordNo) (cause : RetireCause) :
    (s.retire r cause).entriesFor (s.handle r) = [] := by
  unfold State.entriesFor
  rw [State.retire_queue, List.filter_filter, List.filter_eq_nil_iff]
  intro e _
  simp

/-- The completion of a move leaves the queue (R120). -/
theorem State.completeMove_queue (s : State) (r : RecordNo) : (s.completeMove r).queue = s.queue := by
  have hswap : (s.swapRuns r).queue = s.queue := by
    rcases s.swapRuns_cases r with ⟨-, e⟩ | ⟨target, -, e⟩
    · rw [e]
    · obtain ⟨p, hp⟩ := (s.setPool (s.pool.remark target (.run r))).scrubRun_frame (s.lease r).run
      rw [e, hp]
      rfl
  obtain ⟨x, hx⟩ := (s.swapRuns r).addOwnedBy_frame (s.lease r).owner 0
    ((s.lease r).targetLength - (s.lease r).length)
  obtain ⟨b, hb⟩ := State.forMasters_frame
    (((s.swapRuns r).addOwnedBy (s.lease r).owner 0 ((s.lease r).targetLength - (s.lease r).length)).setEngine
      s.engine.endMove) (s.lease r).holders
    (fun s' m => s'.endMove m
      { handle := s.handle r, result := some .done, reason := .none, length := (s.lease r).targetLength })
    fun _ _ => ⟨_, rfl⟩
  unfold State.completeMove
  rw [hb, hx]
  exact hswap

/-- An UPGRADE entry heads its lease, and no other lease sees it (R84). -/
theorem filter_insertUpgrade (e : WaitEntry) (q : List WaitEntry) (h : Handle) :
    (insertUpgrade e q).filter (fun x => x.handle == h) =
      if e.handle = h then e :: q.filter (fun x => x.handle == h) else q.filter fun x => x.handle == h := by
  induction q with
  | nil =>
    unfold insertUpgrade
    rw [List.filter_cons]
    simp only [beq_iff_eq]
  | cons x xs ih =>
    unfold insertUpgrade
    split
    · rw [List.filter_cons]
      simp only [beq_iff_eq]
    · next hx =>
      rw [List.filter_cons, ih, List.filter_cons (x := x)]
      by_cases he : e.handle = h
      · rw [if_neg (by rw [beq_iff_eq]; exact fun c => hx (c.trans he.symm)), if_pos he, if_pos he,
          if_neg (by rw [beq_iff_eq]; exact fun c => hx (c.trans he.symm))]
      · rw [if_neg he, if_neg he]

namespace State.WaitLaw

variable {s t : State}

theorem order (h : s.WaitLaw) : s.WaitOrder fun _ => False := (s.waitLaw_iff.1 h).2

theorem of_order (hold : s.HoldLaw) (order : s.WaitOrder fun _ => False) : s.WaitLaw := s.waitLaw_iff.2 ⟨hold, order⟩

/-- A MOVING lease has one EXCLUSIVE holder, so that no grant pass could grant an entry of it (R19, R97). -/
theorem grants_moving {due : RecordNo → Prop} (hold : s.HoldLaw) (h : s.WaitOrder due) {r : RecordNo}
    (hm : (s.lease r).state = .moving) : (s.lease r).grants (s.entriesFor (s.handle r)) = [] :=
  (h.queued r).grants_exclusive ((hold.rule r).moving hm) ((hold.rule r).held (.inr hm)).1

/-- Fields that the law does not speak of change in one record. -/
theorem of_lease {r : RecordNo} {l : Lease} (h : s.WaitLaw) (ht : ∀ r', t.lease r' = if r = r' then l else s.lease r')
    (queue : t.queue = s.queue) (generation : l.generation = (s.lease r).generation)
    (state : l.state = (s.lease r).state) (holders : l.holders = (s.lease r).holders)
    (mode : l.mode = (s.lease r).mode) (target : l.target = (s.lease r).target) : t.WaitLaw :=
  of_order (h.hold.same_holders ht state holders mode target)
    (h.order.of_lease ht queue generation (by rw [state]; exact id) holders mode)

theorem same (h : s.WaitLaw) (leases : t.leases = s.leases) (queue : t.queue = s.queue) : t.WaitLaw := by
  refine h.of_lease (r := 0) (l := s.lease 0) (fun r => ?_) queue rfl rfl rfl rfl rfl
  have hlease : t.lease r = s.lease r := by
    unfold State.lease
    rw [leases]
  rw [hlease]
  split
  · next hr => rw [hr]
  · rfl

theorem sameBooks (h : s.WaitLaw) (ht : t.SameBooks s) : t.WaitLaw := h.same ht.leases ht.queue

theorem wakeEngine (h : s.WaitLaw) : s.wakeEngine.WaitLaw := h.sameBooks (.wakeEngine s)

/-- The empty queue is lawful where nothing is held. -/
theorem of_allFree (free : s.AllFree) (queue : s.queue = []) : s.WaitLaw := by
  have hentries : ∀ x, s.entriesFor x = [] := fun x => by
    unfold State.entriesFor
    rw [queue]
    rfl
  refine of_order free.holdLaw ⟨?_, fun e he => ?_, fun r => ?_, fun r _ => ?_⟩
  · unfold State.QueueLaw
    rw [queue]
    exact List.nodup_nil
  · rw [queue] at he
    cases he
  · rw [hentries]
    exact .nil _
  · rw [hentries]
    rfl

/-! #### Leases that move, end or are made -/

theorem abandonMove (h : s.WaitLaw) {r : RecordNo} (hs : (s.lease r).state = .moving) (reason : MoveReason) :
    (s.abandonMove r reason).WaitLaw :=
  of_order (h.hold.abandonMove hs reason)
    (h.order.of_lease (fun r' => s.abandonMove_lease r r' reason) (s.abandonMove_queue r reason) rfl (fun _ => .inl rfl)
      rfl rfl)

/-- Retirement leaves no entry for the lease (R20), whatever pass was due there. -/
theorem order_retire {r : RecordNo} (h : s.WaitOrder (· = r)) (cause : RetireCause) :
    (s.retire r cause).WaitOrder fun _ => False := by
  refine h.of_winds (.retire (R := (· = r)) s rfl cause) ?_ (fun _ => ?_) fun _ hne he => hne he
  · rw [State.retire_entriesFor]
    exact .nil _
  · rw [State.retire_entriesFor]
    rfl

theorem retire (h : s.WaitLaw) (r : RecordNo) (cause : RetireCause) : (s.retire r cause).WaitLaw :=
  of_order (h.hold.retire r cause) (order_retire (h.order.mono nofun) cause)

/-- CREATE makes a lease that nobody waits for, on a record that nobody waited for (R69, R83). -/
theorem createLease (h : s.WaitLaw) (m : Master) {r : RecordNo} (run : Run) (free : (s.lease r).state = .free) :
    (s.createLease m r run).WaitLaw := by
  have hlease := fun r' => s.createLease_lease m r r' run
  have hqueue : (s.createLease m r run).queue = s.queue := by
    obtain ⟨p, x, e⟩ := s.allocate_frame run (.run r)
    unfold State.createLease
    rw [e]
    rfl
  refine of_order (h.hold.createLease m r run) ?_
  generalize s.createLease m r run = t at hlease hqueue
  have hother : ∀ r', r' ≠ r → t.lease r' = s.lease r' := fun r' hr => (hlease r').trans (if_neg hr.symm)
  have hhandle : ∀ r', r' ≠ r → t.handle r' = s.handle r' := fun r' hr =>
    State.handle_eq_of_generation (by rw [hother r' hr])
  have hentries : ∀ x, t.entriesFor x = s.entriesFor x := fun x => by
    unfold State.entriesFor
    rw [hqueue]
  have hnamed : ∀ e ∈ s.queue, ∃ r', r' ≠ r ∧ e.handle = s.handle r' := fun e he => by
    obtain ⟨r', hr'⟩ := h.order.named e he
    refine ⟨r', ?_, hr'⟩
    rintro rfl
    have := (h.order.queued r').held (List.ne_nil_of_mem (State.mem_entriesFor.2 ⟨he, hr'⟩))
    simp [free] at this
  have hnone : t.entriesFor (t.handle r) = [] := by
    refine List.eq_nil_iff_forall_not_mem.2 fun e he => ?_
    rw [hentries] at he
    obtain ⟨hq, hh⟩ := State.mem_entriesFor.1 he
    obtain ⟨r', hne, hr'⟩ := hnamed e hq
    exact State.handle_ne hne (hr'.symm.trans hh)
  refine ⟨?_, fun e he => ?_, fun r' => ?_, fun r' _ => ?_⟩
  · unfold State.QueueLaw
    rw [hqueue]
    exact h.queue
  · obtain ⟨r', hne, hr'⟩ := hnamed e (hqueue ▸ he)
    exact ⟨r', hr'.trans (hhandle r' hne).symm⟩
  · by_cases hr : r' = r
    · rw [hr, hnone]
      exact .nil _
    · rw [hother r' hr, hhandle r' hr, hentries]
      exact h.order.queued r'
  · by_cases hr : r' = r
    · rw [hr, hnone]
      rfl
    · rw [hother r' hr, hhandle r' hr, hentries]
      exact h.order.passed r' id

theorem shrinkLease (h : s.WaitLaw) (r : RecordNo) (dir : Direction) (run : Run) (len : Nat) :
    (s.shrinkLease r dir run len).WaitLaw := by
  refine h.of_lease (l := { s.lease r with run := some (shrunkTo dir run len) })
    (fun r' => ((s.shrinkLease_quiet r dir run len).lease r').trans (State.lease_setLease _ _ _ _)) ?_ rfl rfl rfl rfl rfl
  unfold State.shrinkLease
  obtain ⟨x, e⟩ := ((s.scrubRun (some (shrunkOff dir run len))).setLease r
    { s.lease r with run := some (shrunkTo dir run len) }).dropOwnedBy_frame (s.lease r).owner 0 (run.len - len)
  rw [e]
  rfl

theorem growLease (h : s.WaitLaw) (r : RecordNo) (added grown : Run) : (s.growLease r added grown).WaitLaw := by
  refine h.of_lease (l := { s.lease r with run := some grown })
    (fun r' => ((s.growLease_quiet r added grown).lease r').trans (State.lease_setLease _ _ _ _)) ?_ rfl rfl rfl rfl rfl
  unfold State.growLease
  obtain ⟨p, v, ha⟩ := s.allocate_frame added (.run r)
  obtain ⟨x, e⟩ := ((s.allocate added (.run r)).setLease r { s.lease r with run := some grown }).addOwnedBy_frame
    (s.lease r).owner 0 added.len
  rw [e, ha]
  rfl

theorem startMove (h : s.WaitLaw) {r : RecordNo} {m : Master} (hl : (s.lease r).heldExclusiveBy m = true)
    (hn : s.movingRecord = none) (target : Run) : (s.startMove r target).WaitLaw := by
  refine of_order (h.hold.startMove hl hn target) ?_
  refine h.order.of_lease (l := { s.lease r with state := .moving, target := some target })
    (fun r' => ((s.startMove_quiet r target).lease r').trans (State.lease_setLease _ _ _ _)) ?_ rfl (fun _ => .inr rfl)
    rfl rfl
  unfold State.startMove
  obtain ⟨p, v, ha⟩ := s.allocate_frame target (.target r)
  rw [ha]
  rfl

theorem completeMove (h : s.WaitLaw) (r : RecordNo) : (s.completeMove r).WaitLaw := by
  refine of_order (h.hold.completeMove r) ?_
  rcases s.swapRuns_cases r with ⟨-, e⟩ | ⟨target, -, e⟩
  · refine h.order.same ?_ (s.completeMove_queue r)
    rw [(s.completeMove_quiet r).leases, e]
    rfl
  · refine h.order.of_lease (r := r) (l := { s.lease r with state := .held, run := some target, target := none })
      (fun r' => ?_) (s.completeMove_queue r) rfl (fun _ => .inl rfl) rfl rfl
    rw [(s.completeMove_quiet r).lease, State.lease_setEngine, e, State.lease_setLease, State.lease_scrubRun]
    rfl

/-! #### Grants at once and grant passes -/

/-- A lease on which entries wait is not granted at once (R86). -/
theorem grantedNow (h : s.WaitLaw) {r : RecordNo} {mode : Mode} (hg : s.grantableNow r mode = true) (m : Master) :
    (s.setLease r ((s.lease r).grantedNow m mode)).WaitLaw := by
  have hnone : s.entriesFor (s.handle r) = [] := by
    unfold State.grantableNow at hg
    rw [Bool.and_eq_true, List.isEmpty_iff] at hg
    exact hg.1
  refine of_order (h.hold.setLease (h.hold.grantedNow hg m) fun e => nomatch e) ?_
  refine h.order.of_record (r := r) (fun r' hr => (s.lease_setLease r r' _).trans (if_neg hr.symm))
    (State.handle_eq_of_generation (by rw [State.lease_setLease_self]; rfl)) h.queue (fun _ => .inl) (fun _ _ => rfl) ?_
    (fun _ => ?_) fun _ _ => id
  · show Lease.Queued _ (s.entriesFor (s.handle r))
    rw [hnone]
    exact .nil _
  · show Lease.grants _ (s.entriesFor (s.handle r)) = []
    rw [hnone]
    rfl

/-- A grant pass that is due on one record makes the queue lawful (R97). -/
theorem grantPass {r : RecordNo} (hold : s.HoldLaw) (h : s.WaitOrder (· = r)) : (s.grantPass r).WaitLaw :=
  of_order (hold.grantPass r) ((h.grantPass r (grants_moving hold h)).mono fun _ ⟨he, hne⟩ => hne he)

/-- A holder leaves a lease that has none of its UPGRADE entries; the pass runs and the lease goes the way of its fate: it
is IDLE or retired only where nobody waits (R17, R56, R89). -/
theorem leave_settle {r : RecordNo} {m : Master} (hold : s.HoldLaw) (h : s.WaitOrder (· = r))
    (hm : (s.lease r).holders.mem m = true) (still : (s.lease r).state ≠ .moving)
    (hown : ∀ e ∈ s.entriesFor (s.handle r), e.kind = .upgrade → e.master ≠ m) : ((s.leave r m).settle r).WaitLaw := by
  obtain ⟨l, hl, hlm, hlease⟩ := hold.leave_settle hm still
  refine of_order (hold.of_lease hlease hl fun e => absurd e hlm) ?_
  have hself : (s.removeHolder r m).lease r = (s.lease r).without m := State.lease_setLease_self _ _ _
  have hremoved : (s.removeHolder r m).WaitOrder (· = r) := by
    refine h.of_winds (.removeHolder (R := (· = r)) s rfl m) ?_ (fun hr => absurd rfl hr) fun _ _ => id
    rw [hself]
    exact (h.queued r).without hown
  have hleft : (s.leave r m).WaitOrder fun _ => False :=
    (hremoved.grantPass r fun c => absurd (by rw [hself] at c; exact c) still).mono fun _ ⟨he, hne⟩ => hne he
  generalize s.leave r m = u at hleft
  rcases u.settle_cases r with ⟨e, -⟩ | ⟨-, hempty, e | e⟩
  · rw [e]
    exact hleft
  · have hnone := (hleft.queued r).eq_nil_of_empty (hleft.passed r id) hempty
    rw [e]
    refine hleft.of_record (r := r) (fun r' hr => (u.lease_setLease r r' _).trans (if_neg hr.symm))
      (State.handle_eq_of_generation (by rw [State.lease_setLease_self])) hleft.queue (fun _ => .inl) (fun _ _ => rfl) ?_
      (fun _ => ?_) fun _ _ => id
    · show Lease.Queued _ (u.entriesFor (u.handle r))
      rw [hnone]
      exact .nil _
    · show Lease.grants _ (u.entriesFor (u.handle r)) = []
      rw [hnone]
      rfl
  · rw [e]
    exact order_retire (hleft.mono nofun) .emptied

end State.WaitLaw

end Sys2Proof.Machine
end

section
/-! ### Entries that come, go and time out (R84, R87, R95, R96, R100) -/

namespace Sys2Proof.Machine

/-- The master of no entry may come to wait. -/
theorem State.QueueLaw.wait {s t : State} (h : s.QueueLaw) {e : WaitEntry} (ht : t.queue.Perm (e :: s.queue))
    (hn : s.entryOf e.master = none) : t.QueueLaw := by
  have hqueue : (s.queue.map fun x => x.master).Nodup := h
  refine ((ht.map fun x => x.master).nodup_iff).2 (List.nodup_cons.2 ⟨fun hmem => ?_, hqueue⟩)
  obtain ⟨x, hx, hm⟩ := List.mem_map.1 hmem
  exact absurd hm (by simpa using List.find?_eq_none.1 hn x hx)

/-- The entry of a master, where a master has one at most (R83). -/
theorem State.QueueLaw.entryOf_eq {s : State} (h : s.QueueLaw) {e : WaitEntry} (he : e ∈ s.queue) :
    s.entryOf e.master = some e := by
  cases hf : s.entryOf e.master with
  | none => exact (List.find?_eq_none.1 hf e he (beq_self_eq_true _)).elim
  | some x => rw [h.unique (List.mem_of_find?_eq_some hf) he (by simpa using List.find?_some hf)]

theorem State.countQueue_entriesFor (s : State) (h : Handle) :
    s.countQueue.entriesFor h = (s.entriesFor h).map WaitEntry.countdown := by
  unfold State.entriesFor
  rw [show s.countQueue.queue = s.queue.map WaitEntry.countdown from rfl, List.filter_map]
  rfl

theorem State.QueueLaw.countQueue {s : State} (h : s.QueueLaw) : s.countQueue.QueueLaw := by
  unfold State.QueueLaw
  rw [show s.countQueue.queue = s.queue.map WaitEntry.countdown from rfl, List.map_map]
  exact h

theorem Lease.Queued.countdown {l : Lease} {entries : List WaitEntry} (h : l.Queued entries) :
    l.Queued (entries.map WaitEntry.countdown) where
  held hne := h.held fun e => hne (by rw [e]; rfl)
  acquire e he := by
    obtain ⟨x, hx, rfl⟩ := List.mem_map.1 he
    exact h.acquire x hx
  upgrade e he := by
    obtain ⟨x, hx, rfl⟩ := List.mem_map.1 he
    exact h.upgrade x hx
  head e he := by
    rw [← List.map_tail] at he
    obtain ⟨x, hx, rfl⟩ := List.mem_map.1 he
    exact h.head x hx

/-- A master that is no holder comes to wait behind every entry of the lease (R84, R87). -/
theorem Lease.Queued.behind {l : Lease} {entries : List WaitEntry} {e : WaitEntry} (h : l.Queued entries)
    (state : l.state = .held ∨ l.state = .moving) (kind : e.kind ≠ .upgrade) (hm : l.holders.mem e.master = false) :
    l.Queued (entries ++ [e]) where
  held _ := state
  acquire x hx hk := by
    rcases List.mem_append.1 hx with hx | hx
    · exact h.acquire x hx hk
    · exact List.mem_singleton.1 hx ▸ hm
  upgrade x hx hk := by
    rcases List.mem_append.1 hx with hx | hx
    · exact h.upgrade x hx hk
    · exact absurd (List.mem_singleton.1 hx ▸ hk) kind
  head x hx := by
    cases entries with
    | nil => cases hx
    | cons y rest =>
      rcases List.mem_append.1 hx with hx | hx
      · exact h.head x hx
      · exact List.mem_singleton.1 hx ▸ kind

/-- A SHARED holder comes to wait for its upgrade ahead of the entries of the lease, none of which is an UPGRADE
(R84, R95). -/
theorem Lease.Queued.ahead {l : Lease} {entries : List WaitEntry} {e : WaitEntry} (h : l.Queued entries)
    (state : l.state = .held ∨ l.state = .moving) (kind : e.kind = .upgrade) (mode : l.mode = some .shared)
    (hm : l.holders.mem e.master = true) (first : ∀ x ∈ entries, x.kind ≠ .upgrade) : l.Queued (e :: entries) where
  held _ := state
  acquire x hx hk := by
    rcases List.mem_cons.1 hx with rfl | hx
    · exact absurd kind hk
    · exact h.acquire x hx hk
  upgrade x hx hk := by
    rcases List.mem_cons.1 hx with rfl | hx
    · exact ⟨mode, hm⟩
    · exact absurd hk (first x hx)
  head := first

/-- The timeouts take the expired entries out of the queue and leave the leases (R100). -/
theorem State.timeOut_frame (s : State) : ∃ boxes, s.timeOut =
    { s with mailboxes := boxes, queue := s.queue.filter fun e => !(e.remaining == 0) } := by
  obtain ⟨boxes, e⟩ := s.endWaits_frame
    (fun e => { handle := e.handle, mode := some e.kind.mode, result := some .timedOut }) s.expired
  refine ⟨boxes, ?_⟩
  unfold State.endWaits at e
  unfold State.timeOut
  rw [e]
  rfl

namespace State.WaitOrder

variable {s : State}

/-- The entry of a master goes; a pass is due where it was the head (R54, R96). -/
theorem waitless {due : RecordNo → Prop} (h : s.WaitOrder due) (m : Master) :
    (s.waitless m).WaitOrder fun r => due r ∨ s.HeadedBy r m := by
  refine h.filter (t := s.waitless m) (fun e => e.master != m) rfl rfl fun r hr => ⟨fun c => hr (.inl c), fun e he => ?_⟩
  have hentries := (List.cons_head?_tail (Option.mem_def.2 he)).symm
  have hlive := (h.queued r).held (by rw [hentries]; exact List.cons_ne_nil _ _)
  rw [bne_iff_ne]
  refine fun hm => hr (.inr ⟨?_, e, _, hentries, hm⟩)
  rcases hlive with c | c <;> rw [c] <;> decide

/-- Every entry is counted down (R100). -/
theorem countQueue {due : RecordNo → Prop} (h : s.WaitOrder due) : s.countQueue.WaitOrder due where
  queue := h.queue.countQueue
  named e he := by
    obtain ⟨x, hx, rfl⟩ := List.mem_map.1 he
    exact h.named x hx
  queued r := by
    rw [State.countQueue_entriesFor]
    exact (h.queued r).countdown
  passed r hr := by
    have hpassed := h.passed r hr
    rw [State.countQueue_entriesFor]
    show (s.lease r).grants ((s.entriesFor (s.handle r)).map WaitEntry.countdown) = []
    cases hq : s.entriesFor (s.handle r) with
    | nil => rfl
    | cons e rest =>
      rw [hq] at hpassed
      exact Lease.grants_eq_nil_of_head (e' := e.countdown) hpassed rfl rfl (rest.map WaitEntry.countdown)

/-- The expired entries go; passes are due on the leases whose heads they were (R100). -/
theorem timeOut {due : RecordNo → Prop} (h : s.WaitOrder due) : s.timeOut.WaitOrder fun r => due r ∨ r ∈ s.expiredHeads := by
  obtain ⟨boxes, ht⟩ := s.timeOut_frame
  rw [ht]
  refine h.filter _ rfl rfl fun r hr => ⟨fun c => hr (.inl c), fun e he => ?_⟩
  have hlive := (h.queued r).held (List.ne_nil_of_mem (List.mem_of_mem_head? (Option.mem_def.2 he)))
  rw [Bool.not_eq_true', Bool.eq_false_iff]
  refine fun hexp => hr (.inr (List.mem_filter.2 ⟨mem_allRecords r, ?_⟩))
  rw [he, Option.any_some, hexp, Bool.and_true, bne_iff_ne]
  rcases hlive with c | c <;> rw [c] <;> decide

end State.WaitOrder

namespace State.WaitLaw

variable {s : State}

/-- New entries for one lease join the queue and leave it lawful. -/
theorem wait {r : RecordNo} {e : WaitEntry} {q entries : List WaitEntry} (h : s.WaitLaw) (perm : q.Perm (e :: s.queue))
    (hn : s.entryOf e.master = none) (handle : e.handle = s.handle r)
    (self : q.filter (fun x => x.handle == s.handle r) = entries)
    (others : ∀ r', r' ≠ r → q.filter (fun x => x.handle == s.handle r') = s.entriesFor (s.handle r'))
    (queued : (s.lease r).Queued entries) (passed : (s.lease r).grants entries = []) : (s.setQueue q).WaitLaw := by
  subst self
  refine of_order ((State.holdLaw_iff _).2 (s.holdLaw_iff.1 h.hold)) ?_
  refine h.order.of_record (r := r) (fun _ _ => rfl) rfl (h.queue.wait perm hn) (fun x hx => ?_) others queued
    (fun _ => passed) fun _ _ => id
  rcases List.mem_cons.1 (perm.subset hx) with rfl | hx
  · exact .inr handle
  · exact .inl hx

/-- An ACQUIRE that is not grantable now finds the lease HELD or MOVING (R86). -/
theorem held_of_not_grantableNow (h : s.WaitLaw) {r : RecordNo} {mode : Mode} (live : (s.lease r).state ≠ .free)
    (hg : s.grantableNow r mode = false) : (s.lease r).state = .held ∨ (s.lease r).state = .moving := by
  by_cases hempty : s.entriesFor (s.handle r) = []
  · cases hs : (s.lease r).state with
    | free => exact absurd hs live
    | idle =>
      unfold State.grantableNow at hg
      rw [hempty, hs] at hg
      cases hg
    | held => exact .inl rfl
    | moving => exact .inr rfl
  · exact (h.order.queued r).held hempty

/-- An ACQUIRE that is not grantable now waits behind every entry (R84, R87). -/
theorem queueAcquire (h : s.WaitLaw) {r : RecordNo} {m : Master} {mode : Mode} (live : (s.lease r).state ≠ .free)
    (hm : (s.lease r).holders.mem m = false) (hg : s.grantableNow r mode = false) (hn : s.entryOf m = none) (limit : Nat) :
    (s.queueAcquire m (s.handle r) mode limit).WaitLaw := by
  have hstate := h.held_of_not_grantableNow live hg
  have hkind : kindOfAcquire mode ≠ .upgrade := by cases mode <;> decide
  unfold State.queueAcquire
  refine h.wait (r := r) (List.perm_append_singleton _ _) hn rfl ?_ (fun r' hr' => ?_)
    ((h.order.queued r).behind (e := { master := m, handle := s.handle r, kind := kindOfAcquire mode, remaining := limit })
      hstate hkind hm) ?_
  · rw [List.filter_append]
    exact congrArg _ (List.filter_eq_self.2 fun x hx => by rw [List.mem_singleton.1 hx]; exact beq_self_eq_true _)
  · rw [List.filter_append]
    refine (congrArg _ (List.filter_eq_nil_iff.2 fun x hx => ?_)).trans (List.append_nil _)
    rw [List.mem_singleton.1 hx, beq_iff_eq]
    exact State.handle_ne hr'.symm
  · cases hq : s.entriesFor (s.handle r) with
    | cons x rest =>
      have hpassed := h.order.passed r id
      rw [hq] at hpassed
      exact Lease.grants_eq_nil_of_head hpassed rfl rfl _
    | nil =>
      obtain ⟨hheld, -⟩ := (h.hold.rule r).held hstate
      unfold State.grantableNow at hg
      rw [hq] at hg
      cases mode with
      | exclusive => simpa [Lease.grants, kindOfAcquire] using hheld
      | shared =>
        have hmode : (s.lease r).mode ≠ some .shared := fun c => by
          rcases hstate with hs | hs
          · simp [hs, c] at hg
          · rw [(h.hold.rule r).moving hs] at c
            cases c
        simpa [Lease.grants, kindOfAcquire, hmode] using hheld

/-- An UPGRADE that is not granted at once waits at the head of its lease (R84, R95). -/
theorem insertUpgrade (h : s.WaitLaw) {r : RecordNo} {m : Master} (hm : (s.lease r).holders.mem m = true)
    (hx : (s.lease r).mode ≠ some .exclusive) (others : (s.lease r).holders ≠ MasterSet.single m)
    (hfirst : s.upgradeEntry (s.handle r) = none) (hn : s.entryOf m = none) (limit : Nat) :
    (s.setQueue (Machine.insertUpgrade { master := m, handle := s.handle r, kind := .upgrade, remaining := limit }
      s.queue)).WaitLaw := by
  have hrule := h.hold.rule r
  have hne := MasterSet.ne_zero_of_mem hm
  have hheld : (s.lease r).state = .held := hrule.held_of_holder hne fun c => hx (hrule.moving c)
  have hmode : (s.lease r).mode = some .shared := by
    cases hc : (s.lease r).mode with
    | none => exact absurd hc (hrule.held (.inl hheld)).2
    | some mode =>
      cases mode with
      | shared => rfl
      | exclusive => exact absurd hc hx
  refine h.wait (r := r) (BookOps.insertUpgrade_perm _ _) hn rfl ((filter_insertUpgrade _ _ _).trans (if_pos rfl))
    (fun r' hr' => (filter_insertUpgrade _ _ _).trans (if_neg (State.handle_ne hr'.symm)))
    ((h.order.queued r).ahead (.inl hheld) rfl hmode hm fun x hx => by
      simpa using List.find?_eq_none.1 hfirst x hx) ?_
  simp [Lease.grants, others]

/-- The entry of a master goes, with the grant pass of the lease it headed (R54, R96). -/
theorem endStage1 (h : s.WaitLaw) (m : Master) : (s.endStage1 m).WaitLaw := by
  have hold : (s.waitless m).HoldLaw := (State.holdLaw_iff _).2 (s.holdLaw_iff.1 h.hold)
  have horder := h.order.waitless m
  rcases State.endStage1_cases h.queue m with ⟨e, hnone⟩ | ⟨r, hr, e⟩
  · rw [e]
    exact of_order hold (horder.mono fun r hr => hr.elim id (hnone r))
  · rw [e]
    refine grantPass hold (horder.mono fun r' hr' => ?_)
    obtain ⟨-, x, rest, hx, hxm⟩ := hr
    obtain ⟨-, y, rest', hy, hym⟩ := hr'.resolve_left id
    obtain ⟨hxq, hxh⟩ := State.mem_entriesFor.1 (hx ▸ List.mem_cons_self : x ∈ s.entriesFor (s.handle r))
    obtain ⟨hyq, hyh⟩ := State.mem_entriesFor.1 (hy ▸ List.mem_cons_self : y ∈ s.entriesFor (s.handle r'))
    cases h.queue.unique hxq hyq (hxm.trans hym.symm)
    exact State.handle_inj (hyh.symm.trans hxh)

/-- The grant passes that are due run one after another (R100). -/
theorem foldl_grantPass {records : List RecordNo} {s : State} (hold : s.HoldLaw) (h : s.WaitOrder (· ∈ records)) :
    (records.foldl State.grantPass s).WaitLaw := by
  induction records generalizing s with
  | nil => exact of_order hold (h.mono fun _ => nofun)
  | cons r rest ih =>
    refine ih (hold.grantPass r) ((h.grantPass r (grants_moving hold h)).mono fun r' ⟨hmem, hne⟩ => ?_)
    exact (List.mem_cons.1 hmem).resolve_left hne

/-- The wait queue's happening of a tick: countdown, timeouts and grant passes (R100). -/
theorem queueTick (h : s.WaitLaw) : s.queueTick.WaitLaw := by
  have hold : s.countQueue.timeOut.HoldLaw :=
    State.HoldLaw.of_quiet s.countQueue.timeOut_quiet ((State.holdLaw_iff _).2 (s.holdLaw_iff.1 h.hold))
  exact foldl_grantPass hold (h.order.countQueue.timeOut.mono fun r hr => hr.resolve_left id)

/-! #### The ending of a session (R53 to R56) -/

/-- Stage 2 abandons the move of a MOVING lease at most (R55). -/
theorem endStage2 (h : s.WaitLaw) (m : Master) : (s.endStage2 m).WaitLaw := by
  unfold State.endStage2
  split
  · next r hr =>
    split
    · exact h.abandonMove (State.movingRecord_moving hr) _
    · exact h
  · exact h

/-- A master that waits for nothing leaves one of its leases (R56). -/
theorem endHold (h : s.WaitLaw) {m : Master} (r : RecordNo) (waits : ∀ e ∈ s.queue, e.master ≠ m)
    (still : ∀ r, (s.lease r).holders.mem m = true → (s.lease r).state ≠ .moving) :
    (State.endHold m s r).WaitLaw := by
  unfold State.endHold
  split
  · next hm =>
    exact leave_settle h.hold (h.order.mono nofun) hm (still r hm) fun e he _ => waits e (State.mem_entriesFor.1 he).1
  · exact h

/-- Stage 3 leaves every lease of a master that waits for nothing (R56). -/
theorem foldl_endHold {m : Master} (records : List RecordNo) {s : State} (h : s.WaitLaw)
    (waits : ∀ e ∈ s.queue, e.master ≠ m)
    (still : ∀ r, (s.lease r).holders.mem m = true → (s.lease r).state ≠ .moving) :
    (records.foldl (State.endHold m) s).WaitLaw := by
  induction records generalizing s with
  | nil => exact h
  | cons r rest ih =>
    have hw := State.Winds.endHold (R := (· = r)) s rfl m
    refine ih (h.endHold r waits still) (fun e he => waits e (hw.queue.subset he)) fun r' hm hr' => ?_
    rcases hw.holders r' m hm with hold | ⟨e, he, -, hem⟩
    · exact still r' hold (hw.moving r' hr')
    · exact waits e he hem

theorem endSession (h : s.WaitLaw) (m : Master) (reason : EndReason) : (s.endSession m reason).WaitLaw := by
  have h1 := h.endStage1 m
  have h2 := h1.endStage2 m
  have hwaits : ∀ e ∈ ((s.endStage1 m).endStage2 m).queue, e.master ≠ m := fun e he =>
    State.endStage1_waits h.queue m e
      ((State.Winds.endStage2 (s.endStage1 m) (R := fun _ => True) m fun _ _ _ => trivial).queue.subset he)
  have h3 : (((s.endStage1 m).endStage2 m).endStage3 m).WaitLaw :=
    foldl_endHold allRecords h2 hwaits (h1.hold.endStage2 m).2
  unfold State.endSession
  generalize ((s.endStage1 m).endStage2 m).endStage3 m = u at h3
  unfold State.endNotices
  split <;> exact h3.same rfl rfl

end State.WaitLaw

end Sys2Proof.Machine
end

section
/-! ### Every command keeps the laws of the wait queue (R83, R84, R86, R87, R95 to R98) -/

namespace Sys2Proof.Machine

open Host (Outcome)

namespace State.WaitLaw

variable {s t : State}

/-! #### Requests -/

theorem takeRequest {q : Request} {carryOut : State → Master → State × Answer} (h : s.WaitLaw)
    (hb : ∀ s m, s.WaitLaw → (carryOut s m).1.WaitLaw) (ht : Machine.takeRequest q carryOut s = .next t) : t.WaitLaw := by
  unfold Machine.takeRequest at ht
  split at ht
  · split at ht
    · cases ht
      exact (hb _ _ h).same rfl rfl
    · cases ht
      exact h
  · cases ht
    exact h

/-- A request of an open session, after its renewal (R50). -/
theorem takeInSession {q : Request} {carryOut : State → Master → State × Answer} (h : s.WaitLaw)
    (hb : ∀ s m, s.WaitLaw → (carryOut s m).1.WaitLaw)
    (ht : Machine.takeRequest q (withSession carryOut) s = .next t) : t.WaitLaw := by
  refine h.takeRequest (fun s m h => ?_) ht
  unfold withSession
  split
  · exact hb _ _ (h.same rfl rfl)
  · exact h

/-- A request of an open session that names a lease. -/
theorem takeOnLease {q : Request} {carryOut : State → Master → RecordNo → State × Answer} (h : s.WaitLaw)
    (hb : ∀ s m r, s.WaitLaw → (s.lease r).state ≠ .free → (carryOut s m r).1.WaitLaw)
    (ht : Machine.takeRequest q (withSession (withLease carryOut)) s = .next t) : t.WaitLaw := by
  refine h.takeInSession (fun s m h => ?_) ht
  unfold withLease
  split
  · next r hr => exact hb s m r h ((s.validate_iff _ _).1 hr).live
  · exact h

theorem openBody (h : s.WaitLaw) (m : Master) : (openBody s m).1.WaitLaw := by
  have hrenewed : (s.renewIfOpen m).WaitLaw := by
    unfold State.renewIfOpen
    split
    · exact h.sameBooks (.renew s m)
    · exact h
  unfold Machine.openBody
  dsimp only
  split
  · exact hrenewed
  · split
    · exact hrenewed
    · split
      · exact (h.endSession m .reopened).wakeEngine.same rfl rfl
      · exact h.same rfl rfl

theorem closeBody (h : s.WaitLaw) (m : Master) : (closeBody s m).1.WaitLaw := by
  unfold Machine.closeBody
  split
  · exact (h.endSession m .closed).wakeEngine
  · exact h

theorem createBody (h : s.WaitLaw) (m : Master) : (createBody s m).1.WaitLaw := by
  unfold Machine.createBody
  dsimp only
  split
  · exact h.same rfl rfl
  · next r hr =>
    split
    · exact h
    · split
      · exact h
      · split
        · exact h
        · split
          · exact h
          · split
            · exact h
            · exact h.createLease m _ (State.firstFree_free hr)

theorem findBody (h : s.WaitLaw) (m : Master) : (findBody s m).1.WaitLaw := by
  unfold Machine.findBody
  dsimp only
  split
  · exact h
  · split <;> exact h

/-- The written flag of a lease changes (R78, R144). -/
theorem written (h : s.WaitLaw) (r : RecordNo) (w : Bool) : (s.setLease r { s.lease r with written := w }).WaitLaw :=
  h.of_lease (s.lease_setLease r · _) rfl rfl rfl rfl rfl rfl

theorem markBody (h : s.WaitLaw) (m : Master) (r : RecordNo) : (markBody s m r).1.WaitLaw := by
  unfold Machine.markBody
  dsimp only
  split
  · exact h
  · split
    · exact h
    · exact h.written r false

theorem retireBody (h : s.WaitLaw) (m : Master) (r : RecordNo) : (retireBody s m r).1.WaitLaw := by
  unfold Machine.retireBody
  dsimp only
  split
  · exact h
  · split
    · exact h
    · split
      · exact (h.retire r .byOwner).wakeEngine
      · exact h

theorem acquireBody (h : s.WaitLaw) (m : Master) (r : RecordNo) (live : (s.lease r).state ≠ .free) :
    (acquireBody s m r).1.WaitLaw := by
  unfold Machine.acquireBody
  dsimp only
  split
  · exact h
  · split
    · exact h
    · next hm =>
      split
      · exact h
      · split
        · next hg => exact h.grantedNow hg m
        · next hg =>
          split
          · exact h
          · split
            · exact h
            · next hn =>
              exact h.queueAcquire live (Bool.eq_false_iff.2 hm) (Bool.eq_false_iff.2 hg) hn _

/-- Stage 2 of RELEASE leaves no UPGRADE entry of the releaser on the lease, with the pass of stage 5 due (R90). -/
theorem cancelUpgrade (h : s.WaitLaw) (m : Master) (r : RecordNo) :
    (s.cancelUpgrade m (s.handle r)).WaitOrder (· = r) ∧
      ∀ e ∈ (s.cancelUpgrade m (s.handle r)).entriesFor (s.handle r), e.kind = .upgrade → e.master ≠ m := by
  by_cases hown : ∃ e, s.entryOf m = some e ∧ e.handle = s.handle r ∧ e.kind = .upgrade
  · obtain ⟨e, he, hh, hk⟩ := hown
    have hcancel : s.cancelUpgrade m (s.handle r) = (s.setQueue (dropFromQueue s.queue m (s.handle r))).endWait m
        { handle := s.handle r, mode := some .exclusive, result := some .cancelled } := by
      unfold State.cancelUpgrade
      rw [he]
      exact if_pos ⟨hh, hk⟩
    rw [hcancel]
    refine ⟨h.order.filter (fun x => !(x.master == m && x.handle == s.handle r)) rfl rfl fun r' hr' => ⟨id, fun x hx => ?_⟩,
      fun x hx _ hxm => ?_⟩
    · have hxh := (State.mem_entriesFor.1 (List.mem_of_mem_head? (Option.mem_def.2 hx))).2
      rw [hxh, beq_eq_false_iff_ne.2 (State.handle_ne hr'), Bool.and_false]
      rfl
    · obtain ⟨hq, hh⟩ := State.mem_entriesFor.1 hx
      have hkept := (List.mem_filter.1 (show x ∈ dropFromQueue s.queue m (s.handle r) from hq)).2
      simp [hxm, hh] at hkept
  · have hcancel : s.cancelUpgrade m (s.handle r) = s := by
      unfold State.cancelUpgrade
      split
      · next e he => exact if_neg fun c => hown ⟨e, he, c⟩
      · rfl
    rw [hcancel]
    refine ⟨h.order.mono nofun, fun e he hk hm => hown ?_⟩
    obtain ⟨hq, hh⟩ := State.mem_entriesFor.1 he
    exact ⟨e, hm ▸ h.queue.entryOf_eq hq, hh, hk⟩

theorem releaseBody (h : s.WaitLaw) (m : Master) (r : RecordNo) : (releaseBody s m r).1.WaitLaw := by
  unfold Machine.releaseBody
  split
  · exact h
  · next hm =>
    dsimp only
    rw [State.releaseUpToPass_grantPass]
    have hmove : (s.releaseMove r).WaitLaw := by
      unfold State.releaseMove
      split
      · next hv => exact h.abandonMove hv .released
      · exact h
    have hlease := s.releaseMove_lease r
    have hhandle : (s.releaseMove r).handle r = s.handle r := State.handle_eq_of_generation (by
      rw [hlease]
      unfold Lease.unmoved
      split <;> rfl)
    generalize s.releaseMove r = u at hmove hlease hhandle
    obtain ⟨horder, hown⟩ := hmove.cancelUpgrade m r
    rw [hhandle] at horder hown
    have hquiet := u.releaseNotices_quiet m (s.handle r) (s.handle r)
    have horder' : ((u.cancelUpgrade m (s.handle r)).releaseApertures m (s.handle r)).WaitOrder (· = r) :=
      horder.same rfl rfl
    have hvlease : ((u.cancelUpgrade m (s.handle r)).releaseApertures m (s.handle r)).lease r = (s.lease r).unmoved :=
      (hquiet.lease r).trans hlease
    have hvhandle : ((u.cancelUpgrade m (s.handle r)).releaseApertures m (s.handle r)).handle r = s.handle r :=
      (State.handle_eq_of_generation (by rw [hquiet.lease])).trans hhandle
    refine (leave_settle (State.HoldLaw.of_quiet hquiet hmove.hold) horder' ?_ ?_ ?_).wakeEngine
    · rw [hvlease, Lease.unmoved_holders]
      exact Bool.not_eq_false _ ▸ hm
    · rw [hvlease]
      exact Lease.unmoved_not_moving _
    · rw [hvhandle]
      exact hown

/-- CONVERT to SHARED by the EXCLUSIVE holder, with its grant pass (R93). -/
theorem downgrade (h : s.WaitLaw) {m : Master} {r : RecordNo} (hm : (s.lease r).holders.mem m = true)
    (still : (s.lease r).state ≠ .moving) (hmode : (s.lease r).mode ≠ some .shared) :
    ((s.setLease r { s.lease r with mode := some .shared }).grantPass r).WaitLaw := by
  have hold := h.hold.setLease (r := r) (h.hold.converted (mode := .shared) still hm nofun) (fun e => absurd e still)
  refine grantPass hold (h.order.of_record (r := r) (fun r' hr => (s.lease_setLease r r' _).trans (if_neg hr.symm))
    (State.handle_eq_of_generation (by rw [State.lease_setLease_self])) h.queue (fun _ => .inl) (fun _ _ => rfl) ?_
    (fun c => absurd rfl c) fun _ _ => nofun)
  have hqueued := h.order.queued r
  rw [State.lease_setLease_self]
  exact ⟨hqueued.held, hqueued.acquire, fun e he hk => absurd (hqueued.upgrade e he hk).1 hmode, hqueued.head⟩

/-- CONVERT to EXCLUSIVE by the sole holder: what waits, waits on (R94). -/
theorem upgradeNow (h : s.WaitLaw) {m : Master} {r : RecordNo} (alone : (s.lease r).holders = MasterSet.single m)
    (still : (s.lease r).state ≠ .moving) : (s.setLease r { s.lease r with mode := some .exclusive }).WaitLaw := by
  have hold := h.hold.setLease (r := r) (h.hold.converted (mode := .exclusive) still (by rw [alone]; simp) fun _ => alone)
    (fun e => absurd e still)
  have hqueued := h.order.queued r
  have hnew : ({ s.lease r with mode := some .exclusive } : Lease).Queued (s.entriesFor (s.handle r)) := by
    refine ⟨hqueued.held, hqueued.acquire, fun e he hk => ?_, hqueued.head⟩
    obtain ⟨hq, hh⟩ := State.mem_entriesFor.1 he
    have hlive : (s.lease r).state ≠ .free := by
      rcases hqueued.held (List.ne_nil_of_mem he) with c | c <;> rw [c] <;> decide
    obtain ⟨-, hmem, hothers⟩ := h.upgrade e hq hk r (State.names_iff.2 ⟨hh, hlive⟩)
    rw [alone] at hmem hothers
    rw [MasterSet.eq_of_mem_single hmem] at hothers
    exact absurd rfl hothers
  refine of_order hold (h.order.of_record (r := r) (fun r' hr => (s.lease_setLease r r' _).trans (if_neg hr.symm))
    (State.handle_eq_of_generation (by rw [State.lease_setLease_self])) h.queue (fun _ => .inl) (fun _ _ => rfl) ?_
    (fun _ => ?_) fun _ _ => id)
  · rw [State.lease_setLease_self]
    exact hnew
  · rw [State.lease_setLease_self]
    exact hnew.grants_exclusive rfl (alone ▸ MasterSet.single_ne_zero m)

theorem convertBody (h : s.WaitLaw) (m : Master) (r : RecordNo) : (convertBody s m r).1.WaitLaw := by
  unfold Machine.convertBody
  dsimp only
  split
  · exact h
  · next hm =>
    have hm := Bool.not_eq_false _ ▸ hm
    split
    · exact h
    · split
      · exact h
      · next still =>
        split
        · exact h
        · next hmode =>
          split
          · exact h.downgrade hm still hmode
          · split
            · next alone => exact h.upgradeNow alone still
            · next others =>
              unfold queuedUpgrade
              split
              · exact h
              · next hfirst =>
                split
                · exact h
                · split
                  · exact h
                  · next hn => exact h.insertUpgrade hm hmode others hfirst hn _

theorem cancelBody (h : s.WaitLaw) (m : Master) : (cancelBody s m).1.WaitLaw := by
  have hstage := h.endStage1 m
  unfold State.endStage1 at hstage
  unfold Machine.cancelBody
  split
  · exact h
  · next e he =>
    rw [he] at hstage
    exact hstage

theorem resizeBody (h : s.WaitLaw) (m : Master) (r : RecordNo) : (resizeBody s m r).1.WaitLaw := by
  unfold Machine.resizeBody
  dsimp only
  split
  · exact h
  · next hl =>
    split
    · exact h
    · split
      · exact h
      · split
        · split
          · exact h
          · split
            · exact (h.shrinkLease r _ _ _).wakeEngine
            · unfold growBody
              split
              · exact h
              · split
                · exact h.growLease r _ _
                · unfold growByMove
                  split
                  · exact h
                  · next hn =>
                    split
                    · exact h
                    · exact (h.startMove (Bool.not_eq_false _ ▸ hl) hn _).wakeEngine
        · exact h

theorem bindBody (h : s.WaitLaw) (m : Master) (r : RecordNo) : (bindBody s m r).1.WaitLaw := by
  unfold Machine.bindBody
  dsimp only
  split
  · exact h
  · exact h.same rfl rfl

/-! #### Data accesses, bursts and ticks -/

/-- An access at the port sets a written flag at most (R144). -/
theorem serve (h : s.WaitLaw) (x : Transfer) : (s.serve x).WaitLaw := by
  rcases s.serve_cases x with ⟨b, a, e⟩ | ⟨m, r, address, -, -, -, e⟩
  · rw [e]
    exact h.same rfl rfl
  · rw [e]
    exact (h.written r true).same rfl rfl

theorem takeTransfer (h : s.WaitLaw) (x : Transfer) : (s.takeTransfer x).WaitLaw := by
  rcases s.takeTransfer_cases x with e | ⟨-, e⟩ | ⟨-, e⟩
  · rw [e]
    exact h
  · rw [e]
    exact h.serve x
  · rw [e]
    exact h.same rfl rfl

/-- Of the ends of bursts only the completion of a move shows (R120). -/
theorem burst {c : Instr} (h : s.WaitLaw) (ht : s.BurstEnds c t) : t.WaitLaw := by
  cases ht with
  | scrub => exact (h.sameBooks (.zeroBurst s _ _)).sameBooks (.setEngine _ _)
  | @scrubBlock b =>
    have hz := h.sameBooks (.zeroBurst s b.1 63)
    generalize s.zeroBurst b.1 63 = u at hz
    have hf : ((u.setPool (u.pool.freeBlock b)).setEngine u.engine.endScrub).WaitLaw := hz.same rfl rfl
    exact (hf.sameBooks (.checkReady _)).sameBooks (.chooseStep _)
  | cutScrub => exact (h.sameBooks (.zeroBurst s _ _)).sameBooks (.chooseStep _)
  | copy => exact (h.sameBooks (.moverBurst s _)).sameBooks (.setEngine _ _)
  | cutCopy => exact (h.sameBooks (.copyBurst s _ _ _)).sameBooks (.chooseStep _)
  | copyBlock => exact ((h.sameBooks (.moverBurst s _)).sameBooks (.setEngine _ _)).sameBooks (.chooseStep _)
  | complete => exact ((h.sameBooks (.moverBurst s _)).completeMove _).sameBooks (.chooseStep _)

theorem burstEnd {c : Instr} (h : s.WaitLaw) (hc : c ∈ burstEnds) (ht : Machine.exec c s = .next t) : t.WaitLaw := by
  rcases exec_burstEnds hc ht with rfl | ⟨u, hu, rfl⟩
  · exact h
  · have hp : (u.setPortWait none).WaitLaw := (h.burst hu).same rfl rfl
    exact State.servePort_keeps hp fun x => hp.serve x

theorem sessionTick (h : s.WaitLaw) : s.sessionTick.WaitLaw := by
  have hc := h.sameBooks (.countSessions s)
  unfold State.sessionTick State.lapseAll
  split
  · exact hc
  · exact (List.foldlRecOn _ _ hc fun u hu m _ => State.WaitLaw.endSession hu m .lapsed).wakeEngine

/-! #### Supervisor commands and system reset -/

theorem takeSupervisor {c : SupervisorCommand} {carryOut : State → State × AnswerCode} (h : s.WaitLaw)
    (hb : (carryOut s).1.WaitLaw) (ht : Machine.takeSupervisor c carryOut s = .next t) : t.WaitLaw := by
  unfold Machine.takeSupervisor at ht
  split at ht
  · split at ht
    · cases ht
      exact hb.same rfl rfl
    · cases ht
      exact h
  · cases ht
    exact h

theorem revokeBody (h : s.WaitLaw) : (revokeBody s).1.WaitLaw := by
  unfold Machine.revokeBody
  split
  · exact (h.retire _ .revoked).wakeEngine
  · exact h

theorem evictBody (h : s.WaitLaw) : (evictBody s).1.WaitLaw := by
  unfold Machine.evictBody
  dsimp only
  split
  · split
    · exact (h.endSession _ .evicted).wakeEngine
    · exact h
  · exact h

theorem resetAllBody (s : State) : (resetAllBody s).1.WaitLaw := by
  rw [resetAllBody_eq]
  exact (of_allFree s.resetCleared_allFree rfl).wakeEngine

/-! #### Every command -/

theorem exec {c : Instr} (h : s.WaitLaw) (ht : exec c s = .next t) : t.WaitLaw := by
  have offBooks : OffBooks c → t.WaitLaw := fun hc => h.sameBooks (.of_offBooks hc ht)
  cases c with
  | takeOpen => exact h.takeRequest (fun _ m h => h.openBody m) ht
  | takeRenew => exact h.takeInSession (fun _ _ h => h) ht
  | takeClose => exact h.takeRequest (fun _ m h => h.closeBody m) ht
  | takeCreate => exact h.takeInSession (fun _ m h => h.createBody m) ht
  | takeFind => exact h.takeInSession (fun _ m h => h.findBody m) ht
  | takeQuery => exact h.takeOnLease (fun _ _ _ h _ => h) ht
  | takeMark => exact h.takeOnLease (fun _ m r h _ => h.markBody m r) ht
  | takeRetire => exact h.takeOnLease (fun _ m r h _ => h.retireBody m r) ht
  | takeAcquire => exact h.takeOnLease (fun _ m r h live => h.acquireBody m r live) ht
  | takeRelease => exact h.takeOnLease (fun _ m r h _ => h.releaseBody m r) ht
  | takeConvert => exact h.takeOnLease (fun _ m r h _ => h.convertBody m r) ht
  | takeCancel => exact h.takeInSession (fun _ m h => h.cancelBody m) ht
  | takeResize => exact h.takeOnLease (fun _ m r h _ => h.resizeBody m r) ht
  | takeBind => exact h.takeOnLease (fun _ m r h _ => h.bindBody m r) ht
  | takeUnbind => exact h.takeInSession (fun _ _ h => h.same rfl rfl) ht
  | takeUndefined => exact h.takeInSession (fun _ _ h => h) ht
  | dataRead master address width => cases ht; exact h.takeTransfer _
  | dataWrite master address width lanes => cases ht; exact h.takeTransfer _
  | sessionCountdown => exact LeaseOps.next_of_ite ht h.sessionTick h
  | sessionLapse => exact LeaseOps.next_of_ite ht h.sessionTick h
  | waitQueueCountdown => exact LeaseOps.next_of_ite ht h.queueTick h
  | waitTimeout => exact LeaseOps.next_of_ite ht h.queueTick h
  | scrubBurstEnd => exact h.burstEnd (by simp [burstEnds]) ht
  | scrubBlockStepEnd => exact h.burstEnd (by simp [burstEnds]) ht
  | copyBurstEnd => exact h.burstEnd (by simp [burstEnds]) ht
  | copyBlockStepEnd => exact h.burstEnd (by simp [burstEnds]) ht
  | moveCompletion => exact h.burstEnd (by simp [burstEnds]) ht
  | takeRevoke => exact h.takeSupervisor h.revokeBody ht
  | takeEvict => exact h.takeSupervisor h.evictBody ht
  | takeResetAll => exact h.takeSupervisor (resetAllBody s) ht
  | takeUndefinedSupervisor => exact h.takeSupervisor h ht
  | systemReset => cases ht; exact s.systemReset_atReset.waitLaw
  | _ => exact offBooks trivial

theorem step (h : s.WaitLaw) (ht : Machine.step s = .next t) : t.WaitLaw := by
  unfold Machine.step at ht
  split at ht
  · cases ht
    exact h
  · next rest _ =>
    have hrest : ({ s with pending := rest } : State).WaitLaw := h.same rfl rfl
    exact hrest.exec ht

end State.WaitLaw

/-- Settles O57: the law of holders goes along, and every pass that comes due is run in the same happening. -/
theorem stepKeepsTheWaitQueue : Obligations.StepKeepsTheWaitQueue := fun _ _ ht h => h.step ht

end Sys2Proof.Machine
end

section
/-! ### What the grant pass does to the card (R97 to R99) -/

namespace Sys2Proof.Machine

theorem State.entryOf_eq_none {s : State} {m : Master} (h : ∀ e ∈ s.queue, e.master ≠ m) : s.entryOf m = none :=
  List.find?_eq_none.2 fun e he => by simpa using h e he

theorem State.entriesFor_eq_nil {s : State} {h : Handle} : s.entriesFor h = [] ↔ s.NoWaiters h := by
  unfold State.entriesFor State.NoWaiters
  rw [List.filter_eq_nil_iff]
  simp

theorem State.entriesFor_head? (s : State) (h : Handle) :
    (s.entriesFor h).head? = s.queue.find? fun e => e.handle == h := List.head?_filter ..

theorem State.grantable_still {s : State} {r : RecordNo} (h : (s.lease r).state ≠ .moving) :
    s.grantable r = (s.lease r).grants (s.entriesFor (s.handle r)) := by
  rw [s.grantable_eq, if_neg h]

/-- A master whose entry is granted has no other, so that it leaves the queue (R83, R98). -/
theorem State.QueueLaw.grantPass_queue_masters {s : State} (h : s.QueueLaw) (r : RecordNo) :
    (s.grantPass r).queue = s.queue.filter fun x => !((s.grantable r).map fun e => e.master).contains x.master := by
  rw [h.grantPass_queue]
  refine List.filter_congr fun x hx => ?_
  rw [Bool.eq_iff_iff, decide_eq_true_eq, Bool.not_eq_true', Bool.eq_false_iff, Ne, List.contains_iff_mem, not_iff_not]
  refine ⟨List.mem_map_of_mem, fun hm => ?_⟩
  obtain ⟨y, hy, hyx⟩ := List.mem_map.1 hm
  have hyq := (State.mem_entriesFor.1 ((s.grantable_sublist r).subset hy)).1
  exact h.unique hyq hx hyx ▸ hy

/-- The pass takes as many entries out of the queue as it grants. -/
theorem State.QueueLaw.grantPass_length {s : State} (h : s.QueueLaw) (r : RecordNo) :
    (s.grantPass r).queue.length + (s.grantable r).length = s.queue.length := by
  have hnodup : s.queue.Nodup := List.Nodup.of_map _ h
  have hsub := (s.grantable_sublist r).trans List.filter_sublist
  have hgranted : (s.queue.filter fun y => decide (y ∈ s.grantable r)).length = (s.grantable r).length := by
    refine List.Perm.length_eq ((List.perm_ext_iff_of_nodup (hnodup.filter _) (hnodup.sublist hsub)).2 fun y => ?_)
    rw [List.mem_filter, decide_eq_true_eq]
    exact ⟨fun hy => hy.2, fun hy => ⟨hsub.subset hy, hy⟩⟩
  have hsplit := List.length_eq_length_filter_add (l := s.queue) fun y => decide (y ∈ s.grantable r)
  rw [h.grantPass_queue, hsplit, hgranted, Nat.add_comm]
  simp only [decide_not]

/-- The grant of a single entry, the head of its lease (R98). -/
theorem State.QueueLaw.grantPass_single {s : State} (h : s.QueueLaw) {r : RecordNo} {e : WaitEntry}
    (hg : s.grantable r = [e]) :
    (s.grantPass r).leases = s.leases.set r ((s.lease r).granted e) ∧
      (s.grantPass r).queue = s.queue.filter (fun x => x.master != e.master) ∧
      ((s.grantPass r).mailbox e.master).waitRecord =
        { handle := s.handle r, mode := some e.kind.mode, result := some .granted } ∧
      ((s.grantPass r).mailbox e.master).events.getLsbD 1 = true ∧
      ∀ m, m ≠ e.master → (s.grantPass r).mailbox m = s.mailbox m := by
  obtain ⟨hq, hh⟩ := State.mem_entriesFor.1 ((s.grantable_sublist r).subset (hg ▸ List.mem_singleton_self e))
  have hpass : s.grantPass r = State.grantEntry r s e := by
    unfold State.grantPass
    rw [hg]
    rfl
  obtain ⟨hrecord, hflag⟩ := State.foldl_grantEntry_told (entries := [e]) r s (by simp) (List.mem_singleton_self e)
  rw [hpass]
  refine ⟨rfl, h.dropFromQueue hq, hh ▸ hrecord, hflag, fun m hm => ?_⟩
  exact State.foldl_grantEntry_other (entries := [e]) r s fun x hx => List.mem_singleton.1 hx ▸ hm.symm

/-- Settles O16: the four kinds of head, by what the pass grants of each. -/
theorem grantPassGrantsFromTheHead : Obligations.GrantPassGrantsFromTheHead := by
  intro s r e rest still law hentries
  have hentries : s.entriesFor (s.handle r) = e :: rest := hentries
  have hg := State.grantable_still still
  rw [hentries] at hg
  refine ⟨fun hk alone => ?_, fun hk empty => ?_, fun hk hopen => ?_, fun hnone => ?_⟩
  · have hone : s.grantable r = [e] := hg.trans (if_pos (.inl ⟨hk, alone⟩))
    obtain ⟨hleases, hqueue, hrecord, -⟩ := law.grantPass_single hone
    rw [Lease.granted_upgrade _ hk] at hleases
    rw [hk] at hrecord
    exact ⟨hleases, hqueue, hrecord⟩
  · have hone : s.grantable r = [e] := hg.trans (if_pos (.inr ⟨hk, empty⟩))
    obtain ⟨hleases, hqueue, hrecord, -⟩ := law.grantPass_single hone
    rw [Lease.granted_acqExcl _ hk] at hleases
    rw [hk] at hrecord
    exact ⟨hleases, hqueue, hrecord⟩
  · have hrow : s.grantable r = e :: rest.takeWhile fun x => x.kind == .acqShared :=
      hg.trans (Lease.grants_shared hk hopen)
    have hshared : ∀ x ∈ rest.takeWhile (fun x => x.kind == .acqShared), x.kind = .acqShared :=
      fun x hx => by simpa using List.mem_takeWhile_imp hx
    have hlease : (s.grantPass r).lease r = (s.grantable r).foldl Lease.granted (s.lease r) := by
      rw [(s.grantPass_quiet r).lease, State.lease_setLease_self]
    rw [hrow, List.foldl_cons, Lease.granted_acqShared _ hk] at hlease
    obtain ⟨hsame, hholders⟩ := Lease.foldl_granted_row hshared
      { s.lease r with holders := (s.lease r).holders.insert e.master, mode := some .shared, state := .held } rfl rfl
    refine ⟨fun m => ?_, by rw [hlease, hsame], by rw [hlease, hsame], ?_, fun x hx => ?_⟩
    · rw [hlease, hholders, MasterSet.mem_insert, Bool.or_eq_true, decide_eq_true_eq, List.exists_mem_cons_iff, or_assoc]
    · rw [← hrow]
      exact law.grantPass_queue_masters r
    · have hkind : x.kind = .acqShared := (List.mem_cons.1 hx).elim (fun hx => hx ▸ hk) (hshared x)
      rw [← hrow] at hx
      have hsub := s.grantable_sublist r
      have hnodup : ((s.grantable r).map fun y => y.master).Nodup := (law.entriesFor_nodup _).sublist (hsub.map _)
      obtain ⟨hrecord, hflag⟩ := State.foldl_grantEntry_told r s hnodup hx
      rw [(State.mem_entriesFor.1 (hsub.subset hx)).2, hkind] at hrecord
      exact ⟨hrecord, hflag⟩
  · refine State.grantPass_of_none (hg.trans ?_)
    rcases hnone with ⟨hk, hn⟩ | ⟨hk, hn⟩ | ⟨hk, hn, hmode⟩
    · exact (if_neg (by simp [hk, hn])).trans (if_neg (by simp [hk]))
    · exact (if_neg fun c => c.elim (fun c => by simp [hk] at c) fun c => hn c.2).trans (if_neg (by simp [hk]))
    · exact (if_neg (by simp [hk])).trans (if_neg fun c => c.2.elim hn hmode)

end Sys2Proof.Machine
end

section
/-! ### ACQUIRE, CONVERT and CANCEL (R85 to R87, R92 to R96) -/

namespace Sys2Proof.Machine

/-! #### The mode asked for -/

theorem Mailbox.modeField_eq_some {b : Mailbox} {mode : Mode}
    (h : (b.param1.extractLsb' 0 2).toNat = modeCode (some mode)) : b.modeField = some mode := by
  unfold Mailbox.modeField wordField
  rw [h]
  cases mode <;> rfl

/-- The legal mode codes name the two modes (R85). -/
theorem Mailbox.modeField_legal {b : Mailbox}
    (h : (b.param1.extractLsb' 0 2).toNat = 1 ∨ (b.param1.extractLsb' 0 2).toNat = 2) :
    ∃ mode, (b.param1.extractLsb' 0 2).toNat = modeCode (some mode) ∧ b.modeField = some mode := by
  rcases h with h | h
  · exact ⟨.shared, h, Mailbox.modeField_eq_some h⟩
  · exact ⟨.exclusive, h, Mailbox.modeField_eq_some h⟩

theorem modeCode_inj {x y : Option Mode} (h : modeCode x = modeCode y) : x = y := by
  revert h
  rcases x with _ | _ | _ <;> rcases y with _ | _ | _ <;> decide

theorem Mailbox.modeField_eq_none {b : Mailbox}
    (h : (b.param1.extractLsb' 0 2).toNat = 0 ∨ (b.param1.extractLsb' 0 2).toNat = 3) : b.modeField = none := by
  unfold Mailbox.modeField wordField
  rcases h with h | h
  · rw [h]
    rfl
  · rw [h]
    rfl

/-! #### CANCEL -/

/-- What CANCEL does, by its cases (R96). -/
theorem cancelBody_none {s : State} {m : Master} (h : s.entryOf m = none) :
    cancelBody s m = (s, { code := .notWaiting }) := by
  unfold cancelBody
  rw [h]

theorem cancelBody_some {s : State} {m : Master} {e : WaitEntry} (h : s.entryOf m = some e) :
    cancelBody s m = (s.removeEntry e, { code := .ok, word0 := handleWord e.handle }) := by
  unfold cancelBody
  rw [h]

/-- An entry goes, with the grant pass of its lease exactly when it was the head (R96). -/
theorem State.QueueLaw.removeEntry_other {s : State} (h : s.QueueLaw) {e : WaitEntry} (he : e ∈ s.queue)
    (hhead : (s.entriesFor e.handle).head? ≠ some e) : s.removeEntry e = s.waitless e.master := by
  unfold State.removeEntry
  rw [if_neg hhead, h.dropFromQueue he]
  rfl

theorem State.QueueLaw.removeEntry_head {s : State} (h : s.QueueLaw) {e : WaitEntry} {r : RecordNo} (he : e ∈ s.queue)
    (hhead : (s.entriesFor e.handle).head? = some e) (hn : s.Names e.handle r) :
    s.removeEntry e = (s.waitless e.master).grantPass r := by
  unfold State.removeEntry
  rw [if_pos hhead, (s.validate_iff _ _).2 hn, h.dropFromQueue he]
  rfl

/-- Settles O19: there is no entry, or one that is not the head, or the head of its lease. -/
theorem cancelWithdrawsTheEntry : Obligations.CancelWithdrawsTheEntry := by
  intro s m htakes hopen law
  have law : (s.renewed m).QueueLaw := law
  refine ⟨fun hnone => takeRequest_answers htakes hopen (cancelBody_none (State.entryOf_eq_none hnone)), ?_⟩
  rintro e r he rfl hnames
  have hbody := cancelBody_some (law.entryOf_eq he)
  refine ⟨fun hother => ?_, fun hhead => ?_⟩
  · rw [law.removeEntry_other he (by rw [State.entriesFor_head?]; exact hother)] at hbody
    exact takeRequest_answers htakes hopen hbody
  · rw [law.removeEntry_head he (by rw [State.entriesFor_head?]; exact hhead) (hnames.renewed _)] at hbody
    exact takeRequest_answers htakes hopen hbody

/-! #### ACQUIRE -/

theorem State.grantableNow_iff (s : State) (r : RecordNo) (mode : Mode) : s.grantableNow r mode = true ↔
    s.NoWaiters (s.handle r) ∧ ((s.lease r).state = .idle ∨
      (s.lease r).state = .held ∧ (s.lease r).mode = some .shared ∧ mode = .shared) := by
  unfold State.grantableNow
  simp only [Bool.and_eq_true, Bool.or_eq_true, beq_iff_eq, List.isEmpty_iff, State.entriesFor_eq_nil, and_assoc]

theorem Lease.grantedNow_idle {l : Lease} (h : l.state = .idle) (m : Master) (mode : Mode) :
    l.grantedNow m mode = { l with state := .held, holders := l.holders.insert m, mode := some mode } := by
  unfold Lease.grantedNow
  rw [if_pos h]

theorem Lease.grantedNow_held {l : Lease} (h : l.state = .held) (m : Master) (mode : Mode) :
    l.grantedNow m mode = { l with holders := l.holders.insert m } := by
  unfold Lease.grantedNow
  rw [if_neg (by rw [h]; decide), ← h]

/-- What ACQUIRE does, by its checks (R85). -/
theorem acquireBody_notPermitted {s : State} {m : Master} {r : RecordNo} (ho : (s.lease r).owner ≠ some m)
    (hp : (s.lease r).isPublic = false) : acquireBody s m r = (s, { code := .notPermitted }) := if_pos ⟨ho, hp⟩

/-- Checks 2 and 3 of an ACQUIRE: the master may acquire the lease and is no holder of it (R85). -/
structure State.MayAcquire (s : State) (m : Master) (r : RecordNo) : Prop where
  permitted : (s.lease r).owner = some m ∨ (s.lease r).isPublic = true
  outside : (s.lease r).holders.mem m = false

theorem acquireBody_conflict {s : State} {m : Master} {r : RecordNo}
    (hp : (s.lease r).owner = some m ∨ (s.lease r).isPublic = true) (hm : (s.lease r).holders.mem m = true) :
    acquireBody s m r = (s, { code := .conflict }) := by
  refine (if_neg ?_).trans (if_pos hm)
  rintro ⟨ho, hn⟩
  exact hp.elim ho fun hp => by simp [hp] at hn

namespace State.MayAcquire

variable {s : State} {m : Master} {r : RecordNo} {mode : Mode}

theorem badArg (h : s.MayAcquire m r) (hmode : (s.mailbox m).modeField = none) :
    acquireBody s m r = (s, { code := .badArg }) := by
  obtain ⟨hp, hm⟩ := h
  unfold acquireBody
  rcases hp with hp | hp <;> simp [hp, hm, hmode]

theorem granted (h : s.MayAcquire m r) (hmode : (s.mailbox m).modeField = some mode)
    (hg : s.grantableNow r mode = true) :
    acquireBody s m r = (s.setLease r ((s.lease r).grantedNow m mode), { code := .ok }) := by
  obtain ⟨hp, hm⟩ := h
  unfold acquireBody
  rcases hp with hp | hp <;> simp [hp, hm, hmode, hg]

theorem wouldWait (h : s.MayAcquire m r) (hmode : (s.mailbox m).modeField = some mode)
    (hg : s.grantableNow r mode = false) (hlimit : (s.mailbox m).limitField = 0) :
    acquireBody s m r = (s, { code := .wouldWait }) := by
  obtain ⟨hp, hm⟩ := h
  unfold acquireBody
  rcases hp with hp | hp <;> simp [hp, hm, hmode, hg, hlimit]

theorem alreadyWaiting (h : s.MayAcquire m r) (hmode : (s.mailbox m).modeField = some mode)
    (hg : s.grantableNow r mode = false) (hlimit : (s.mailbox m).limitField ≠ 0) {e : WaitEntry}
    (he : s.entryOf m = some e) :
    acquireBody s m r = (s, { code := .alreadyWaiting, word0 := handleWord e.handle }) := by
  obtain ⟨hp, hm⟩ := h
  unfold acquireBody
  rcases hp with hp | hp <;> simp [hp, hm, hmode, hg, hlimit, he]

theorem queued (h : s.MayAcquire m r) (hmode : (s.mailbox m).modeField = some mode)
    (hg : s.grantableNow r mode = false) (hlimit : (s.mailbox m).limitField ≠ 0) (he : s.entryOf m = none) :
    acquireBody s m r = (s.queueAcquire m (s.handle r) mode (s.mailbox m).limitField,
      { code := .queued, word0 := numberWord (s.waiterCount r) }) := by
  obtain ⟨hp, hm⟩ := h
  unfold acquireBody
  rcases hp with hp | hp <;> simp [hp, hm, hmode, hg, hlimit, he]

end State.MayAcquire

theorem kindOfAcquire_eq (mode : Mode) : kindOfAcquire mode = if mode = .exclusive then .acqExcl else .acqShared := by
  cases mode <;> rfl

/-- Settles O13: the checks in their order, and after them the grant at once or the three answers of R87. -/
theorem acquireGrantsQueuesOrRefuses : Obligations.AcquireGrantsQueuesOrRefuses := by
  refine ⟨fun s m r mode htakes hp hm hcode hfree => ?_, fun s m r htakes => ⟨fun ho hp => ?_, fun hp => ⟨fun hm => ?_,
    fun hm => ⟨fun hcode => ?_, fun mode limit hcode hlimit hwaits => ?_⟩⟩⟩⟩
  · have hmay : (s.renewed m).MayAcquire m r := ⟨hp, hm⟩
    have hmode : ((s.renewed m).mailbox m).modeField = some mode := Mailbox.modeField_eq_some hcode
    have hnone : (s.renewed m).NoWaiters ((s.renewed m).handle r) := by
      rw [s.renewed_handle, htakes.names.handle]
      exact hfree
    refine ⟨fun hidle => ?_, fun hheld hshared hask => ?_⟩
    · have hgrant := hmay.granted hmode (((s.renewed m).grantableNow_iff r mode).2 ⟨hnone, .inl hidle⟩)
      rw [s.renewed_lease, Lease.grantedNow_idle hidle] at hgrant
      exact takeRequest_answersOn htakes hgrant
    · have hgrant := hmay.granted hmode
        (((s.renewed m).grantableNow_iff r mode).2 ⟨hnone, .inr ⟨hheld, hshared, hask⟩⟩)
      rw [s.renewed_lease, Lease.grantedNow_held hheld] at hgrant
      exact takeRequest_answersOn htakes hgrant
  · exact takeRequest_answersOn htakes (acquireBody_notPermitted (s := s.renewed m) ho hp)
  · exact takeRequest_answersOn htakes (acquireBody_conflict (s := s.renewed m) hp hm)
  · have hmay : (s.renewed m).MayAcquire m r := ⟨hp, hm⟩
    exact takeRequest_answersOn htakes (hmay.badArg (Mailbox.modeField_eq_none hcode))
  · have hmay : (s.renewed m).MayAcquire m r := ⟨hp, hm⟩
    have hmode : ((s.renewed m).mailbox m).modeField = some mode := Mailbox.modeField_eq_some hcode
    have hg : (s.renewed m).grantableNow r mode = false := Bool.eq_false_iff.2 fun c => by
      obtain ⟨hnone, hnow⟩ := ((s.renewed m).grantableNow_iff r mode).1 c
      rw [s.renewed_handle, htakes.names.handle] at hnone
      obtain ⟨hidle, hshared⟩ := hwaits hnone
      exact hnow.elim hidle hshared
    have hlimit : ((s.renewed m).mailbox m).limitField = limit := hlimit.symm
    refine ⟨fun hzero => ?_, fun hpos => ⟨fun e he hem law => ?_, fun hnone => ?_⟩⟩
    · exact takeRequest_answersOn htakes (hmay.wouldWait hmode hg (hlimit.trans hzero))
    · subst hem
      have law : (s.renewed e.master).QueueLaw := law
      exact takeRequest_answersOn htakes (hmay.alreadyWaiting hmode hg (hlimit ▸ hpos.ne') (law.entryOf_eq he))
    · have hqueued := hmay.queued hmode hg (hlimit ▸ hpos.ne') (State.entryOf_eq_none (s := s.renewed m) hnone)
      have hcount : (s.renewed m).waiterCount r = (s.queue.filter fun e => e.handle == s.parameter m).length := by
        unfold State.waiterCount State.entriesFor
        rw [s.renewed_handle, htakes.names.handle]
        rfl
      unfold State.queueAcquire at hqueued
      rw [hcount, kindOfAcquire_eq, hlimit, s.renewed_handle, htakes.names.handle] at hqueued
      exact takeRequest_answersOn htakes hqueued

/-! #### CONVERT -/

/-- What CONVERT does, by its checks and its cases (R92 to R95). -/
theorem convertBody_notHolder {s : State} {m : Master} {r : RecordNo} (hm : (s.lease r).holders.mem m = false) :
    convertBody s m r = (s, { code := .notHolder }) := if_pos hm

theorem convertBody_badArg {s : State} {m : Master} {r : RecordNo} (hm : (s.lease r).holders.mem m = true)
    (hmode : (s.mailbox m).modeField = none) : convertBody s m r = (s, { code := .badArg }) := by
  unfold convertBody
  simp [hm, hmode]

theorem convertBody_busy {s : State} {m : Master} {r : RecordNo} {mode : Mode} (hm : (s.lease r).holders.mem m = true)
    (hmode : (s.mailbox m).modeField = some mode) (hs : (s.lease r).state = .moving) :
    convertBody s m r = (s, { code := .busy }) := by
  unfold convertBody
  simp [hm, hmode, hs]

theorem convertBody_same {s : State} {m : Master} {r : RecordNo} {mode : Mode} (hm : (s.lease r).holders.mem m = true)
    (hmode : (s.mailbox m).modeField = some mode) (still : (s.lease r).state ≠ .moving)
    (hsame : (s.lease r).mode = some mode) : convertBody s m r = (s, { code := .ok }) := by
  unfold convertBody
  simp [hm, hmode, still, hsame]

theorem convertBody_downgrade {s : State} {m : Master} {r : RecordNo} (hm : (s.lease r).holders.mem m = true)
    (hmode : (s.mailbox m).modeField = some .shared) (still : (s.lease r).state ≠ .moving)
    (hnot : (s.lease r).mode ≠ some .shared) :
    convertBody s m r = ((s.setLease r { s.lease r with mode := some .shared }).grantPass r, { code := .ok }) := by
  unfold convertBody
  simp [hm, hmode, still, hnot]

theorem convertBody_upgrade {s : State} {m : Master} {r : RecordNo} (alone : (s.lease r).holders = MasterSet.single m)
    (hmode : (s.mailbox m).modeField = some .exclusive) (still : (s.lease r).state ≠ .moving)
    (hshared : (s.lease r).mode = some .shared) :
    convertBody s m r = (s.setLease r { s.lease r with mode := some .exclusive }, { code := .ok }) := by
  unfold convertBody
  simp [alone, hmode, still, hshared]

theorem convertBody_queuedUpgrade {s : State} {m : Master} {r : RecordNo} (hm : (s.lease r).holders.mem m = true)
    (hmode : (s.mailbox m).modeField = some .exclusive) (still : (s.lease r).state ≠ .moving)
    (hshared : (s.lease r).mode = some .shared) (others : (s.lease r).holders ≠ MasterSet.single m) :
    convertBody s m r = queuedUpgrade s m r (s.mailbox m).limitField := by
  unfold convertBody
  simp [hm, hmode, still, hshared, others]

/-- What becomes of an upgrade that is not granted at once (R95). -/
theorem queuedUpgrade_conflict {s : State} {m : Master} {r : RecordNo} {limit : Nat} {e : WaitEntry}
    (he : s.upgradeEntry (s.handle r) = some e) :
    queuedUpgrade s m r limit = (s, { code := .conflict, word0 := numberWord e.master.1 }) := by
  unfold queuedUpgrade
  rw [he]

theorem queuedUpgrade_wouldWait {s : State} {m : Master} {r : RecordNo} (he : s.upgradeEntry (s.handle r) = none) :
    queuedUpgrade s m r 0 = (s, { code := .wouldWait }) := by
  unfold queuedUpgrade
  rw [he]
  rfl

theorem queuedUpgrade_alreadyWaiting {s : State} {m : Master} {r : RecordNo} {limit : Nat} {e : WaitEntry}
    (he : s.upgradeEntry (s.handle r) = none) (hlimit : limit ≠ 0) (hm : s.entryOf m = some e) :
    queuedUpgrade s m r limit = (s, { code := .alreadyWaiting, word0 := handleWord e.handle }) := by
  unfold queuedUpgrade
  rw [he]
  simp [hlimit, hm]

theorem queuedUpgrade_queued {s : State} {m : Master} {r : RecordNo} {limit : Nat}
    (he : s.upgradeEntry (s.handle r) = none) (hlimit : limit ≠ 0) (hm : s.entryOf m = none) :
    queuedUpgrade s m r limit = (s.setQueue
      (insertUpgrade { master := m, handle := s.handle r, kind := .upgrade, remaining := limit } s.queue),
      { code := .queued }) := by
  unfold queuedUpgrade
  rw [he]
  simp [hlimit, hm]

/-- An UPGRADE entry goes before the first entry of its lease (R84). -/
theorem insertUpgrade_append {e : WaitEntry} {before after : List WaitEntry}
    (hbefore : ∀ x ∈ before, x.handle ≠ e.handle) (hafter : ∀ x, after.head? = some x → x.handle = e.handle) :
    insertUpgrade e (before ++ after) = before ++ e :: after := by
  induction before with
  | nil =>
    cases after with
    | nil => rfl
    | cons x rest => exact if_pos (hafter x rfl)
  | cons x rest ih =>
    refine (if_neg (hbefore x List.mem_cons_self)).trans (congrArg (x :: ·) ?_)
    exact ih fun y hy => hbefore y (List.mem_cons_of_mem x hy)

theorem State.upgradeEntry_eq (s : State) (h : Handle) :
    s.upgradeEntry h = (s.queue.filter fun x => x.handle == h && x.kind == .upgrade).head? := by
  unfold State.upgradeEntry State.entriesFor
  rw [List.find?_filter, List.head?_filter]
  simp only [Bool.decide_and, Bool.decide_eq_true]

/-- Settles O17: the checks in their order, the mode kept, the upgrade at once, and the outcomes of a queued one. -/
theorem convertKeepsUpgradesOrQueues : Obligations.ConvertKeepsUpgradesOrQueues := by
  rintro s m r _ _ htakes rfl rfl
  refine ⟨fun hm => takeRequest_answersOn htakes (convertBody_notHolder (s := s.renewed m) hm), fun hm => ?_⟩
  have hm : ((s.renewed m).lease r).holders.mem m = true := hm
  have hhandle : (s.renewed m).handle r = s.parameter m := htakes.names.handle
  refine ⟨fun hcode => ?_, fun hcode hs => ?_, fun hcode still hsame => ?_, fun hcode still hshared => ⟨fun alone => ?_,
    fun others => ⟨fun e rest hfirst => ?_, fun hfirst => ⟨fun hlimit => ?_, fun hlimit => ⟨fun e he hem law => ?_,
    fun before after hnone hqueue hbefore hafter => ?_⟩⟩⟩⟩⟩
  · exact takeRequest_answersOn htakes (convertBody_badArg hm (Mailbox.modeField_eq_none hcode))
  · obtain ⟨mode, -, hmode⟩ := Mailbox.modeField_legal hcode
    exact takeRequest_answersOn htakes (convertBody_busy (s := s.renewed m) hm hmode hs)
  · obtain ⟨mode, hasked, hmode⟩ := Mailbox.modeField_legal hcode
    exact takeRequest_answersOn htakes
      (convertBody_same (s := s.renewed m) hm hmode still (modeCode_inj (hsame.trans hasked)))
  all_goals
    have hmode : ((s.renewed m).mailbox m).modeField = some .exclusive := Mailbox.modeField_eq_some hcode
  · exact takeRequest_answersOn htakes (convertBody_upgrade (s := s.renewed m) alone hmode still hshared)
  all_goals
    have hbody := convertBody_queuedUpgrade (s := s.renewed m) hm hmode still hshared others
  · have hfound : (s.renewed m).upgradeEntry ((s.renewed m).handle r) = some e := by
      rw [hhandle, State.upgradeEntry_eq, s.renewed_queue, hfirst]
      rfl
    exact takeRequest_answersOn htakes (hbody.trans (queuedUpgrade_conflict hfound))
  all_goals
    have hfound : (s.renewed m).upgradeEntry ((s.renewed m).handle r) = none := by
      rw [hhandle]
      refine List.find?_eq_none.2 fun e he => ?_
      obtain ⟨hq, hh⟩ := State.mem_entriesFor.1 he
      simpa using hfirst e hq hh
  · rw [show ((s.renewed m).mailbox m).limitField = 0 from hlimit] at hbody
    exact takeRequest_answersOn htakes (hbody.trans (queuedUpgrade_wouldWait hfound))
  · subst hem
    have law : (s.renewed e.master).QueueLaw := law
    exact takeRequest_answersOn htakes
      (hbody.trans (queuedUpgrade_alreadyWaiting hfound (Nat.pos_iff_ne_zero.1 hlimit) (law.entryOf_eq he)))
  · have hqueued := hbody.trans (queuedUpgrade_queued hfound (Nat.pos_iff_ne_zero.1 hlimit)
      (State.entryOf_eq_none (s := s.renewed m) hnone))
    rw [hhandle, s.renewed_queue, hqueue, insertUpgrade_append hbefore hafter] at hqueued
    exact takeRequest_answersOn htakes hqueued

/-- A SHARED lease with a holder and no UPGRADE entry grants the ACQ_SHARED entries at its head (R93, R98). -/
theorem Lease.grants_row {l : Lease} {entries : List WaitEntry} (mode : l.mode = some .shared) (holders : l.holders ≠ 0)
    (hk : ∀ e ∈ entries, e.kind ≠ .upgrade) : l.grants entries = entries.takeWhile fun x => x.kind == .acqShared := by
  cases entries with
  | nil => rfl
  | cons e rest =>
    cases hkind : e.kind with
    | upgrade => exact absurd hkind (hk e List.mem_cons_self)
    | acqShared =>
      rw [Lease.grants_shared hkind (.inr mode)]
      exact (List.takeWhile_cons_of_pos (by rw [hkind]; rfl)).symm
    | acqExcl =>
      rw [List.takeWhile_cons_of_neg (by rw [hkind]; decide)]
      exact (if_neg fun c => c.elim (fun c => by simp [hkind] at c) fun c => holders c.2).trans
        (if_neg (by simp [hkind]))

/-- Settles O18: the lease is SHARED before its grant pass, which adds the masters of the row at its head. -/
theorem downgradeRunsTheGrantPass : Obligations.DowngradeRunsTheGrantPass := by
  intro s m r htakes hcode hheld hexcl alone law hk
  have hhandle : (s.renewed m).handle r = s.parameter m := htakes.names.handle
  have hbody := convertBody_downgrade (s := s.renewed m) (m := m) (r := r) (by rw [s.renewed_lease, alone]; simp)
    (Mailbox.modeField_eq_some hcode) (by rw [s.renewed_lease, hheld]; decide) (by rw [s.renewed_lease, hexcl]; decide)
  obtain ⟨v, hv⟩ : ∃ v, v = (s.renewed m).setLease r { (s.renewed m).lease r with mode := some .shared } := ⟨_, rfl⟩
  have hlease : ∀ r', v.lease r' = if r = r' then { s.lease r with mode := some .shared } else s.lease r' := fun r' => by
    rw [hv]
    exact State.lease_setLease _ _ _ _
  have hself : v.lease r = { s.lease r with mode := some .shared } := (hlease r).trans (if_pos rfl)
  have hentries : v.entriesFor (v.handle r) = s.queue.filter fun x => x.handle == s.parameter m := by
    rw [State.handle_eq_of_generation (t := v) (s := s.renewed m) (by rw [hself]; rfl), hhandle, hv]
    rfl
  have hgrants : (v.lease r).grants (v.entriesFor (v.handle r)) =
      (s.queue.filter fun x => x.handle == s.parameter m).takeWhile fun x => x.kind == .acqShared := by
    rw [hentries, hself]
    refine Lease.grants_row rfl (alone ▸ MasterSet.single_ne_zero m) fun e he => ?_
    obtain ⟨hq, hh⟩ := List.mem_filter.1 he
    exact hk e hq (beq_iff_eq.1 hh)
  have hvlaw : v.QueueLaw := by
    rw [hv]
    exact law
  have hpassed := hvlaw.grantPass_passed (r := r) (by rw [hself]; exact hheld)
  have hmode : ((v.grantPass r).lease r).mode = some .shared := by
    rw [hpassed.lease, hgrants, hself]
    dsimp only
    split
    · rfl
    · next e _ hrow =>
      have hshared := List.mem_takeWhile_imp (hrow ▸ List.mem_cons_self : e ∈ List.takeWhile _ _)
      rw [beq_iff_eq.1 hshared]
      rfl
  have hother : ∀ r', r' ≠ r → (v.grantPass r).lease r' = s.lease r' := fun r' hr' => by
    rw [(v.grantPass_quiet r).lease, State.lease_setLease, if_neg hr'.symm, hlease, if_neg hr'.symm]
  have hholders := hpassed.holders
  rw [hgrants, hself] at hholders
  have hpool : (v.grantPass r).pool = s.pool := (v.grantPass_pool r).trans (by rw [hv]; rfl)
  have hapertures : (v.grantPass r).apertures = s.apertures := (v.grantPass_apertures r).trans (by rw [hv]; rfl)
  have hsessions : (v.grantPass r).sessions = (s.renewed m).sessions := (v.grantPass_sessions r).trans (by rw [hv]; rfl)
  have hstate : ((v.grantPass r).lease r).state = .held := by rw [hpassed.lease, hself]; exact hheld
  have hwritten : ((v.grantPass r).lease r).written = (s.lease r).written := by rw [hpassed.lease, hself]
  have hexec := takeRequest_takesOn htakes convertBody
  rw [hbody, ← hv] at hexec
  generalize v.grantPass r = u at hexec hmode hother hholders hpool hapertures hsessions hstate hwritten
  refine ⟨_, hexec, State.answer_answered u m _, hmode, hstate, hwritten, fun m' => ?_, hother, hpool, hapertures,
    hsessions⟩
  refine (hholders m').trans (or_congr_left ?_)
  rw [alone, MasterSet.mem_single, decide_eq_true_eq, eq_comm]

end Sys2Proof.Machine
end

section
/-! ### RELEASE (R89 to R91) -/

namespace Sys2Proof.Machine

/-! #### The stages before the grant pass -/

/-- A master that has no entry for the lease has none cancelled (R89). -/
theorem State.cancelUpgrade_none {s : State} {m : Master} {h : Handle} (hm : ∀ e ∈ s.entriesFor h, e.master ≠ m) :
    s.cancelUpgrade m h = s := by
  unfold State.cancelUpgrade
  split
  · next e he =>
    have hmaster : e.master = m := by simpa using List.find?_some he
    exact if_neg fun c => hm e (State.mem_entriesFor.2 ⟨List.mem_of_find?_eq_some he, c.1⟩) hmaster
  · rfl

/-- The releaser's UPGRADE leaves the queue, with a CANCELLED record (R90). -/
theorem State.QueueLaw.cancelUpgrade_own {s : State} (law : s.QueueLaw) {e : WaitEntry} (he : e ∈ s.queue)
    (hk : e.kind = .upgrade) : s.cancelUpgrade e.master e.handle = (s.waitless e.master).endWait e.master
      { handle := e.handle, mode := some .exclusive, result := some .cancelled } := by
  unfold State.cancelUpgrade
  rw [law.entryOf_eq he]
  dsimp only
  rw [if_pos ⟨rfl, hk⟩, law.dropFromQueue he]
  rfl

theorem State.cancelUpgrade_frame (s : State) (m : Master) (h : Handle) :
    ∃ q b, s.cancelUpgrade m h = { s with queue := q, mailboxes := b } := by
  unfold State.cancelUpgrade
  split
  · split
    · exact ⟨_, _, rfl⟩
    · exact ⟨_, _, rfl⟩
  · exact ⟨_, _, rfl⟩

/-- What the grant pass of the release of a HELD lease finds (R89). -/
theorem State.releaseUpToPass_held {s : State} {r : RecordNo} (held : (s.lease r).state = .held) (m : Master) :
    s.releaseUpToPass m r = { s with
      leases := s.leases.set r ((s.lease r).without m)
      queue := (s.cancelUpgrade m (s.handle r)).queue
      mailboxes := (s.cancelUpgrade m (s.handle r)).mailboxes
      apertures := (s.releaseApertures m (s.handle r)).apertures } := by
  have hmove : s.releaseMove r = s := if_neg (by rw [held]; decide)
  obtain ⟨q, b, h⟩ := s.cancelUpgrade_frame m (s.handle r)
  unfold State.releaseUpToPass
  rw [hmove, h]
  rfl

/-- The same where the releaser does not wait for the lease. -/
theorem State.releaseUpToPass_unawaited {s : State} {r : RecordNo} {m : Master} (held : (s.lease r).state = .held)
    (hm : ∀ e ∈ s.entriesFor (s.handle r), e.master ≠ m) : s.releaseUpToPass m r = { s with
      leases := s.leases.set r ((s.lease r).without m)
      apertures := (s.releaseApertures m (s.handle r)).apertures } := by
  rw [State.releaseUpToPass_held held, State.cancelUpgrade_none hm]

theorem State.releaseUpToPass_lease {s : State} {r : RecordNo} (held : (s.lease r).state = .held) (m : Master)
    (r' : RecordNo) : (s.releaseUpToPass m r).lease r' = if r = r' then (s.lease r).without m else s.lease r' := by
  rw [State.releaseUpToPass_held held]
  exact s.lease_setLease r r' _

theorem State.releaseUpToPass_lease_self {s : State} {r : RecordNo} (held : (s.lease r).state = .held) (m : Master) :
    (s.releaseUpToPass m r).lease r = (s.lease r).without m :=
  (State.releaseUpToPass_lease held m r).trans (if_pos rfl)

theorem State.releaseUpToPass_handle {s : State} {r : RecordNo} (held : (s.lease r).state = .held) (m : Master) :
    (s.releaseUpToPass m r).handle r = s.handle r :=
  State.handle_eq_of_generation (by rw [State.releaseUpToPass_lease_self held]; rfl)

/-! #### The pass, and the answer -/

/-- A lease with a holder stays HELD (R17). -/
theorem State.settle_stays {s : State} {r : RecordNo} (h : (s.lease r).holders ≠ 0) :
    s.settle r = s ∧ s.fate r = .held := by
  have hfate : s.fate r = .held := if_neg fun c => h c.2
  unfold State.settle
  rw [hfate]
  exact ⟨rfl, rfl⟩

theorem releaseBody_notHolder {s : State} {m : Master} {r : RecordNo} (hm : (s.lease r).holders.mem m = false) :
    releaseBody s m r = (s, { code := .notHolder }) := if_pos hm

theorem releaseBody_holder {s : State} {m : Master} {r : RecordNo} (hm : (s.lease r).holders.mem m = true) :
    releaseBody s m r = ((((s.releaseUpToPass m r).grantPass r).settle r).wakeEngine,
      { code := .ok, word0 := numberWord ((s.releaseUpToPass m r).grantable r).length
        word1 := numberWord (((s.releaseUpToPass m r).grantPass r).fate r).code }) :=
  if_neg (by rw [hm]; decide)

/-- A release that leaves the lease a holder: the grant pass, and the answer that it is still HELD (R91). -/
theorem releaseBody_stays {s : State} {m : Master} {r : RecordNo} (hm : (s.lease r).holders.mem m = true)
    (hstays : (((s.releaseUpToPass m r).grantPass r).lease r).holders ≠ 0) :
    releaseBody s m r = (((s.releaseUpToPass m r).grantPass r).wakeEngine,
      { code := .ok, word0 := numberWord ((s.releaseUpToPass m r).grantable r).length, word1 := 0 }) := by
  obtain ⟨hsettle, hfate⟩ := State.settle_stays hstays
  rw [releaseBody_holder hm, hsettle, hfate]
  rfl

/-- The fate of a lease that a pass has left empty (R17). -/
theorem State.fate_empty {s : State} {r : RecordNo} (held : (s.lease r).state = .held)
    (empty : (s.lease r).holders = 0) : s.fate r = if (s.lease r).keep then .idle else .retired := if_pos ⟨held, empty⟩

/-- The end of a take, after the engine may have been woken, leaves what a pass has left of a record. -/
theorem State.Passed.wakeAndAnswer {v : State} {r : RecordNo} {x : Handle} {l : Lease} {entries : List WaitEntry}
    (h : v.Passed r x l entries) (hentries : ∀ e ∈ entries, e.handle = v.handle r) (m : Master) (a : Answer) :
    (v.wakeEngine.answer m a).Passed r x l entries :=
  h.later ((State.Winds.refl v fun _ => False).wakeEngine.answer m a) id hentries

/-- A release that nobody waits for leaves no grant to make. -/
theorem State.grantPass_unawaited {s : State} {r : RecordNo} (h : s.entriesFor (s.handle r) = []) :
    s.grantPass r = s ∧ s.grantable r = [] := by
  have hg : s.grantable r = [] := by
    rw [s.grantable_eq, h]
    split <;> rfl
  exact ⟨State.grantPass_of_none hg, hg⟩

/-- Retirement of an empty lease that nobody waits for (R17, R20). -/
theorem State.retire_emptied {s : State} {r : RecordNo} {run : Run} (still : (s.lease r).state ≠ .moving)
    (hrun : (s.lease r).run = some run) (hnone : s.entriesFor (s.handle r) = []) :
    s.retire r .emptied = { s with
      leases := s.leases.set r (Lease.freed (s.lease r).generation)
      sessions := (s.dropOwnedBy (s.lease r).owner 1 (s.lease r).length).sessions
      apertures := (s.releaseAllApertures (s.handle r)).apertures
      pool := s.pool.toScrub run } := by
  have hmove : s.retireMove r = s := if_neg still
  have hwaits : s.withdrawWaiters (s.handle r) = s := by
    have hkept : (s.queue.filter fun e => !(e.handle == s.handle r)) = s.queue :=
      List.filter_eq_self.2 fun e he => by simpa using State.entriesFor_eq_nil.1 hnone e he
    unfold State.withdrawWaiters
    rw [hnone, hkept]
    rfl
  unfold State.retire
  rw [hmove, hwaits]
  show ((s.releaseAllApertures (s.handle r)).freeRecord r) = _
  unfold State.freeRecord
  rw [show ((s.releaseAllApertures (s.handle r)).lease r) = s.lease r from rfl, hrun]
  cases (s.lease r).owner <;> rfl

theorem State.releaseAllApertures_unbound {s : State} {m : Master} {a : ApertureNo} (h : s.aperture m a = .unbound)
    (x : Handle) : (s.releaseAllApertures x).aperture m a = .unbound := by
  have hget : (s.releaseAllApertures x).aperture m a = (s.aperture m a).release x := by
    unfold State.aperture State.releaseAllApertures
    rw [State.setApertures_apertures, Table.get_map, Table.get_map]
  rw [hget, h]
  rfl

end Sys2Proof.Machine
end

section
/-! ### What becomes of a released lease (R17, R89 to R91) -/

namespace Sys2Proof.Machine

open Host (Outcome)

/-! #### Nobody waits -/

theorem Lease.emptied_held {l : Lease} (held : l.state = .held) : l.emptied = { l with holders := 0, mode := none } := by
  unfold Lease.emptied Lease.unmoved
  rw [if_neg (by rw [held]; decide)]

theorem State.dropOwnedBy_sessions {s t : State} (h : t.sessions = s.sessions) (owner : Option Master) (a b : Nat) :
    (t.dropOwnedBy owner a b).sessions = (s.dropOwnedBy owner a b).sessions := by
  cases owner with
  | none => exact h
  | some m =>
    unfold State.dropOwnedBy State.dropOwned State.setSession State.session
    dsimp only
    rw [h]

section unawaited

variable {s : State} {m : Master} {r : RecordNo} (held : (s.lease r).state = .held)
  (hfree : s.NoWaiters (s.handle r))

include held hfree

/-- A release that nobody waits for has no grant to make. -/
theorem State.releaseUpToPass_noWaiters :
    s.releaseUpToPass m r = { s with
      leases := s.leases.set r ((s.lease r).without m)
      apertures := (s.releaseApertures m (s.handle r)).apertures } ∧
    (s.releaseUpToPass m r).grantPass r = s.releaseUpToPass m r ∧ (s.releaseUpToPass m r).grantable r = [] := by
  have heq := State.releaseUpToPass_unawaited (m := m) held fun e he =>
    absurd (State.mem_entriesFor.1 he).2 (hfree e (State.mem_entriesFor.1 he).1)
  refine ⟨heq, State.grantPass_unawaited ?_⟩
  rw [State.releaseUpToPass_handle held, State.entriesFor_eq_nil, heq]
  exact hfree

/-- A sharer leaves the lease to the others (R89). -/
theorem releaseBody_shared (hm : (s.lease r).holders.mem m = true) (others : (s.lease r).holders ≠ MasterSet.single m) :
    releaseBody s m r = (({ s with
      leases := s.leases.set r { s.lease r with holders := (s.lease r).holders.erase m }
      apertures := (s.releaseApertures m (s.handle r)).apertures } : State).wakeEngine, { code := .ok }) := by
  obtain ⟨heq, hpass, hnone⟩ := State.releaseUpToPass_noWaiters (m := m) held hfree
  have hleft := MasterSet.erase_ne_zero_of_others hm others
  have hbody := releaseBody_stays hm (by
    rw [hpass, State.releaseUpToPass_lease_self held]
    exact hleft)
  rw [hpass, hnone, heq, Lease.without_of_others hleft] at hbody
  exact hbody

/-- The last holder leaves a kept lease IDLE (R17). -/
theorem releaseBody_kept (alone : (s.lease r).holders = MasterSet.single m) (keep : (s.lease r).keep = true) :
    releaseBody s m r = (({ s with
      leases := s.leases.set r { s.lease r with state := .idle, mode := none, holders := 0 }
      apertures := (s.releaseApertures m (s.handle r)).apertures } : State).wakeEngine, { code := .ok, word1 := 1 }) := by
  obtain ⟨heq, hpass, hnone⟩ := State.releaseUpToPass_noWaiters (m := m) held hfree
  have hlease := (State.releaseUpToPass_lease_self held m).trans (Lease.without_of_alone held alone)
  have hempty : ((s.releaseUpToPass m r).lease r).holders = 0 := by rw [hlease]; rfl
  have hheld : ((s.releaseUpToPass m r).lease r).state = .held := by rw [State.releaseUpToPass_lease_self held]; exact held
  have hkeep : ((s.releaseUpToPass m r).lease r).keep = true := by rw [State.releaseUpToPass_lease_self held]; exact keep
  have hbody := releaseBody_holder (s := s) (m := m) (r := r) (by rw [alone]; simp)
  rw [hpass, hnone, State.settle_kept hheld hempty hkeep, State.fate_empty hheld hempty, if_pos hkeep, hlease, heq,
    Lease.without_of_alone held alone, Lease.emptied_held held] at hbody
  unfold State.setLease at hbody
  dsimp only at hbody
  rw [Table.set_set] at hbody
  exact hbody

/-- The last holder leaves any other lease retired (R17, R20). -/
theorem releaseBody_retired {run : Run} (alone : (s.lease r).holders = MasterSet.single m)
    (keep : (s.lease r).keep = false) (hrun : (s.lease r).run = some run) :
    releaseBody s m r = (({ s with
      leases := s.leases.set r (Lease.freed (s.lease r).generation)
      sessions := (s.dropOwnedBy (s.lease r).owner 1 (s.lease r).length).sessions
      apertures := ((s.releaseApertures m (s.handle r)).releaseAllApertures (s.handle r)).apertures
      pool := s.pool.toScrub run } : State).wakeEngine, { code := .ok, word1 := 2 }) := by
  obtain ⟨heq, hpass, hnone⟩ := State.releaseUpToPass_noWaiters (m := m) held hfree
  have hlease := (State.releaseUpToPass_lease_self held m).trans (Lease.without_of_alone held alone)
  have hempty : ((s.releaseUpToPass m r).lease r).holders = 0 := by rw [hlease]; rfl
  have hheld : ((s.releaseUpToPass m r).lease r).state = .held := by rw [State.releaseUpToPass_lease_self held]; exact held
  have hkeep : ((s.releaseUpToPass m r).lease r).keep = false := by rw [State.releaseUpToPass_lease_self held]; exact keep
  have hrun' : ((s.releaseUpToPass m r).lease r).run = some run := by
    rw [State.releaseUpToPass_lease_self held]
    exact hrun
  have hqueue : (s.releaseUpToPass m r).entriesFor ((s.releaseUpToPass m r).handle r) = [] := by
    rw [State.releaseUpToPass_handle held, State.entriesFor_eq_nil, heq]
    exact hfree
  have hretired := State.retire_emptied (s := s.releaseUpToPass m r) (by rw [hheld]; decide) hrun' hqueue
  rw [State.releaseUpToPass_handle held, State.releaseUpToPass_lease_self held, heq] at hretired
  have hbody := releaseBody_holder (s := s) (m := m) (r := r) (by rw [alone]; simp)
  rw [hpass, hnone, State.settle_unkept hheld hempty hkeep, State.fate_empty hheld hempty, hkeep, heq, hretired] at hbody
  dsimp only at hbody
  rw [Table.set_set] at hbody
  have hsessions := State.dropOwnedBy_sessions (s := s) (t := { s with
    leases := s.leases.set r ((s.lease r).without m), apertures := (s.releaseApertures m (s.handle r)).apertures }) rfl
    ((s.lease r).without m).owner 1 ((s.lease r).without m).length
  rw [hsessions] at hbody
  exact hbody

end unawaited

/-! #### The end of the take -/

/-- A card is another with the engine woken, if it was idle, and a take answered: what RELEASE leaves when it ends. -/
structure State.Concludes (t u : State) (m : Master) (a : Answer) : Prop where
  leases : t.leases = u.leases
  queue : t.queue = u.queue
  sessions : t.sessions = u.sessions
  apertures : t.apertures = u.apertures
  pool : t.pool = u.pool
  others : t.OtherMailboxes u m
  answered : (t.mailbox m).Answered a.code a.word0 a.word1
  waitRecord : ∀ m', (t.mailbox m').waitRecord = (u.mailbox m').waitRecord
  waitEnd : ∀ m', (t.mailbox m').events.getLsbD 1 = (u.mailbox m').events.getLsbD 1
  passed : ∀ {r x l entries}, u.Passed r x l entries → (∀ e ∈ entries, e.handle = u.handle r) → t.Passed r x l entries

theorem State.wakeEngine_concludes (u : State) (m : Master) (a : Answer) : (u.wakeEngine.answer m a).Concludes u m a where
  leases := u.wakeEngine_leases
  queue := u.wakeEngine_queue
  sessions := u.wakeEngine_sessions
  apertures := u.wakeEngine_apertures
  pool := u.wakeEngine_pool
  others m' hm' := (State.answer_mailbox_other _ hm' a).trans (u.wakeEngine_mailbox m')
  answered := State.answer_answered _ m a
  waitRecord m' := (State.answer_waitRecord _ m m' a).trans (by rw [u.wakeEngine_mailbox])
  waitEnd m' := (State.answer_flags _ m m' a (by decide)).trans (by rw [u.wakeEngine_mailbox])
  passed hp he := hp.wakeAndAnswer he m a

theorem State.Concludes.lease {t u : State} {m : Master} {a : Answer} (h : t.Concludes u m a) (r : RecordNo) :
    t.lease r = u.lease r := by
  unfold State.lease
  rw [h.leases]

theorem State.Concludes.aperture {t u : State} {m : Master} {a : Answer} (h : t.Concludes u m a) (m' : Master)
    (x : ApertureNo) : t.aperture m' x = u.aperture m' x := by
  unfold State.aperture
  rw [h.apertures]

/-- A RELEASE ends with the engine woken and its answer. -/
theorem takeRelease_concludes {s u : State} {m : Master} {r : RecordNo} {a : Answer} (h : s.TakesOn m .release r)
    (hb : releaseBody (s.renewed m) m r = (u.wakeEngine, a)) :
    ∃ t, exec .takeRelease s = .next t ∧ t.Concludes u m a := by
  refine ⟨u.wakeEngine.answer m a, ?_, u.wakeEngine_concludes m a⟩
  refine (takeRequest_takesOn h releaseBody).trans ?_
  rw [hb]

/-- The apertures of the releaser that were bound to the lease are UNBOUND (R89). -/
theorem State.Concludes.released {t u s : State} {m : Master} {r : RecordNo} {a : Answer} (h : t.Concludes u m a)
    (hu : u.apertures = ((s.renewed m).releaseApertures m ((s.renewed m).handle r)).apertures)
    (hn : s.Names (s.parameter m) r) (m' : Master) (x : ApertureNo) :
    t.aperture m' x =
      if m' = m ∧ s.aperture m' x = .bound (s.parameter m) then .unbound else s.aperture m' x := by
  rw [s.renewed_handle, hn.handle] at hu
  refine (h.aperture m' x).trans (Eq.trans ?_ ((s.renewed m).releaseApertures_aperture m (s.parameter m) m' x))
  unfold State.aperture
  rw [hu]

/-- RELEASE of a HELD lease that nobody waits for (R17, R89, R91). -/
theorem release_noWaiters {s : State} {m : Master} {r : RecordNo} (htakes : s.TakesOn m .release r)
    (hm : (s.lease r).holders.mem m = true) (held : (s.lease r).state = .held) (hfree : s.NoWaiters (s.parameter m)) :
    ((s.lease r).holders ≠ MasterSet.single m →
      ∃ t, exec .takeRelease s = .next t ∧
        t.leases = s.leases.set r { s.lease r with holders := (s.lease r).holders.erase m } ∧
        (t.mailbox m).Answered .ok 0 0 ∧ t.queue = s.queue ∧ t.pool = s.pool ∧ t.OtherMailboxes s m ∧
        (∀ m' a, t.aperture m' a =
          if m' = m ∧ s.aperture m' a = .bound (s.parameter m) then .unbound else s.aperture m' a)) ∧
    ((s.lease r).holders = MasterSet.single m → (s.lease r).keep = true →
      ∃ t, exec .takeRelease s = .next t ∧
        t.leases = s.leases.set r { s.lease r with state := .idle, mode := none, holders := 0 } ∧
        (t.mailbox m).Answered .ok 0 1 ∧ t.queue = s.queue ∧ t.pool = s.pool ∧ t.OtherMailboxes s m ∧
        t.sessions = (s.renewed m).sessions ∧
        (∀ m' a, t.aperture m' a =
          if m' = m ∧ s.aperture m' a = .bound (s.parameter m) then .unbound else s.aperture m' a)) ∧
    (∀ run, (s.lease r).holders = MasterSet.single m → (s.lease r).keep = false → (s.lease r).run = some run →
      ∃ t, exec .takeRelease s = .next t ∧
        t.leases = s.leases.set r (Lease.freed (s.lease r).generation) ∧
        (t.mailbox m).Answered .ok 0 2 ∧ t.queue = s.queue ∧ t.OtherMailboxes s m ∧
        t.pool = { s.pool with
          map := s.pool.map.setRun run.base run.len .scrub, scrubCount := s.pool.scrubCount + run.len } ∧
        (∀ a, s.aperture m a = .bound (s.parameter m) → t.aperture m a = .unbound)) := by
  have hfree : (s.renewed m).NoWaiters ((s.renewed m).handle r) := by
    rw [s.renewed_handle, htakes.names.handle]
    exact hfree
  refine ⟨fun others => ?_, fun alone keep => ?_, fun run alone keep hrun => ?_⟩
  · obtain ⟨t, ht, h⟩ := takeRelease_concludes htakes (releaseBody_shared (s := s.renewed m) held hfree hm others)
    exact ⟨t, ht, h.leases, h.answered, h.queue, h.pool, h.others, h.released rfl htakes.names⟩
  · obtain ⟨t, ht, h⟩ := takeRelease_concludes htakes (releaseBody_kept (s := s.renewed m) held hfree alone keep)
    exact ⟨t, ht, h.leases, h.answered, h.queue, h.pool, h.others, h.sessions, h.released rfl htakes.names⟩
  · obtain ⟨t, ht, h⟩ := takeRelease_concludes htakes
      (releaseBody_retired (s := s.renewed m) held hfree alone keep hrun)
    refine ⟨t, ht, h.leases, h.answered, h.queue, h.others, h.pool, fun a ha => ?_⟩
    have hunbound : ((s.renewed m).releaseApertures m ((s.renewed m).handle r)).aperture m a = .unbound := by
      rw [State.releaseApertures_aperture, s.renewed_handle, htakes.names.handle]
      exact if_pos ⟨rfl, ha⟩
    exact (h.aperture m a).trans (State.releaseAllApertures_unbound hunbound _)

/-! #### Others wait -/

theorem Lease.without_eq {l : Lease} {m : Master} (hm : l.holders.mem m = true) : l.without m = { l with
    holders := l.holders.erase m
    mode := if l.holders = MasterSet.single m then none else l.mode } := by
  by_cases alone : l.holders = MasterSet.single m
  · unfold Lease.without
    rw [if_pos alone, if_pos (by rw [alone]; exact MasterSet.erase_single m)]
  · rw [Lease.without_of_others (MasterSet.erase_ne_zero_of_others hm alone), if_neg alone]

theorem Aperture.release_eq_fun (h : Handle) :
    Aperture.release h = fun a => if a = .bound h then .unbound else a := funext fun a => a.release_eq h

/-- The card that the grant pass of a RELEASE finds, where the releaser does not wait for the lease (R89). -/
theorem releaseUpToPass_renewed {s : State} {m : Master} {r : RecordNo} (htakes : s.TakesOn m .release r)
    (hm : (s.lease r).holders.mem m = true) (held : (s.lease r).state = .held)
    (hown : ∀ x ∈ s.queue, x.handle = s.parameter m → x.master ≠ m) :
    (s.renewed m).releaseUpToPass m r = { s.renewed m with
      leases := s.leases.set r { s.lease r with
        holders := (s.lease r).holders.erase m
        mode := if (s.lease r).holders = MasterSet.single m then none else (s.lease r).mode }
      apertures := s.apertures.set m
        ((s.apertures.get m).map fun a => if a = .bound (s.parameter m) then .unbound else a) } := by
  have hhandle : (s.renewed m).handle r = s.parameter m := htakes.names.handle
  rw [State.releaseUpToPass_unawaited (s := s.renewed m) held fun e he => ?_]
  · rw [s.renewed_lease, Lease.without_eq hm, hhandle, ← Aperture.release_eq_fun]
    rfl
  · rw [hhandle] at he
    obtain ⟨hq, hh⟩ := State.mem_entriesFor.1 he
    exact hown e hq hh

theorem State.wakeEngine_busy {s : State} (h : s.engine.step ≠ none) : s.wakeEngine = s := if_neg h

/-- Settles O14: the refusal, the three fates of a lease that nobody waits for, and the grant pass where others wait. -/
theorem releaseGivesUpTheHold : Obligations.ReleaseGivesUpTheHold := by
  refine ⟨fun s m r htakes => ⟨fun hm => takeRequest_answersOn htakes (releaseBody_notHolder (s := s.renewed m) hm),
    fun hm held hfree => release_noWaiters htakes hm held hfree⟩, ?_⟩
  intro s left m r htakes hm held law hown hleft
  rw [← releaseUpToPass_renewed htakes hm held hown] at hleft
  have hqueue : left.queue = s.queue := by
    rw [hleft, releaseUpToPass_renewed htakes hm held hown]
    rfl
  have hlaw : left.QueueLaw := by
    unfold State.QueueLaw
    rw [hqueue]
    exact law
  have hlease := State.releaseUpToPass_lease (s := s.renewed m) held m
  have hhandle := (State.releaseUpToPass_handle (s := s.renewed m) held m).trans htakes.names.handle
  have hframe : left.engine = s.engine ∧ left.pool = s.pool ∧ left.sessions = (s.renewed m).sessions ∧
      left.apertures = ((s.renewed m).releaseApertures m ((s.renewed m).handle r)).apertures := by
    rw [hleft, State.releaseUpToPass_held (s := s.renewed m) held]
    exact ⟨rfl, rfl, rfl, rfl⟩
  have hbody := releaseBody_stays (s := s.renewed m) (m := m) (r := r) hm
  rw [← hleft] at hlease hhandle hbody
  obtain ⟨hengine, hpool, hsessions, hapertures⟩ := hframe
  refine ⟨fun hstays => ⟨_, (takeRequest_takesOn htakes releaseBody).trans (by rw [hbody hstays]), fun hbusy => ?_, ?_⟩,
    fun e rest awaited => ?_⟩
  · have hpassengine := (left.grantPass_engine r).trans hengine
    rw [State.wakeEngine_busy (by rw [hpassengine]; exact hbusy)]
    exact hpassengine
  · have hcount : (left.grantable r).length = s.queue.length - (left.grantPass r).queue.length := by
      have := hlaw.grantPass_length r
      rw [hqueue] at this
      omega
    obtain ⟨engine, hwake⟩ := (left.grantPass r).wakeEngine_frame
    rw [hwake, hcount]
    rfl
  · have hself : left.lease r = (s.lease r).emptied :=
      ((hlease r).trans (if_pos rfl)).trans (Lease.without_of_alone held awaited.alone)
    have hheld : (left.lease r).state = .held := by
      rw [hself, Lease.emptied_held held]
      exact held
    have hentries : left.entriesFor (left.handle r) = e :: rest := by
      rw [hhandle]
      unfold State.entriesFor
      rw [hqueue, ← htakes.names.handle]
      exact awaited.entries
    have hpassed := hlaw.grantPass_passed hheld
    rw [hentries, hself, hhandle] at hpassed
    have hgranted : e ∈ (s.lease r).emptied.grants (e :: rest) := Lease.mem_grants_of_empty rest rfl awaited.acquire
    have hstays := MasterSet.ne_zero_of_mem ((hpassed.holders e.master).2 (.inr ⟨e, hgranted, rfl⟩))
    obtain ⟨t, ht, h⟩ := takeRelease_concludes htakes (hbody hstays)
    refine ⟨t, ht, ?_, ?_, ?_, ?_, fun r' hr' => ?_, h.released ((left.grantPass_apertures r).trans hapertures) htakes.names⟩
    · unfold State.HandedOn
      rw [htakes.names.handle]
      refine h.passed hpassed fun x hx => ?_
      rw [← hentries] at hx
      exact (State.mem_entriesFor.1 hx).2.trans (State.handle_eq_of_generation (by
        rw [hpassed.lease, hself])).symm
    · have hword := h.answered
      rw [State.grantable_held hheld, hentries, hself] at hword
      exact hword
    · exact h.pool.trans ((left.grantPass_pool r).trans hpool)
    · exact h.sessions.trans ((left.grantPass_sessions r).trans hsessions)
    · rw [h.lease, (left.grantPass_quiet r).lease, State.lease_setLease, if_neg hr'.symm, hlease, if_neg hr'.symm]
      rfl

end Sys2Proof.Machine
end

section
/-! ### RELEASE of a lease that an UPGRADE heads (R90) -/

namespace Sys2Proof.Machine

/-- Where somebody holds a lease, somebody holds it after its pass. -/
theorem State.Passed.holders_ne_zero {t : State} {r : RecordNo} {x : Handle} {l : Lease} {entries : List WaitEntry}
    (h : t.Passed r x l entries) (hl : l.holders ≠ 0) : (t.lease r).holders ≠ 0 := fun e => hl (by
  refine MasterSet.ext fun m => ?_
  rw [show MasterSet.mem 0 m = false from MasterSet.mem_empty m]
  refine Bool.eq_false_iff.2 fun hm => ?_
  have := (h.holders m).2 (.inl hm)
  rw [e] at this
  exact Bool.false_ne_true ((MasterSet.mem_empty m).symm.trans this))

/-- What the grant pass of a RELEASE finds on a HELD lease with other holders: the card `v`, with the entries that are
left for the lease. -/
structure State.LeftShared (v s : State) (m : Master) (r : RecordNo) (entries : List WaitEntry) : Prop where
  law : v.QueueLaw
  lease : v.lease r = { s.lease r with holders := (s.lease r).holders.erase m }
  elsewhere : ∀ r', r' ≠ r → v.lease r' = s.lease r'
  handle : v.handle r = s.parameter m
  entries : v.entriesFor (s.parameter m) = entries
  pool : v.pool = s.pool
  sessions : v.sessions = (s.renewed m).sessions
  apertures : v.apertures = ((s.renewed m).releaseApertures m ((s.renewed m).handle r)).apertures

section leftShared

variable {s v : State} {m : Master} {r : RecordNo} {entries : List WaitEntry}

theorem State.leftShared (htakes : s.TakesOn m .release r) (held : (s.lease r).state = .held)
    (others : (s.lease r).holders.erase m ≠ 0) (law : ((s.renewed m).releaseUpToPass m r).QueueLaw)
    (hentries : ((s.renewed m).releaseUpToPass m r).entriesFor (s.parameter m) = entries) :
    ((s.renewed m).releaseUpToPass m r).LeftShared s m r entries := by
  have hlease := State.releaseUpToPass_lease (s := s.renewed m) held m
  have hhandle := (State.releaseUpToPass_handle (s := s.renewed m) held m).trans htakes.names.handle
  have hv := State.releaseUpToPass_held (s := s.renewed m) held m
  refine ⟨law, ((hlease r).trans (if_pos rfl)).trans (Lease.without_of_others others), fun r' hr' =>
    (hlease r').trans (if_neg hr'.symm), hhandle, hentries, (congrArg State.pool hv).trans ?_, (congrArg State.sessions hv).trans ?_,
    (congrArg State.apertures hv).trans ?_⟩ <;> rfl

namespace State.LeftShared

theorem state (h : v.LeftShared s m r entries) (held : (s.lease r).state = .held) : (v.lease r).state = .held := by
  rw [h.lease]
  exact held

/-- The pass grants what R98 says on the holders that are left. -/
theorem grantable (h : v.LeftShared s m r entries) (held : (s.lease r).state = .held) :
    v.grantable r = Lease.grants { s.lease r with holders := (s.lease r).holders.erase m } entries := by
  rw [State.grantable_held (h.state held), h.handle, h.entries, h.lease]

theorem passed (h : v.LeftShared s m r entries) (held : (s.lease r).state = .held) :
    (v.grantPass r).Passed r (s.parameter m) { s.lease r with holders := (s.lease r).holders.erase m } entries := by
  have hp := h.law.grantPass_passed (h.state held)
  rw [h.handle, h.entries, h.lease] at hp
  exact hp

/-- The RELEASE ends with the pass and the answer that the lease is still HELD (R91). -/
theorem concludes (h : ((s.renewed m).releaseUpToPass m r).LeftShared s m r entries) (htakes : s.TakesOn m .release r)
    (held : (s.lease r).state = .held) (hm : (s.lease r).holders.mem m = true)
    (others : (s.lease r).holders.erase m ≠ 0) :
    ∃ t, exec .takeRelease s = .next t ∧ t.Concludes (((s.renewed m).releaseUpToPass m r).grantPass r) m
      { code := .ok
        word0 := numberWord (Lease.grants { s.lease r with holders := (s.lease r).holders.erase m } entries).length } := by
  have hbody := releaseBody_stays (s := s.renewed m) hm ((h.passed held).holders_ne_zero others)
  rw [h.grantable held] at hbody
  exact takeRelease_concludes htakes hbody

/-- What a RELEASE leaves alone (R89). -/
theorem frame {t : State} {a : Answer} (h : v.LeftShared s m r entries) (ht : t.Concludes (v.grantPass r) m a)
    (hn : s.Names (s.parameter m) r) :
    (∀ r', r' ≠ r → t.lease r' = s.lease r') ∧ t.pool = s.pool ∧ t.sessions = (s.renewed m).sessions ∧
      (∀ m' a, t.aperture m' a =
        if m' = m ∧ s.aperture m' a = .bound (s.parameter m) then .unbound else s.aperture m' a) := by
  refine ⟨fun r' hr' => ?_, ht.pool.trans ((v.grantPass_pool r).trans h.pool),
    ht.sessions.trans ((v.grantPass_sessions r).trans h.sessions),
    ht.released ((v.grantPass_apertures r).trans h.apertures) hn⟩
  rw [ht.lease, (v.grantPass_quiet r).lease, State.lease_setLease, if_neg hr'.symm, h.elsewhere r' hr']

/-- The entries for other leases wait on. -/
theorem elsewhere_waits {t : State} {a : Answer} (h : v.LeftShared s m r entries) (ht : t.Concludes (v.grantPass r) m a)
    {x : WaitEntry} (hx : x ∈ v.queue) (hne : x.handle ≠ s.parameter m) : x ∈ t.queue := by
  rw [ht.queue]
  refine (h.law.mem_grantPass r x).2 ⟨hx, fun hg => hne ?_⟩
  rw [← h.handle]
  exact (State.mem_entriesFor.1 ((v.grantable_sublist r).subset hg)).2

end State.LeftShared

/-- The releaser's own UPGRADE is cancelled before the pass (R90). -/
theorem State.QueueLaw.releaseUpToPass_own {e : WaitEntry} {rest : List WaitEntry} (law : s.QueueLaw)
    (htakes : s.TakesOn m .release r) (held : (s.lease r).state = .held)
    (hentries : s.queue.filter (fun x => x.handle == s.parameter m) = e :: rest) (hk : e.kind = .upgrade)
    (hown : e.master = m) (hrest : ∀ x ∈ rest, x.master ≠ m) :
    ((s.renewed m).releaseUpToPass m r).queue = s.queue.filter (fun x => x.master != m) ∧
      ((s.renewed m).releaseUpToPass m r).entriesFor (s.parameter m) = rest ∧
      (((s.renewed m).releaseUpToPass m r).mailbox m).waitRecord =
        { handle := s.parameter m, mode := some .exclusive, result := some .cancelled } ∧
      (((s.renewed m).releaseUpToPass m r).mailbox m).events.getLsbD 1 = true ∧
      ∀ m', m' ≠ m → ((s.renewed m).releaseUpToPass m r).mailbox m' = s.mailbox m' := by
  have hentries : s.entriesFor (s.parameter m) = e :: rest := hentries
  have he : e ∈ s.queue ∧ e.handle = s.parameter m := State.mem_entriesFor.1 (hentries ▸ List.mem_cons_self)
  have hcancel := State.QueueLaw.cancelUpgrade_own (s := s.renewed m) law he.1 hk
  rw [hown, he.2] at hcancel
  have hv := State.releaseUpToPass_held (s := s.renewed m) held m
  rw [s.renewed_handle, htakes.names.handle, hcancel] at hv
  have hqueue : ((s.renewed m).releaseUpToPass m r).queue = s.queue.filter fun x => x.master != m := by rw [hv]; rfl
  have hmailbox : ∀ m', ((s.renewed m).releaseUpToPass m r).mailbox m' =
      (((s.renewed m).waitless m).endWait m
        { handle := s.parameter m, mode := some .exclusive, result := some .cancelled }).mailbox m' := fun m' => by
    rw [hv]
    rfl
  refine ⟨hqueue, ?_, ?_, ?_, fun m' hm' => ?_⟩
  · refine (show _ = (s.waitless m).entriesFor (s.parameter m) from ?_).trans ?_
    · unfold State.entriesFor
      rw [hqueue]
      rfl
    · rw [State.waitless_entriesFor, hentries, List.filter_cons_of_neg (by simp [hown])]
      exact List.filter_eq_self.2 fun x hx => by simpa using hrest x hx
  · rw [hmailbox, State.endWait_mailbox, if_pos rfl]
    rfl
  · rw [hmailbox, State.endWait_mailbox, if_pos rfl, Mailbox.raise_flag]
    exact Bool.or_true _
  · rw [hmailbox, State.endWait_mailbox, if_neg hm'.symm]
    rfl

end leftShared

/-- Settles O15: the releaser's own UPGRADE is cancelled and the entries behind it have their pass; another's is the head
that the pass finds. -/
theorem releaseMeetsAnUpgrade : Obligations.ReleaseMeetsAnUpgrade := by
  rintro s m r e rest _ htakes law held hshared hm rfl others hentries hk hrest
  have hentries : s.entriesFor (s.parameter m) = e :: rest := hentries
  have he : e ∈ s.queue ∧ e.handle = s.parameter m := State.mem_entriesFor.1 (hentries ▸ List.mem_cons_self)
  by_cases hown : e.master = m
  · obtain ⟨hqueue, hleft, hrecord, hflag, hothers⟩ := law.releaseUpToPass_own htakes held hentries hk hown hrest
    have hv : ((s.renewed m).releaseUpToPass m r).LeftShared s m r rest := State.leftShared htakes held others (by
      unfold State.QueueLaw
      rw [hqueue]
      exact law.waitless m) hleft
    obtain ⟨t, ht, hc⟩ := hv.concludes htakes held hm others
    have hgrantable := hv.grantable held
    have hpassed := hv.passed held
    generalize (s.renewed m).releaseUpToPass m r = v at hqueue hleft hrecord hflag hothers hv hc hgrantable hpassed
    have huntold : ∀ m', (∀ x ∈ Lease.grants { s.lease r with holders := (s.lease r).holders.erase m } rest,
        x.master ≠ m') → (v.grantPass r).mailbox m' = v.mailbox m' := fun m' hm' =>
      State.foldl_grantEntry_other r v (hgrantable ▸ hm')
    have hself := huntold m fun x hx => hrest x ((Lease.grants_sublist _ _).subset hx)
    obtain ⟨hlease, hpool, hsessions, haperture⟩ := hv.frame hc htakes.names
    refine ⟨t, ht, hlease, hpool, hsessions, haperture, fun x hx hne => hv.elsewhere_waits hc ?_ hne, fun _ =>
      ⟨?_, fun x hx => ?_, hc.answered, ?_, ?_, fun m' hm' hnot => ?_⟩, fun hne => absurd hown hne⟩
    · rw [hqueue, List.mem_filter, bne_iff_ne]
      refine ⟨hx, fun hxm => hne ?_⟩
      rw [law.unique hx he.1 (hxm.trans hown.symm)]
      exact he.2
    · refine hc.passed hpassed fun x hx => ?_
      rw [← hleft] at hx
      exact (State.mem_entriesFor.1 hx).2.trans
        (hv.handle.symm.trans (State.handle_eq_of_generation (by rw [hpassed.lease, hv.lease])).symm)
    · rw [hc.queue] at hx
      have := ((hv.law.mem_grantPass r x).1 hx).1
      rw [hqueue] at this
      simpa using (List.mem_filter.1 this).2
    · rw [hc.waitRecord, hself]
      exact hrecord
    · rw [hc.waitEnd, hself]
      exact hflag
    · rw [hc.others m' hm', huntold m' hnot, hothers m' hm']
  · have hv' := State.releaseUpToPass_unawaited (s := s.renewed m) (r := r) (m := m) held fun x hx => by
      rw [s.renewed_handle, htakes.names.handle] at hx
      rw [show (s.renewed m).entriesFor (s.parameter m) = e :: rest from hentries] at hx
      exact (List.mem_cons.1 hx).elim (fun hx => hx ▸ hown) (hrest x)
    have hqueue : ((s.renewed m).releaseUpToPass m r).queue = s.queue := by rw [hv']; rfl
    have hmailbox : ∀ m', ((s.renewed m).releaseUpToPass m r).mailbox m' = s.mailbox m' := fun m' => by rw [hv']; rfl
    have hv : ((s.renewed m).releaseUpToPass m r).LeftShared s m r (e :: rest) := State.leftShared htakes held others (by
      unfold State.QueueLaw
      rw [hqueue]
      exact law) (by
      unfold State.entriesFor
      rw [hqueue]
      exact hentries)
    obtain ⟨t, ht, hc⟩ := hv.concludes htakes held hm others
    have hgrantable := hv.grantable held
    generalize (s.renewed m).releaseUpToPass m r = v at hqueue hmailbox hv hc hgrantable
    obtain ⟨hlease, hpool, hsessions, haperture⟩ := hv.frame hc htakes.names
    refine ⟨t, ht, hlease, hpool, hsessions, haperture, fun x hx => hv.elsewhere_waits hc (hqueue ▸ hx), fun c =>
      absurd c hown, fun _ => ⟨fun alone => ?_, fun hnot => ?_⟩⟩
    · have hone : Lease.grants { s.lease r with holders := (s.lease r).holders.erase m } (e :: rest) = [e] :=
        if_pos (.inl ⟨hk, alone⟩)
      rw [hone] at hgrantable hc
      obtain ⟨hleases, hq, hrecord, hflag, hothers⟩ := hv.law.grantPass_single hgrantable
      rw [hk, hv.handle] at hrecord
      refine ⟨?_, ?_, hc.answered, ?_, ?_, fun m' hm' hne => ?_⟩
      · have hgranted : (v.grantPass r).lease r = (v.lease r).granted e :=
          (congrArg (Table.get · r) hleases).trans (Table.get_set_self _ _ _)
        rw [hc.lease, hgranted, hv.lease, Lease.granted_upgrade _ hk]
      · rw [hc.queue, hq, hqueue]
      · rw [hc.waitRecord]
        exact hrecord
      · rw [hc.waitEnd]
        exact hflag
      · rw [hc.others m' hm', hothers m' hne, hmailbox]
    · have hnone : Lease.grants { s.lease r with holders := (s.lease r).holders.erase m } (e :: rest) = [] :=
        (if_neg fun c => c.elim (fun c => hnot c.2) fun c => by simp [hk] at c).trans (if_neg (by simp [hk]))
      rw [hnone] at hgrantable hc
      rw [State.grantPass_of_none hgrantable] at hc
      refine ⟨(hc.lease r).trans hv.lease, hc.queue.trans hqueue, hc.answered, fun m' hm' => ?_⟩
      rw [hc.others m' hm', hmailbox]

end Sys2Proof.Machine
end

section
/-! ### The wait queue's happening of a tick (R100, R101) -/

namespace Sys2Proof.Machine

/-- A pass takes a lease from none of its holders (R98). -/
theorem Lease.foldl_grants_keeps {l : Lease} {m : Master} (hm : l.holders.mem m = true) (entries : List WaitEntry) :
    ((l.grants entries).foldl Lease.granted l).holders.mem m = true := by
  rcases l.grants_cases entries with hg | ⟨e, -, -, hg, ⟨hk, -⟩ | ⟨-, hempty⟩⟩ | ⟨e, rest, -, hk, -, hg⟩
  · rw [hg]
    exact hm
  · rw [hg, List.foldl_cons, List.foldl_nil, Lease.granted_upgrade l hk]
    exact hm
  · exact absurd hempty (MasterSet.ne_zero_of_mem hm)
  · rw [hg, List.foldl_cons, Lease.granted_acqShared l hk]
    refine ((Lease.foldl_granted_row (fun x hx => by simpa using List.mem_takeWhile_imp hx) _ rfl rfl).2 m).2 (.inl ?_)
    rw [MasterSet.mem_insert, hm, Bool.true_or]

theorem State.grantPass_keeps {s : State} {r' : RecordNo} {m : Master} (hm : (s.lease r').holders.mem m = true)
    (r : RecordNo) : ((s.grantPass r).lease r').holders.mem m = true := by
  rw [(s.grantPass_quiet r).lease, State.lease_setLease]
  split
  · next e =>
    subst e
    rw [s.grantable_eq]
    split
    · exact hm
    · exact Lease.foldl_grants_keeps hm _
  · exact hm

theorem State.grantPass_moving {s : State} {r : RecordNo} (h : (s.lease r).state = .moving) : s.grantPass r = s :=
  State.grantPass_of_none (by rw [s.grantable_eq, if_pos h])

/-! #### Grant passes one after another -/

/-- The grant passes of some leases, one after another (R100). -/
def State.passes (s : State) (records : List RecordNo) : State := records.foldl State.grantPass s

section passes

variable {s : State} {records : List RecordNo}

theorem State.passes_cons (s : State) (r : RecordNo) (records : List RecordNo) :
    s.passes (r :: records) = (s.grantPass r).passes records := rfl

theorem State.passes_append (s : State) (before after : List RecordNo) :
    s.passes (before ++ after) = (s.passes before).passes after := List.foldl_append

theorem State.passes_frame (s : State) (records : List RecordNo) : s.passes records =
    { s with
      leases := (s.passes records).leases, queue := (s.passes records).queue
      mailboxes := (s.passes records).mailboxes } := by
  induction records generalizing s with
  | nil => rfl
  | cons r rest ih =>
    obtain ⟨_, _, _, h⟩ := s.grantPass_frame r
    rw [State.passes_cons, ih, h]

theorem State.passes_keeps {r : RecordNo} {m : Master} (hm : (s.lease r).holders.mem m = true)
    (records : List RecordNo) : ((s.passes records).lease r).holders.mem m = true :=
  List.foldlRecOn (motive := fun u : State => (u.lease r).holders.mem m = true) _ _ hm fun _ hu r' _ =>
    State.grantPass_keeps hu r'

theorem State.Winds.passes (s : State) (records : List RecordNo) : (s.passes records).Winds s (· ∈ records) :=
  List.foldlRecOn (motive := fun u : State => u.Winds s (· ∈ records)) _ _ (.refl s _) fun u hu _ hr =>
    (State.Winds.grantPass u hr).trans hu

/-- Passes leave the leases they do not run for, and the MOVING ones (R97). -/
theorem State.Winds.passes_elsewhere {r : RecordNo} (h : r ∉ records ∨ (s.lease r).state = .moving) :
    (s.passes records).Winds s (· ≠ r) := by
  rcases h with h | h
  · exact (State.Winds.passes s records).mono fun _ hr' c => h (c ▸ hr')
  · refine List.foldlRecOn (motive := fun u : State => u.Winds s (· ≠ r)) _ _ (.refl s _) fun u hu r' _ => ?_
    by_cases hr : r' = r
    · subst hr
      have hmoving : (u.lease r').state = .moving := by
        rw [hu.lease r' fun c => c rfl]
        exact h
      rw [State.grantPass_moving hmoving]
      exact hu
    · exact (State.Winds.grantPass u hr).trans hu

/-- A master without an entry is told nothing and takes no lease. -/
theorem State.passes_unawaited {m : Master} (hm : ∀ e ∈ s.queue, e.master ≠ m) (records : List RecordNo) :
    (∀ e ∈ (s.passes records).queue, e.master ≠ m) ∧
      ((s.passes records).mailbox m).waitRecord = (s.mailbox m).waitRecord ∧
      ((s.passes records).mailbox m).events.getLsbD 1 = (s.mailbox m).events.getLsbD 1 ∧
      ∀ r, ((s.passes records).lease r).holders.mem m = (s.lease r).holders.mem m := by
  have hw := State.Winds.passes s records
  obtain ⟨hrecord, hflag⟩ := hw.quiet m fun e he c => absurd c (hm e he)
  refine ⟨fun e he => hm e (hw.queue.subset he), hrecord, hflag, fun r => Bool.eq_iff_iff.2 ⟨fun h => ?_, fun h =>
    State.passes_keeps h records⟩⟩
  rcases hw.holders r m h with h | ⟨e, he, -, c⟩
  · exact h
  · exact absurd c (hm e he)

/-- An entry waits on, or its master has its GRANTED record (R99). -/
theorem State.QueueLaw.passes_decides (h : s.QueueLaw) {x : WaitEntry} (hx : x ∈ s.queue) (records : List RecordNo) :
    x ∈ (s.passes records).queue ∨ ((s.passes records).mailbox x.master).waitRecord =
      { handle := x.handle, mode := some x.kind.mode, result := some .granted } := by
  induction records generalizing s with
  | nil => exact .inl hx
  | cons r rest ih =>
    have hlaw := (State.Winds.grantPass s (R := fun _ => True) (r := r) trivial).queueLaw h
    by_cases hg : x ∈ s.grantable r
    · have hnodup : ((s.grantable r).map fun e => e.master).Nodup :=
        (h.entriesFor_nodup _).sublist ((s.grantable_sublist r).map _)
      have hgone : ∀ y ∈ (s.grantPass r).queue, y.master ≠ x.master := fun y hy c => by
        obtain ⟨hyq, hyn⟩ := (h.mem_grantPass r y).1 hy
        exact hyn (h.unique hyq hx c ▸ hg)
      exact .inr ((State.passes_unawaited hgone rest).2.1.trans (State.foldl_grantEntry_told r s hnodup hg).1)
    · exact ih hlaw ((h.mem_grantPass r x).2 ⟨hx, hg⟩)

/-- A HELD lease among those that have a pass sees its own only (R98, R99). -/
theorem State.QueueLaw.passes_passed (h : s.QueueLaw) (hnodup : records.Nodup) {r : RecordNo} (hr : r ∈ records)
    (held : (s.lease r).state = .held) :
    (s.passes records).Passed r (s.handle r) (s.lease r) (s.entriesFor (s.handle r)) := by
  obtain ⟨before, after, rfl⟩ := List.append_of_mem hr
  obtain ⟨-, hcons, hdisjoint⟩ := List.nodup_append.1 hnodup
  have hbefore : (s.passes before).Winds s (· ≠ r) :=
    .passes_elsewhere (.inl fun c => hdisjoint r c r List.mem_cons_self rfl)
  have hlease := hbefore.lease r fun c => c rfl
  have hpass := (hbefore.queueLaw h).grantPass_passed (r := r) (by rw [hlease]; exact held)
  rw [hlease, hbefore.handle, hbefore.entries r fun c => c rfl] at hpass
  have hafter : (((s.passes before).grantPass r).passes after).Winds ((s.passes before).grantPass r) (· ≠ r) :=
    .passes_elsewhere (.inl (List.nodup_cons.1 hcons).1)
  rw [State.passes_append, State.passes_cons]
  refine hpass.later hafter (fun c => c rfl) fun e he => (State.mem_entriesFor.1 he).2.trans ?_
  rw [(State.Winds.grantPass (s.passes before) (R := (· = r)) rfl).handle, hbefore.handle]

end passes

/-! #### The countdown and the timeouts -/

/-- The card after the countdown and the timeouts of a tick, before any grant pass (R100). -/
def State.timedOut (s : State) : State := s.countQueue.timeOut

section timedOut

variable {s : State}

theorem State.queueTick_eq (s : State) : s.queueTick = s.timedOut.passes s.countQueue.expiredHeads := rfl

theorem State.timedOut_frame (s : State) : ∃ boxes, s.timedOut =
    { s.countQueue with
      mailboxes := boxes
      queue := (s.queue.filter fun e => 2 ≤ e.remaining).map WaitEntry.countdown } := by
  obtain ⟨boxes, h⟩ := s.countQueue.timeOut_frame
  refine ⟨boxes, h.trans ?_⟩
  have hqueue : s.countQueue.queue.filter (fun e => !(e.remaining == 0)) =
      (s.queue.filter fun e => 2 ≤ e.remaining).map WaitEntry.countdown := by
    refine List.filter_map.trans (congrArg _ (List.filter_congr fun e _ => ?_))
    show (!(e.remaining - 1 == 0)) = decide (2 ≤ e.remaining)
    rw [Bool.eq_iff_iff, Bool.not_eq_true', beq_eq_false_iff_ne, decide_eq_true_eq]
    omega
  rw [hqueue]

theorem State.timedOut_queue (s : State) :
    s.timedOut.queue = (s.queue.filter fun e => 2 ≤ e.remaining).map WaitEntry.countdown := by
  obtain ⟨_, h⟩ := s.timedOut_frame
  rw [h]

theorem State.timedOut_lease (s : State) (r : RecordNo) : s.timedOut.lease r = s.lease r := by
  obtain ⟨_, h⟩ := s.timedOut_frame
  rw [h]
  rfl

theorem State.timedOut_handle (s : State) (r : RecordNo) : s.timedOut.handle r = s.handle r :=
  State.handle_eq_of_generation (by rw [s.timedOut_lease])

theorem State.timedOut_entriesFor (s : State) (x : Handle) :
    s.timedOut.entriesFor x = ((s.entriesFor x).filter fun e => 2 ≤ e.remaining).map WaitEntry.countdown := by
  unfold State.entriesFor
  rw [s.timedOut_queue, List.filter_map, List.filter_filter, List.filter_filter]
  exact congrArg _ (List.filter_congr fun e _ => Bool.and_comm _ _)

theorem State.mem_timedOut {e : WaitEntry} (he : e ∈ s.queue) (hcount : 2 ≤ e.remaining) :
    e.countdown ∈ s.timedOut.queue := by
  rw [s.timedOut_queue]
  exact List.mem_map_of_mem (List.mem_filter.2 ⟨he, decide_eq_true hcount⟩)

theorem State.QueueLaw.timedOut (h : s.QueueLaw) : s.timedOut.QueueLaw := by
  unfold State.QueueLaw
  rw [s.timedOut_queue, List.map_map]
  exact h.sublist (List.filter_sublist.map _)

/-- An entry whose count reaches 0 leaves the queue, and its master has its TIMED_OUT record and WAIT_END (R100). -/
theorem State.QueueLaw.timedOut_told (h : s.QueueLaw) {e : WaitEntry} (he : e ∈ s.queue) (hcount : e.remaining ≤ 1) :
    (∀ x ∈ s.timedOut.queue, x.master ≠ e.master) ∧
      (s.timedOut.mailbox e.master).waitRecord =
        { handle := e.handle, mode := some e.kind.mode, result := some .timedOut } ∧
      (s.timedOut.mailbox e.master).events.getLsbD 1 = true := by
  have hexpired : e.countdown ∈ s.countQueue.expired :=
    List.mem_filter.2 ⟨List.mem_map_of_mem he, beq_iff_eq.2 (Nat.sub_eq_zero_of_le hcount)⟩
  refine ⟨fun x hx c => ?_, State.endWaits_told (x := e.countdown) _ s.countQueue
    (h.countQueue.sublist (List.filter_sublist.map _)) hexpired⟩
  rw [s.timedOut_queue] at hx
  obtain ⟨y, hy, rfl⟩ := List.mem_map.1 hx
  obtain ⟨hyq, hy⟩ := List.mem_filter.1 hy
  cases h.unique hyq he c
  exact absurd (of_decide_eq_true hy) (by omega)

/-- The leases whose heads the timeouts remove (R100). -/
theorem State.mem_expiredHeads_countQueue {r : RecordNo} : r ∈ s.countQueue.expiredHeads ↔
    (s.lease r).state ≠ .free ∧ ∃ head, (s.entriesFor (s.handle r)).head? = some head ∧ head.remaining ≤ 1 := by
  unfold State.expiredHeads
  rw [List.mem_filter, Bool.and_eq_true, bne_iff_ne, State.countQueue_entriesFor, List.head?_map, Option.any_map,
    Option.any_eq_true]
  refine (and_iff_right (mem_allRecords r)).trans (and_congr_right fun _ => exists_congr fun e => and_congr_right fun _ => ?_)
  exact beq_iff_eq.trans Nat.sub_eq_zero_iff_le

end timedOut

/-- Settles O33: the timeouts first, then the passes, each of which sees what the timeouts have left of its lease. -/
theorem timeoutEndsTheWait : Obligations.TimeoutEndsTheWait := by
  rintro s hdue law ⟨e, he, hone⟩
  have hlaw := law.timedOut
  have hexpired : s.countQueue.expired ≠ [] := List.ne_nil_of_mem (a := e.countdown)
    (List.mem_filter.2 ⟨List.mem_map_of_mem he, beq_iff_eq.2 (Nat.sub_eq_zero_of_le hone.le)⟩)
  refine ⟨s.queueTick, if_pos ⟨hdue, hexpired⟩, if_pos hdue, ?_⟩
  rw [s.queueTick_eq]
  refine ⟨fun x hx hx1 => ?_, fun x hx hx2 => hlaw.passes_decides (State.mem_timedOut hx hx2) _,
    fun r head others held hentries hhead => ?_, fun r hr => ?_, fun r m hm => ?_, ?_⟩
  · obtain ⟨hgone, hrecord, hflag⟩ := law.timedOut_told hx hx1.le
    obtain ⟨hqueue, hrecord', hflag', hholders⟩ := State.passes_unawaited hgone s.countQueue.expiredHeads
    exact ⟨hqueue, hrecord'.trans hrecord, hflag'.trans hflag, fun r => by rw [hholders, s.timedOut_lease]⟩
  · have hentries : s.entriesFor (s.handle r) = head :: others := hentries
    have hmem : r ∈ s.countQueue.expiredHeads :=
      State.mem_expiredHeads_countQueue.2 ⟨by rw [held]; decide, head, by rw [hentries]; rfl, hhead⟩
    have hpassed := hlaw.passes_passed (nodup_allRecords.filter _) hmem (by rw [s.timedOut_lease]; exact held)
    rw [s.timedOut_handle, s.timedOut_lease, s.timedOut_entriesFor, hentries,
      List.filter_cons_of_neg (by simpa using hhead)] at hpassed
    exact hpassed
  · have hw : (s.timedOut.passes s.countQueue.expiredHeads).Winds s.timedOut (· ≠ r) := by
      refine .passes_elsewhere ?_
      rw [s.timedOut_lease]
      refine (or_comm.1 hr).imp_left fun hr hmem => ?_
      obtain ⟨live, head, hhead, hle⟩ := State.mem_expiredHeads_countQueue.1 hmem
      rw [s.entriesFor_head?] at hhead
      exact hr.elim live fun hr => absurd (hr head hhead) (by omega)
    refine ⟨(hw.lease r fun c => c rfl).trans (s.timedOut_lease r), fun x hx hh hx2 => ?_⟩
    have hmem : x.countdown ∈ s.timedOut.entriesFor (s.timedOut.handle r) :=
      State.mem_entriesFor.2 ⟨State.mem_timedOut hx hx2, hh.trans (s.timedOut_handle r).symm⟩
    rw [← hw.entries r fun c => c rfl] at hmem
    exact (State.mem_entriesFor.1 hmem).1
  · exact State.passes_keeps (by rw [s.timedOut_lease]; exact hm) _
  · obtain ⟨_, hframe⟩ := s.timedOut_frame
    refine (State.passes_frame _ _).trans ?_
    rw [hframe]
    rfl

end Sys2Proof.Machine
end

section
/-! ### What the mover has copied stays copied (R115, R116) -/

namespace Sys2Proof.Machine

/-- What the law of moves says of the lease that the mover copies. -/
structure State.Copies (s : State) (l : Lease) : Prop where
  copied : ∀ i j, i < s.engine.mover.blocksCopied → j < 4096 →
    s.byteAt (l.targetBlock i * 4096 + j) = s.byteAt (l.sourceBlock i * 4096 + j)
  copying : ∀ j, s.engine.step = some .copy → j < s.engine.mover.burstsDone * 64 →
    s.byteAt (l.targetBlock s.engine.mover.blocksCopied * 4096 + j) =
      s.byteAt (l.sourceBlock s.engine.mover.blocksCopied * 4096 + j)
  fits : s.engine.mover.blocksCopied < l.length
  added : ∀ target b j, l.target = some target → target.base ≤ b → b < target.base + target.len → j < 4096 →
    (∀ i, i < l.length → b ≠ l.targetBlock i) → s.byteAt (b * 4096 + j) = 0

theorem State.moveLaw_iff (s : State) :
    s.MoveLaw ↔ s.ZeroLaw ∧ ∀ r, s.engine.mover.record = some r → s.Copies (s.lease r) := by
  constructor
  · intro h
    exact ⟨h.zero, fun r hr => ⟨fun i j => h.copied r i j hr, fun j => h.copying r j hr, h.fits r hr,
      fun target b j => h.added r target b j hr⟩⟩
  · rintro ⟨hz, h⟩
    exact ⟨hz, fun r i j hr => (h r hr).copied i j, fun r j hr => (h r hr).copying j, fun r hr => (h r hr).fits,
      fun r target b j hr => (h r hr).added target b j⟩

/-! #### The blocks of a move -/

/-- A block that a move copies from lies in the run. -/
theorem Lease.Placed.source_covered {l : Lease} (h : l.Placed) (live : l.state ≠ .free) {i : Nat} (hi : i < l.length) :
    covers l.run (l.sourceBlock i) := by
  obtain ⟨run, hrun, -⟩ := h.live live
  rw [Lease.length_eq hrun] at hi
  rw [hrun, covers_some, Lease.sourceBlock_eq hrun]
  omega

/-- A block that a move copies to lies in the target run. -/
theorem Lease.Placed.target_covered {l : Lease} (h : l.Placed) (moving : l.state = .moving) {i : Nat}
    (hi : i < l.length) : covers l.target (l.targetBlock i) := by
  obtain ⟨target, ht, hlt, -⟩ := h.moving moving
  rw [ht, covers_some]
  unfold Lease.targetBlock
  rw [ht]
  split
  · next hd _ => cases hd; omega
  · next hd _ => cases hd; omega
  · next hd => cases hd

/-- A lease moves along the blocks of another. -/
structure Lease.SamePath (l' l : Lease) : Prop where
  run : l'.run = l.run
  target : l'.target = l.target
  direction : l'.direction = l.direction

theorem State.Copies.samePath {s : State} {l l' : Lease} (h : s.Copies l) (p : l'.SamePath l) : s.Copies l' := by
  have hlength : l'.length = l.length := by unfold Lease.length; rw [p.run]
  have hsource : ∀ i, l'.sourceBlock i = l.sourceBlock i := fun i => by unfold Lease.sourceBlock; rw [p.run]
  have htarget : ∀ i, l'.targetBlock i = l.targetBlock i := fun i => by
    unfold Lease.targetBlock; rw [p.target, p.direction, hlength]
  obtain ⟨copied, copying, fits, added⟩ := h
  refine ⟨fun i j => ?_, fun j => ?_, hlength ▸ fits, fun target b j ht h1 h2 hj hb => ?_⟩
  · rw [htarget, hsource]; exact copied i j
  · rw [htarget, hsource]; exact copying j
  · refine added target b j (p.target ▸ ht) h1 h2 hj fun i hi => ?_
    rw [← htarget]
    exact hb i (hlength.symm ▸ hi)

/-- A lease as it would be with another direction. -/
def Lease.turned (l : Lease) (dir : Option Direction) : Lease := { l with direction := dir }

theorem Lease.Placed.turned {l : Lease} (h : l.Placed) (dir : Option Direction) : (l.turned dir).Placed :=
  ⟨h.free, h.live, h.moving, h.still⟩

/-- The bytes of a move's blocks stay, and so does the mover: what has been copied stays copied. -/
theorem State.Copies.of_bytes {s t : State} {r : RecordNo} {dir : Option Direction}
    (h : s.Copies ((s.lease r).turned dir)) (law : s.ZeroLaw) (record : s.engine.mover.record = some r)
    (mover : t.engine.mover = s.engine.mover) (step : t.engine.step = some .copy → s.engine.step = some .copy)
    (bytes : ∀ x, s.block (x / 4096) = some (.run r) ∨ s.block (x / 4096) = some (.target r) →
      t.byteAt x = s.byteAt x) : t.Copies ((s.lease r).turned dir) := by
  have hm := law.mover r record
  have hplaced := (law.pool.placed r).turned dir
  have hrun : ∀ {b j : Nat}, covers (s.lease r).run b → j < 4096 → t.byteAt (b * 4096 + j) = s.byteAt (b * 4096 + j) := by
    intro b j hb hj
    refine bytes _ (.inl ?_)
    rw [show (b * 4096 + j) / 4096 = b by omega]
    exact (law.pool.runBlocks r b).2 hb
  have htarget : ∀ {b j : Nat}, covers (s.lease r).target b → j < 4096 →
      t.byteAt (b * 4096 + j) = s.byteAt (b * 4096 + j) := by
    intro b j hb hj
    refine bytes _ (.inr ?_)
    rw [show (b * 4096 + j) / 4096 = b by omega]
    exact (law.pool.targetBlocks r b).2 hb
  have hpair : ∀ {i j : Nat}, i < (s.lease r).length → j < 4096 →
      s.byteAt (((s.lease r).turned dir).targetBlock i * 4096 + j) =
        s.byteAt (((s.lease r).turned dir).sourceBlock i * 4096 + j) →
      t.byteAt (((s.lease r).turned dir).targetBlock i * 4096 + j) =
        t.byteAt (((s.lease r).turned dir).sourceBlock i * 4096 + j) := by
    intro i j hi hj e
    rw [htarget (hplaced.target_covered hm hi) hj, hrun (hplaced.source_covered (by simp [Lease.turned, hm]) hi) hj, e]
  obtain ⟨copied, copying, fits, added⟩ := h
  refine ⟨fun i j hi hj => ?_, fun j hstep hj => ?_, ?_, fun target b j ht h1 h2 hj hb => ?_⟩
  · rw [mover] at hi
    exact hpair (hi.trans fits) hj (copied i j hi hj)
  · have hburst := law.copying (step hstep)
    rw [mover] at hj ⊢
    obtain ⟨_, -, -, hburst⟩ := hburst
    exact hpair fits (by omega) (copying j (step hstep) hj)
  · rw [mover]; exact fits
  · have ht' : (s.lease r).target = some target := ht
    rw [htarget (by rw [ht', covers_some]; exact ⟨h1, h2⟩) hj]
    exact added target b j ht h1 h2 hj hb

/-- The law of moves, with each lease taken to have the direction that `dirs` gives it. -/
def State.CopiesAs (dirs : RecordNo → Option Direction) (s : State) : Prop :=
  ∀ r, s.engine.mover.record = some r → s.Copies ((s.lease r).turned (dirs r))

theorem State.MoveLaw.copiesAs {s : State} (h : s.MoveLaw) : s.CopiesAs fun r => (s.lease r).direction := fun r hr =>
  (s.moveLaw_iff.1 h).2 r hr

theorem State.CopiesAs.moveLaw {s : State} {dirs : RecordNo → Option Direction} (h : s.CopiesAs dirs) (law : s.ZeroLaw)
    (dir : ∀ r, (s.lease r).state = .moving → (s.lease r).direction = dirs r) : s.MoveLaw :=
  s.moveLaw_iff.2 ⟨law, fun r hr => (h r hr).samePath ⟨rfl, rfl, dir r (law.mover r hr)⟩⟩

/-! #### The engine's choice -/

theorem State.chooseStep_mover_record (s : State) : s.chooseStep.engine.mover.record = s.engine.mover.record := by
  rcases s.chooseStep_cases with ⟨-, e⟩ | ⟨b, -, e⟩ | e <;> rw [e] <;> rfl

/-- A copy step that starts has copied nothing of its block yet (R114). -/
theorem State.Copies.chooseStep {s : State} {l : Lease} (h : s.Copies l) : s.chooseStep.Copies l := by
  obtain ⟨copied, -, fits, added⟩ := h
  rcases s.chooseStep_cases with ⟨-, e⟩ | ⟨b, -, e⟩ | e
  all_goals
    rw [e]
    refine ⟨copied, fun j hstep hj => ?_, fits, added⟩
  · exact absurd hj (by simp [Engine.startCopy])
  · exact nomatch hstep
  · exact nomatch hstep

theorem State.CopiesAs.chooseStep {s : State} {dirs : RecordNo → Option Direction} (h : s.CopiesAs dirs) :
    s.chooseStep.CopiesAs dirs := fun r hr => by
  rw [State.lease_chooseStep]
  exact (h r (s.chooseStep_mover_record ▸ hr)).chooseStep

end Sys2Proof.Machine
end

section
/-! ### What the mover has copied stays copied: the operations -/

namespace Sys2Proof.Machine

/-- Abandonment leaves the mover idle (R114, R122). -/
theorem State.abandonMove_idle (s : State) (r : RecordNo) (reason : MoveReason) :
    (s.abandonMove r reason).engine.mover.record = none := by
  obtain ⟨b, hb⟩ := State.forMasters_frame
    (((s.scrubRun (s.lease r).target).setLease r { s.lease r with state := .held, target := none }).setEngine
      (s.engine.giveUpMove (s.lease r))) (s.lease r).holders
    (fun s' m => s'.endMove m
      { handle := s.handle r, result := some .abandoned, reason := reason, length := (s.lease r).length })
    fun _ _ => ⟨_, rfl⟩
  unfold State.abandonMove
  rw [hb]
  rfl

/-- The records that are MOVING have the runs they had. -/
def State.KeepsMoving (t s : State) : Prop :=
  ∀ r, (s.lease r).state = .moving → (t.lease r).run = (s.lease r).run ∧ (t.lease r).target = (s.lease r).target

namespace State.KeepsMoving

variable {s t u : State}

theorem refl (s : State) : s.KeepsMoving s := fun _ _ => ⟨rfl, rfl⟩

theorem trans (h : u.KeepsMoving t) (h' : t.KeepsMoving s) (ht : t.Undisturbed s) : u.KeepsMoving s := fun r hr => by
  obtain ⟨hrun, htarget⟩ := h r ((ht.moving r).2 hr)
  obtain ⟨hrun', htarget'⟩ := h' r hr
  exact ⟨hrun.trans hrun', htarget.trans htarget'⟩

theorem of_leases (h : t.leases = s.leases) : t.KeepsMoving s := fun r _ => by
  unfold State.lease
  rw [h]
  exact ⟨rfl, rfl⟩

theorem of_quiet (h : t.Quiet s) : t.KeepsMoving s := of_leases h.leases

/-- One record changes, and not its runs where it is MOVING. -/
theorem of_lease {r : RecordNo} {l : Lease} (h : ∀ r', t.lease r' = if r = r' then l else s.lease r')
    (hl : (s.lease r).state = .moving → l.run = (s.lease r).run ∧ l.target = (s.lease r).target) : t.KeepsMoving s := by
  intro r' hr'
  rw [h]
  split
  · next e => subst e; exact hl hr'
  · exact ⟨rfl, rfl⟩

/-- One record changes that is not MOVING. -/
theorem of_still {r : RecordNo} {l : Lease} (h : ∀ r', t.lease r' = if r = r' then l else s.lease r')
    (hr : (s.lease r).state ≠ .moving) : t.KeepsMoving s := of_lease h fun hm => absurd hm hr

theorem grantPass (s : State) (r : RecordNo) : (s.grantPass r).KeepsMoving s := by
  refine of_lease (fun r' => ((s.grantPass_quiet r).lease r').trans (s.lease_setLease r r' _)) fun hm => ?_
  rw [s.grantable_eq, if_pos hm]
  exact ⟨rfl, rfl⟩

theorem removeHolder (s : State) (r : RecordNo) (m : Master) : (s.removeHolder r m).KeepsMoving s :=
  of_lease (fun r' => s.lease_setLease r r' _) fun _ => ⟨rfl, rfl⟩

theorem retire {r : RecordNo} (hr : (s.lease r).state ≠ .moving) (cause : RetireCause) :
    (s.retire r cause).KeepsMoving s := of_still (fun r' => s.retire_lease r r' cause) hr

theorem settle (s : State) (r : RecordNo) : (s.settle r).KeepsMoving s := by
  rcases s.settle_cases r with ⟨e, -⟩ | ⟨held, -, e | e⟩
  · rw [e]; exact refl s
  · rw [e]; exact of_still (fun r' => s.lease_setLease r r' _) (by simp [held])
  · rw [e]; exact retire (by simp [held]) .emptied

theorem leave (s : State) {r : RecordNo} (hl : (s.lease r).state ≠ .free) (m : Master) :
    (s.leave r m).KeepsMoving s :=
  (grantPass _ r).trans (removeHolder s r m) (.setLease_samePlace s ⟨rfl, rfl, hl, Iff.rfl⟩)

end State.KeepsMoving

namespace State.CopiesAs

variable {s t : State} {dirs : RecordNo → Option Direction}

/-- A change that does not disturb the engine, nor the runs of the record that moves. -/
theorem of_undisturbed (h : s.CopiesAs dirs) (law : s.ZeroLaw) (ht : t.Undisturbed s) (runs : t.KeepsMoving s) :
    t.CopiesAs dirs := fun r hr => by
  rw [ht.engine] at hr
  obtain ⟨hrun, htarget⟩ := runs r (law.mover r hr)
  have hcopies : t.Copies ((s.lease r).turned (dirs r)) :=
    (h r hr).of_bytes law hr (by rw [ht.engine]) (by rw [ht.engine]; exact id)
      fun x _ => State.byteAt_of_sram ht.sram x
  exact hcopies.samePath ⟨hrun, htarget, rfl⟩

theorem of_same (h : s.CopiesAs dirs) (law : s.ZeroLaw) (ht : t.Same s) : t.CopiesAs dirs :=
  h.of_undisturbed law (.of_same ht) (.of_leases (by rw [ht]))

/-- With the mover idle nothing is said. -/
theorem of_idle (h : t.engine.mover.record = none) : t.CopiesAs dirs := fun _ hr => nomatch h.symm.trans hr

theorem abandonMove (s : State) (r : RecordNo) (reason : MoveReason) : (s.abandonMove r reason).CopiesAs dirs :=
  of_idle (s.abandonMove_idle r reason)

theorem retire (h : s.CopiesAs dirs) (law : s.ZeroLaw) (r : RecordNo) (cause : RetireCause) :
    (s.retire r cause).CopiesAs dirs := by
  have hund := Undisturbed.retire_retireMove s r cause
  unfold State.retireMove at hund
  split at hund
  · exact of_idle (hund.engine ▸ s.abandonMove_idle r .revoked)
  · next hm => exact h.of_undisturbed law hund (.retire hm cause)

/-- A move starts on blocks that hold zeros, with nothing copied and no copy in flight (R113, R114). -/
theorem startMove {r : RecordNo} {target : Run} (law : s.ZeroLaw) (hl : (s.lease r).state ≠ .free)
    (hn : s.movingRecord = none) (hfree : s.pool.allFree target = true) : (s.startMove r target).CopiesAs dirs := by
  intro r' hr'
  cases hr'
  obtain ⟨run, hrun, h1, -⟩ := law.pool.live r hl
  have hnocopy : s.engine.step ≠ some .copy := fun hx => by
    obtain ⟨r', hr', -⟩ := law.copying hx
    exact State.movingRecord_none hn r' (law.mover r' hr')
  have hlease : (s.startMove r target).lease r = { s.lease r with state := .moving, target := some target } :=
    ((s.startMove_quiet r target).lease r).trans (State.lease_setLease_self _ _ _)
  have hzero := (s.pool.allFree_iff target).1 hfree
  have hsram : (s.startMove r target).sram = s.sram := (Undisturbed.allocate s hfree (.target r)).sram
  rw [hlease]
  refine ⟨fun i j hi => absurd hi (Nat.not_lt_zero i), fun j hstep => absurd hstep hnocopy, ?_,
    fun x b j hx hb1 hb2 hj _ => ?_⟩
  · show 0 < (s.lease r).length
    rw [Lease.length_eq hrun]
    exact h1
  · cases hx
    exact (State.byteAt_of_sram hsram _).trans (law.zero b j (hzero b hb1 hb2) hj)

theorem resetAll (s : State) : (resetAllBody s).1.CopiesAs dirs := by
  refine of_idle ?_
  rw [resetAllBody_eq]
  unfold State.wakeEngine
  split
  · exact s.resetCleared.chooseStep_mover_record
  · rfl

end State.CopiesAs

/-- Every operation keeps what has been copied, in whatever direction the leases are read. -/
theorem cardOps_copiesAs (dirs : RecordNo → Option Direction) : CardOps fun s => s.ZeroLaw ∧ s.CopiesAs dirs where
  unseen hs h := ⟨cardOps_zeroLaw.unseen hs.1 h, hs.2.of_same hs.1 h⟩
  mail m b hs h := ⟨cardOps_zeroLaw.mail m b hs.1 h, hs.2.of_undisturbed hs.1 (.of_eq rfl rfl rfl rfl) (.of_leases rfl)⟩
  policy m p hs h :=
    ⟨cardOps_zeroLaw.policy m p hs.1 h, hs.2.of_undisturbed hs.1 (.of_eq rfl rfl rfl rfl) (.of_leases rfl)⟩
  watermark {s} w hs h :=
    have hq : (s.setPool { s.pool with watermark := w }).Quiet s := ⟨rfl, rfl, rfl, rfl, rfl, rfl⟩
    ⟨cardOps_zeroLaw.watermark w hs.1 h, hs.2.of_undisturbed hs.1 (.of_quiet hq rfl rfl) (.of_quiet hq)⟩
  choose hs h := ⟨hs.1.chooseStep, hs.2.chooseStep⟩
  rewrite {s} r l hs hl h :=
    ⟨cardOps_zeroLaw.rewrite r l hs.1 hl h, hs.2.of_undisturbed hs.1 (.setLease_samePlace s h)
      (.of_lease (fun r' => s.lease_setLease r r' l) fun _ => ⟨h.run, h.target⟩)⟩
  pass {s} r hs hl := ⟨cardOps_zeroLaw.pass r hs.1 hl, hs.2.of_undisturbed hs.1 (.grantPass s hl) (.grantPass s r)⟩
  leave {s} m r hs hm := by
    have hl := hs.1.pool.live_of_holder hm
    have hund := State.Undisturbed.leave s hl m
    exact ⟨cardOps_zeroLaw.leave m r hs.1 hm, hs.2.of_undisturbed hs.1 ((State.Undisturbed.settle _ r).trans hund)
      ((State.KeepsMoving.settle _ r).trans (.leave s hl m) hund)⟩
  abandon {s} r reason hs hm := ⟨hs.1.abandonMove hm reason, .abandonMove s r reason⟩
  retire r cause hs hl := ⟨hs.1.retire hl cause, hs.2.retire hs.1 r cause⟩
  create {s} m r dir len run hs hr hlen hf := by
    have hfree := State.firstFree_free hr
    exact ⟨cardOps_zeroLaw.create m r dir len run hs.1 hr hlen hf,
      hs.2.of_undisturbed hs.1 (.createLease s m hfree (Pool.findRun_fits hf).2)
        (.of_still (fun r' => s.createLease_lease m r r' run) (by simp [hfree]))⟩
  shrink {s} r dir run len hs hm hr h1 hlt :=
    ⟨cardOps_zeroLaw.shrink r dir run len hs.1 hm hr h1 hlt, hs.2.of_undisturbed hs.1 (.shrinkLease s hm dir run len)
      (.of_still (fun r' => ((s.shrinkLease_quiet r dir run len).lease r').trans (State.lease_setLease _ r r' _)) hm)⟩
  grow {s} r dir run added grown len hs hl hm hr hlt hle hg :=
    ⟨cardOps_zeroLaw.grow r dir run added grown len hs.1 hl hm hr hlt hle hg,
      hs.2.of_undisturbed hs.1 (.growLease s hm (Pool.growthInPlace_spec hlt hg).1 grown)
        (.of_still (fun r' => ((s.growLease_quiet r added grown).lease r').trans (State.lease_setLease _ r r' _)) hm)⟩
  startMove r dir run target len hs hl hn hr hlt hle hf :=
    ⟨cardOps_zeroLaw.startMove r dir run target len hs.1 hl hn hr hlt hle hf,
      .startMove hs.1 hl hn (Pool.findRun_fits hf).2⟩
  resetAll {s} hs := ⟨cardOps_zeroLaw.resetAll hs.1, .resetAll s⟩

end Sys2Proof.Machine
end

section
/-! ### What the mover has copied stays copied: bursts and data accesses (R116, R117, R141) -/

namespace Sys2Proof.Machine

/-- A copy burst that ends adds its bytes to what has been copied of the block (R116). -/
theorem State.MoveLaw.moverBurst_copies {s : State} (law : s.MoveLaw) (step : s.engine.step = some .copy)
    {r : RecordNo} (record : s.engine.mover.record = some r) :
    ((s.moverBurst r).setEngine s.engine.countCopyBurst).Copies (s.lease r) := by
  obtain ⟨hblock, hburst⟩ := law.zero.moverBurst_block step record
  obtain ⟨copied, copying, fits, added⟩ := (s.moveLaw_iff.1 law).2 r record
  have hm := law.zero.mover r record
  have hplaced := law.zero.pool.placed r
  have elsewhere : ∀ {b j : Nat}, b ≠ (s.lease r).targetBlock s.engine.mover.blocksCopied → j < 4096 →
      (s.moverBurst r).byteAt (b * 4096 + j) = s.byteAt (b * 4096 + j) := fun {b j} hb hj =>
    State.copyBurst_outside law.zero.sram hburst fun e => hb (by omega)
  have hsource : ∀ {i j : Nat}, i < (s.lease r).length → j < 4096 →
      (s.moverBurst r).byteAt ((s.lease r).sourceBlock i * 4096 + j) =
        s.byteAt ((s.lease r).sourceBlock i * 4096 + j) := by
    intro i j hi hj
    refine elsewhere (fun e => ?_) hj
    have hrun := (law.zero.pool.runBlocks r _).2 (hplaced.source_covered (by simp [hm]) hi)
    rw [e, hblock] at hrun
    cases hrun
  have hnext := (s.lease r).targetBlock_add s.engine.mover.blocksCopied
  refine ⟨fun i j hi hj => ?_, fun j _ hj => ?_, fits, fun target b j ht h1 h2 hj hb => ?_⟩
  · change i < s.engine.mover.blocksCopied at hi
    have hi' := (s.lease r).targetBlock_add i
    rw [State.byteAt_setEngine, State.byteAt_setEngine, elsewhere (by omega) hj, hsource (hi.trans fits) hj]
    exact copied i j hi hj
  · change j < (s.engine.mover.burstsDone + 1) * 64 at hj
    have hblocks : ((s.moverBurst r).setEngine s.engine.countCopyBurst).engine.mover.blocksCopied =
        s.engine.mover.blocksCopied := rfl
    rw [hblocks, State.byteAt_setEngine, State.byteAt_setEngine, hsource fits (by omega)]
    unfold State.moverBurst
    rw [State.copyBurst_byteAt law.zero.sram]
    split
    · exact congrArg s.byteAt (by omega)
    · exact copying j step (by omega)
  · rw [State.byteAt_setEngine, elsewhere (hb _ fits) hj]
    exact added target b j ht h1 h2 hj hb

/-- A block whose bursts have all been copied is a block copied (R116). -/
theorem State.Copies.countCopyBlock {s t : State} {l : Lease} (h : s.Copies l) (step : s.engine.step = some .copy)
    (done : s.engine.mover.burstsDone = 64) (more : s.engine.mover.blocksCopied + 1 < l.length)
    (sram : t.sram = s.sram) (blocks : t.engine.mover.blocksCopied = s.engine.mover.blocksCopied + 1)
    (bursts : t.engine.mover.burstsDone = 0) : t.Copies l := by
  have hbyte := State.byteAt_of_sram sram
  obtain ⟨copied, copying, -, added⟩ := h
  refine ⟨fun i j hi hj => ?_, fun j _ hj => ?_, blocks ▸ more, fun target b j ht h1 h2 hj hb => ?_⟩
  · rw [hbyte, hbyte]
    rcases Nat.lt_succ_iff_lt_or_eq.1 (blocks ▸ hi) with hlt | rfl
    · exact copied i j hlt hj
    · exact copying j step (by omega)
  · omega
  · rw [hbyte]
    exact added target b j ht h1 h2 hj hb

/-- SRAM and the mover are as they were. -/
theorem State.Copies.of_mover {s t : State} {l : Lease} (h : s.Copies l) (sram : t.sram = s.sram)
    (mover : t.engine.mover = s.engine.mover) (step : t.engine.step = some .copy → s.engine.step = some .copy) :
    t.Copies l := by
  have hbyte := State.byteAt_of_sram sram
  obtain ⟨copied, copying, fits, added⟩ := h
  refine ⟨fun i j hi hj => ?_, fun j hstep hj => ?_, mover ▸ fits, fun target b j ht h1 h2 hj hb => ?_⟩
  · rw [hbyte, hbyte]; exact copied i j (mover ▸ hi) hj
  · rw [hbyte, hbyte, mover]; exact copying j (step hstep) (mover ▸ hj)
  · rw [hbyte]; exact added target b j ht h1 h2 hj hb

theorem State.MoveLaw.endScrubStep {s : State} (h : s.MoveLaw) (b : Block) (law : (s.endScrubStep b).ZeroLaw) :
    (s.endScrubStep b).MoveLaw := by
  have hmover : (s.endScrubStep b).engine.mover.record = s.engine.mover.record := by
    unfold State.endScrubStep
    rw [State.chooseStep_mover_record, State.checkReady_eq]
    rfl
  refine (State.moveLaw_iff _).2 ⟨law, fun r hr => ?_⟩
  obtain ⟨p, x, e, he, -⟩ := s.endScrubStep_frame b
  have hlease : (s.endScrubStep b).lease r = s.lease r := by rw [he]; rfl
  have hcopies := (s.moveLaw_iff.1 h).2 r (hmover ▸ hr)
  rw [hlease]
  unfold State.endScrubStep
  rw [State.checkReady_eq]
  refine State.Copies.chooseStep ?_
  exact hcopies.of_mover rfl rfl id

theorem State.MoveLaw.chooseStep {s : State} (h : s.MoveLaw) : s.chooseStep.MoveLaw := by
  refine (State.moveLaw_iff _).2 ⟨h.zero.chooseStep, fun r hr => ?_⟩
  rw [State.lease_chooseStep]
  exact ((s.moveLaw_iff.1 h).2 r (s.chooseStep_mover_record ▸ hr)).chooseStep

/-- Bytes change that lie in no block of the run or the target run of the record that moves. -/
theorem State.MoveLaw.of_bytes {s t : State} (h : s.MoveLaw) (law : t.ZeroLaw)
    (mover : t.engine.mover = s.engine.mover) (step : t.engine.step = some .copy → s.engine.step = some .copy)
    (lease : ∀ r, (s.lease r).state = .moving → t.lease r = s.lease r)
    (bytes : ∀ r x, (s.lease r).state = .moving →
      s.block (x / 4096) = some (.run r) ∨ s.block (x / 4096) = some (.target r) → t.byteAt x = s.byteAt x) :
    t.MoveLaw := by
  refine t.moveLaw_iff.2 ⟨law, fun r hr => ?_⟩
  rw [mover] at hr
  have hm := h.zero.mover r hr
  rw [lease r hm]
  exact ((s.moveLaw_iff.1 h).2 r hr).of_bytes (dir := (s.lease r).direction) h.zero hr mover step
    fun x hx => bytes r x hm hx

theorem State.MoveLaw.of_eq {s t : State} (h : s.MoveLaw) (leases : t.leases = s.leases) (pool : t.pool = s.pool)
    (engine : t.engine = s.engine) (sram : t.sram = s.sram) : t.MoveLaw :=
  h.of_bytes (h.zero.of_eq leases pool engine sram) (by rw [engine]) (by rw [engine]; exact id)
    (fun r _ => by unfold State.lease; rw [leases]) fun _ x _ _ => State.byteAt_of_sram sram x

/-- Completion leaves the mover idle, and the rest of the engine (R114, R120). -/
theorem State.completeMove_engine (s : State) (r : RecordNo) : (s.completeMove r).engine = s.engine.endMove := by
  obtain ⟨b, hb⟩ := State.forMasters_frame
    (((s.swapRuns r).addOwnedBy (s.lease r).owner 0 ((s.lease r).targetLength - (s.lease r).length)).setEngine
      s.engine.endMove) (s.lease r).holders
    (fun s' m => s'.endMove m
      { handle := s.handle r, result := some .done, reason := .none, length := (s.lease r).targetLength })
    fun _ _ => ⟨_, rfl⟩
  unfold State.completeMove
  rw [hb]
  rfl

/-- The end of a burst keeps the law of moves: the scrubber's burst, and one that has been cut, write SCRUB blocks, and the
mover's copies its bytes. -/
theorem State.BurstEnds.moveLaw {s u : State} {c : Instr} (hu : s.BurstEnds c u) (h : s.MoveLaw) : u.MoveLaw := by
  have law := hu.zeroLaw h.zero
  have zero : ∀ {b : Block} {burst : Nat}, s.block b.val = some .scrub → burst < 64 →
      (s.zeroBurst b.1 burst).MoveLaw := fun {b burst} hb hburst => by
    refine h.of_bytes (h.zero.zeroBurst b.1 burst) rfl id (fun r _ => (s.zeroBurst_quiet b.1 burst).lease r)
      fun r x _ hx => s.zeroBurst_outside hburst fun e => ?_
    rw [e, hb] at hx
    simp at hx
  cases hu with
  | @scrub b step block more =>
    exact (zero (h.zero.pool.scrubbing b step block) (h.zero.scrubBursts step)).of_bytes law rfl id (fun _ _ => rfl)
      fun _ _ _ _ => rfl
  | @scrubBlock b step block last =>
    exact (zero (h.zero.pool.scrubbing b step block) (by decide)).endScrubStep b law
  | cutScrub step =>
    obtain ⟨hblock, hburst⟩ := h.zero.cutScrub _ _ step
    exact (zero hblock hburst).chooseStep
  | @copy r step record more =>
    refine (State.moveLaw_iff _).2 ⟨law, fun r' hr' => ?_⟩
    cases record.symm.trans hr'
    rw [State.lease_setEngine, (s.moverBurst_quiet r).lease]
    exact h.moverBurst_copies step record
  | @cutCopy source target burst step =>
    obtain ⟨hblock, hburst⟩ := h.zero.cutCopy _ _ _ step
    have hengine : (s.copyBurst source target burst).engine = s.engine := State.setSram_engine _ _
    have hzero : (s.copyBurst source target burst).ZeroLaw :=
      h.zero.copyBurst hburst (by simp [hblock]) fun e => by cases step.symm.trans e
    refine (h.of_bytes hzero (by rw [hengine]) (by rw [hengine]; exact id) (fun r _ => (s.copyBurst_quiet _ _ _).lease r)
      fun r x _ hx => State.copyBurst_outside h.zero.sram hburst fun e => ?_).chooseStep
    rw [e, hblock] at hx
    simp at hx
  | @copyBlock r step record last more =>
    refine (State.moveLaw_iff _).2 ⟨law, fun r' hr' => ?_⟩
    rw [State.chooseStep_mover_record] at hr'
    cases record.symm.trans hr'
    rw [State.lease_chooseStep, State.lease_setEngine, (s.moverBurst_quiet r).lease]
    refine ((h.moverBurst_copies step record).countCopyBlock
      (t := (s.moverBurst r).setEngine s.engine.countCopyBlock) step ?_ more rfl rfl rfl).chooseStep
    show s.engine.mover.burstsDone + 1 = 64
    omega
  | @complete r step record last all =>
    refine (State.moveLaw_iff _).2 ⟨law, fun r' hr' => ?_⟩
    rw [State.chooseStep_mover_record, (s.moverBurst r).completeMove_engine r] at hr'
    cases hr'

/-- What the port serves stores in the run of a lease that does not move, if anything (R117, R141). -/
theorem State.MoveLaw.serve {s : State} (h : s.MoveLaw) (x : Transfer) : (s.serve x).MoveLaw := by
  have law := h.zero.serve x
  rcases State.serve_stores h.zero.sram x with ⟨b, a, e⟩ | ⟨m, r, address, run, mem, a, -, -, hst, -, hout, e⟩
  · rw [e]
    exact h.of_eq rfl rfl rfl rfl
  · rw [e] at law ⊢
    refine h.of_bytes law rfl id (fun r' hr' => ?_) fun r' y hr' hy => hout y fun hin => ?_
    · refine (State.lease_setLease (s.setSram mem) r r' _).trans (if_neg ?_)
      rintro rfl
      exact hst.still hr'
    · obtain ⟨h1, h2⟩ := (Run.holds_iff run y).1 hin
      rw [h.zero.pool.run_block hst.hasRun _ h1 h2] at hy
      rcases hy with hy | hy <;> cases hy
      exact hst.still hr'

end Sys2Proof.Machine
end

section
/-! ### What the mover has copied stays copied: the direction of a lease, and the statement (R1, R115) -/

namespace Sys2Proof.Machine

/-- A live record was live and has the direction it had (R1). -/
def State.KeepsDirections (t s : State) : Prop :=
  ∀ r, (t.lease r).state ≠ .free → (s.lease r).state ≠ .free ∧ (t.lease r).direction = (s.lease r).direction

namespace State.KeepsDirections

variable {s t u : State}

theorem refl (s : State) : s.KeepsDirections s := fun _ h => ⟨h, rfl⟩

theorem trans (h : u.KeepsDirections t) (h' : t.KeepsDirections s) : u.KeepsDirections s := fun r hr => by
  obtain ⟨hl, hd⟩ := h r hr
  obtain ⟨hl', hd'⟩ := h' r hl
  exact ⟨hl', hd.trans hd'⟩

theorem of_quiet (h : t.Quiet s) : t.KeepsDirections s := fun r hr => by
  rw [h.lease] at hr ⊢
  exact ⟨hr, rfl⟩

/-- One record changes: it was live and keeps its direction, or it is freed. -/
theorem of_lease {r : RecordNo} {l : Lease} (h : ∀ r', t.lease r' = if r = r' then l else s.lease r')
    (hl : l.state ≠ .free → (s.lease r).state ≠ .free ∧ l.direction = (s.lease r).direction) : t.KeepsDirections s := by
  intro r' hr'
  rw [h] at hr' ⊢
  split at hr'
  · next e => subst e; rw [if_pos rfl]; exact hl hr'
  · next e => rw [if_neg e]; exact ⟨hr', rfl⟩

theorem setLease {r : RecordNo} {l : Lease} (live : (s.lease r).state ≠ .free)
    (direction : l.direction = (s.lease r).direction) : (s.setLease r l).KeepsDirections s :=
  of_lease (fun r' => s.lease_setLease r r' l) fun _ => ⟨live, direction⟩

theorem direction_foldl_granted (l : Lease) (entries : List WaitEntry) :
    (entries.foldl Lease.granted l).direction = l.direction :=
  List.foldlRecOn (motive := fun l' : Lease => l'.direction = l.direction) _ _ rfl fun l' h e _ => by
    unfold Lease.granted
    split <;> exact h

theorem grantPass (s : State) {r : RecordNo} (hl : (s.lease r).state ≠ .free) : (s.grantPass r).KeepsDirections s :=
  (of_quiet (s.grantPass_quiet r)).trans (setLease hl (direction_foldl_granted _ _))

theorem abandonMove (s : State) {r : RecordNo} (hl : (s.lease r).state ≠ .free) (reason : MoveReason) :
    (s.abandonMove r reason).KeepsDirections s :=
  of_lease (fun r' => s.abandonMove_lease r r' reason) fun _ => ⟨hl, rfl⟩

theorem retire (s : State) (r : RecordNo) (cause : RetireCause) : (s.retire r cause).KeepsDirections s :=
  of_lease (fun r' => s.retire_lease r r' cause) fun h => absurd rfl h

theorem leave (s : State) {r : RecordNo} (hl : (s.lease r).state ≠ .free) (m : Master) :
    (s.leave r m).KeepsDirections s :=
  (of_quiet (s.leave_quiet r m)).trans (setLease hl (direction_foldl_granted _ _))

theorem settle (s : State) (r : RecordNo) : (s.settle r).KeepsDirections s := by
  rcases s.settle_cases r with ⟨e, -⟩ | ⟨held, -, e | e⟩
  · rw [e]; exact refl s
  · rw [e]; exact setLease (by simp [held]) rfl
  · rw [e]; exact retire s r .emptied

theorem completeMove {s : State} (law : s.PoolLaw) (r : RecordNo) : (s.completeMove r).KeepsDirections s := by
  intro r' hr'
  rcases s.completeMove_lease_cases r r' with e | ⟨target, ht, e⟩
  · rw [e] at hr' ⊢; exact ⟨hr', rfl⟩
  · rw [e]
    refine ⟨fun hfree => ?_, rfl⟩
    rw [(law.free r' hfree).2.1] at ht
    cases ht

end State.KeepsDirections

/-- Every operation keeps the direction of a live lease. -/
theorem leaseOps_keepsDirections (s₀ : State) : LeaseOps fun s => s.PoolLaw ∧ s.KeepsDirections s₀ where
  quiet h hs := ⟨leaseOps_poolLaw.quiet h hs.1, (State.KeepsDirections.of_quiet h).trans hs.2⟩
  choose {s} hs := ⟨hs.1.chooseStep, fun r => by rw [State.lease_chooseStep]; exact hs.2 r⟩
  written {s} r w hs := by
    refine ⟨leaseOps_poolLaw.written r w hs.1, State.KeepsDirections.trans ?_ hs.2⟩
    exact .of_lease (fun r' => s.lease_setLease r r' _) fun hl => ⟨hl, rfl⟩
  acquire {s} m r mode hs hl hg := by
    refine ⟨leaseOps_poolLaw.acquire m r mode hs.1 hl hg, State.KeepsDirections.trans ?_ hs.2⟩
    exact .setLease hl rfl
  convert {s} m r mode hs hl hm hh ha := by
    refine ⟨leaseOps_poolLaw.convert m r mode hs.1 hl hm hh ha, State.KeepsDirections.trans ?_ hs.2⟩
    exact .setLease hl rfl
  pass {s} r hs hl := ⟨hs.1.grantPass hl, (State.KeepsDirections.grantPass s hl).trans hs.2⟩
  leave {s} m r hs hl hm hh := ⟨leaseOps_poolLaw.leave m r hs.1 hl hm hh,
    (State.KeepsDirections.settle _ r).trans ((State.KeepsDirections.leave s hl m).trans hs.2)⟩
  abandon {s} r reason hs hm :=
    ⟨hs.1.abandonMove hm reason, (State.KeepsDirections.abandonMove s (by simp [hm]) reason).trans hs.2⟩
  endSession {s} m reason hs := by
    refine State.endSession_stages (P := fun s => s.PoolLaw ∧ s.KeepsDirections s₀)
      (Q := fun s => s.PoolLaw ∧ s.KeepsDirections s₀) m reason
      (fun h hs => ⟨leaseOps_poolLaw.quiet h hs.1, (State.KeepsDirections.of_quiet h).trans hs.2⟩) ?_ ?_ ?_ hs
    · exact State.endStage1_keeps (P := fun s => s.PoolLaw ∧ s.KeepsDirections s₀) m
        (fun h hs => ⟨leaseOps_poolLaw.quiet h hs.1, (State.KeepsDirections.of_quiet h).trans hs.2⟩)
        fun r hs hl => ⟨hs.1.grantPass hl, (State.KeepsDirections.grantPass _ hl).trans hs.2⟩
    · intro u hu
      unfold State.endStage2
      split
      · next r hr =>
        have hm := State.movingRecord_moving hr
        split
        · exact ⟨hu.1.abandonMove hm _, (State.KeepsDirections.abandonMove u (by simp [hm]) _).trans hu.2⟩
        · exact hu
      · exact hu
    · intro u r hu hm
      have hl := hu.1.live_of_holder hm
      obtain ⟨hp, hl'⟩ := hu.1.leave hl m
      exact ⟨hp.settle hl',
        (State.KeepsDirections.settle _ r).trans ((State.KeepsDirections.leave u hl m).trans hu.2)⟩
  retire {s} r cause hs hl := ⟨hs.1.retire hl cause, (State.KeepsDirections.retire s r cause).trans hs.2⟩
  shrink {s} r dir run len hs hm hr h1 hlt := ⟨hs.1.shrinkLease dir hm hr h1 hlt,
    (State.KeepsDirections.of_lease
      (fun r' => ((s.shrinkLease_quiet r dir run len).lease r').trans (State.lease_setLease _ r r' _))
      fun hl => ⟨hl, rfl⟩).trans hs.2⟩
  grow {s} r dir run added grown len hs hl hm hr hlt hle hg := ⟨hs.1.growLease hl hm hr hlt hle hg,
    (State.KeepsDirections.of_lease
      (fun r' => ((s.growLease_quiet r added grown).lease r').trans (State.lease_setLease _ r r' _))
      fun hl => ⟨hl, rfl⟩).trans hs.2⟩
  startMove {s} m r dir run target len hs hl _ hn hr hlt hle hf := ⟨hs.1.startMove hl hn hr hlt hle hf,
    (State.KeepsDirections.of_lease
      (fun r' => ((s.startMove_quiet r target).lease r').trans (State.lease_setLease _ r r' _))
      fun _ => ⟨hl, rfl⟩).trans hs.2⟩
  completeMove {s} r hs := ⟨hs.1.completeMove r, (State.KeepsDirections.completeMove hs.1 r).trans hs.2⟩
  freeBlock {s} b hs hstep hblock := ⟨leaseOps_poolLaw.freeBlock b hs.1 hstep hblock, hs.2⟩
  resetAll {s} hs := ⟨leaseOps_poolLaw.resetAll hs.1, fun r hr => by
    rw [State.resetAllBody_lease] at hr
    exact absurd rfl hr⟩

/-- A record that is MOVING after a command has the direction it had; CREATE and a system reset leave none MOVING that was
not. -/
theorem exec_moving_direction {c : Instr} {s t : State} (hreset : c ≠ .systemReset) (ht : exec c s = .next t)
    (law : s.PoolLaw) {r : RecordNo} (hr : (t.lease r).state = .moving) :
    (t.lease r).direction = (s.lease r).direction := by
  by_cases hcreate : c = .takeCreate
  · subst hcreate
    rcases takeCreate_cases ht with hq | ⟨u, m, r', run, hu, -, -, -, -, hq⟩
    · rw [hq.lease]
    · rw [hq.lease, State.createLease_lease] at hr ⊢
      split at hr
      · cases hr
      · next hne => rw [if_neg hne, hu.lease]
  · have hkeeps := (leaseOps_keepsDirections s).exec hcreate hreset ht ⟨law, .refl s⟩
    exact (hkeeps.2 r (by simp [hr])).2

/-- Settles O60: bursts and accesses at the port keep the law as it stands; the other commands keep it read with the
directions that the leases had, and leave those directions. -/
theorem stepKeepsTheCopy : Obligations.StepKeepsTheCopy := by
  intro s t ht hs
  unfold step at ht
  split at ht
  · cases ht; exact hs
  · next c rest _ =>
    have hs : State.MoveLaw { s with pending := rest } := hs.of_eq rfl rfl rfl rfl
    rcases exec_kinds ht with ⟨-, rfl⟩ | ⟨x, -, rfl⟩ | ⟨-, rfl | ⟨u, hu, rfl⟩⟩ | ⟨hx, hb, hr⟩
    · exact (State.systemReset_atReset _).moveLaw
    · rcases State.takeTransfer_cases { s with pending := rest } x with e | ⟨-, e⟩ | ⟨-, e⟩
      · rw [e]; exact hs
      · rw [e]; exact hs.serve x
      · rw [e]; exact hs.of_eq rfl rfl rfl rfl
    · exact hs
    · have hport : (u.setPortWait none).MoveLaw := (hu.moveLaw hs).of_eq rfl rfl rfl rfl
      exact State.servePort_keeps hport fun x => hport.serve x
    · obtain ⟨law, hcopies⟩ := (cardOps_copiesAs _).exec hx hb hr ht ⟨hs.zero, hs.copiesAs⟩
      exact hcopies.moveLaw law fun r hm => exec_moving_direction hr ht hs.zero.pool hm

end Sys2Proof.Machine
end

section
/-! ### The mover's bursts and the completion of a move (R34, R43, R115, R116, R120, R127) -/

namespace Sys2Proof.Machine

theorem State.copied_copyBurst {s : State} (h : s.SramLaw) (source target burst : Nat) :
    (s.copyBurst source target burst).Copied s (source * 4096 + burst * 64) (target * 4096 + burst * 64) :=
  s.copyBurst_byteAt h source target burst

theorem State.Copied.of_sram {t u s : State} {source target : Nat} (h : u.Copied s source target)
    (e : t.sram = u.sram) : t.Copied s source target := fun x => (State.byteAt_of_sram e x).trans (h x)

/-- The mover's burst copies a block of the run into its paired block of the target run (R115, R116). -/
theorem State.copied_moverBurst {s : State} (h : s.SramLaw) {r : RecordNo} {run target : Run} {dir : Direction}
    {i k : Nat} (hrun : (s.lease r).run = some run) (htarget : (s.lease r).target = some target)
    (hdir : (s.lease r).direction = some dir)
    (mover : s.engine.mover = { record := some r, blocksCopied := i, burstsDone := k }) :
    (s.moverBurst r).Copied s ((run.base + i) * 4096 + k * 64) (pairedBlock dir run target i * 4096 + k * 64) := by
  unfold State.moverBurst
  rw [mover, Lease.sourceBlock_eq hrun, Lease.targetBlock_eq hdir hrun htarget]
  exact State.copied_copyBurst h _ _ _

/-- The choice looks at the records, the pool and the engine, and not at the step that ends (R42). -/
theorem State.chooseStep_engine_congr {s t : State} (leases : t.leases = s.leases) (pool : t.pool = s.pool)
    (engine : t.engine.goIdle = s.engine.goIdle) : t.chooseStep.engine = s.chooseStep.engine := by
  rw [State.chooseStep_congr leases pool engine]
  rfl

theorem State.chooseStep_eq (s : State) : s.chooseStep = { s with engine := s.chooseStep.engine } := by
  obtain ⟨e, he⟩ := s.chooseStep_frame
  rw [he]

/-- A burst of the mover changes SRAM and nothing else (R116). -/
theorem State.moverBurst_frame (s : State) (r : RecordNo) : ∃ mem, s.moverBurst r = { s with sram := mem } := ⟨_, rfl⟩

/-- Settles O36: the two ways in which a copy burst ends within a move, and the burst of an abandoned one. -/
theorem moverCopiesPairedBlocks : Obligations.MoverCopiesPairedBlocks := by
  refine ⟨fun s r run target dir i k pair law hw hrun htarget hdir hpair step mover => ?_,
    fun s src tgt k law hw step => ?_⟩
  · subst hpair
    have record : s.engine.mover.record = some r := by rw [mover]
    have bursts : s.engine.mover.burstsDone = k := by rw [mover]
    have blocks : s.engine.mover.blocksCopied = i := by rw [mover]
    obtain ⟨mem, hmem⟩ := s.moverBurst_frame r
    have copied := State.copied_moverBurst law hrun htarget hdir mover
    refine ⟨fun more => ?_, fun last more => ?_⟩
    · refine ⟨_, (State.BurstEnds.copy step record (by omega)).exec_free hw,
        copied.of_sram (State.setEngine_sram _ _), ?_⟩
      rw [hmem, Engine.countCopyBurst, mover]
      rfl
    · subst last
      refine ⟨_, (State.BurstEnds.copyBlock step record bursts
        (by rw [blocks, Lease.length_eq hrun]; exact more)).exec_free hw,
        copied.of_sram ((State.chooseStep_sram _).trans (State.setEngine_sram _ _)), ?_, ?_⟩
      · rw [hmem, State.chooseStep_sram]
        exact State.chooseStep_eq _
      · rw [hmem, Engine.countCopyBlock, mover]
        exact State.chooseStep_engine_congr rfl rfl rfl
  · refine ⟨_, (State.BurstEnds.cutCopy step).exec_free hw,
      (State.copied_copyBurst law src tgt k).of_sram (State.chooseStep_sram _), ?_⟩
    obtain ⟨mem, hmem⟩ : ∃ mem, s.copyBurst src tgt k = { s with sram := mem } := ⟨_, rfl⟩
    rw [hmem, State.chooseStep_sram]
    exact State.chooseStep_congr rfl rfl rfl

/-- What the completion of a move of a lease that one master holds changes (R34, R120, R127). -/
theorem State.completeMove_eq {s : State} {r : RecordNo} {holder owner : Master} {run target : Run}
    (hrun : (s.lease r).run = some run) (htarget : (s.lease r).target = some target)
    (alone : (s.lease r).holders = MasterSet.single holder) (howner : (s.lease r).owner = some owner) :
    s.completeMove r = { s with
      leases := s.leases.set r ((s.lease r).onTarget target)
      pool := { s.pool with
        map := (s.pool.map.setRun target.base target.len (.run r)).setRun run.base run.len .scrub
        scrubCount := s.pool.scrubCount + run.len }
      sessions := s.sessions.set owner { s.session owner with
        ownedBlocks := (s.session owner).ownedBlocks + (target.len - run.len) }
      mailboxes := s.mailboxes.set holder { s.mailbox holder with
        moveRecord := { handle := s.handle r, result := some .done, reason := .none, length := target.len }
        events := (s.mailbox holder).events ||| 0x04#8 }
      engine := s.engine.endMove } := by
  have hlength : (s.lease r).length = run.len := Lease.length_eq hrun
  have htlength : (s.lease r).targetLength = target.len := by unfold Lease.targetLength; rw [htarget]
  unfold State.completeMove State.forMasters State.swapRuns
  rw [htarget, alone, MasterSet.members_single, howner, hlength, htlength, hrun]
  rfl

/-- Settles O37: the last copy burst, the changes of the completion and the engine's choice. -/
theorem completionPutsTheLeaseOnItsNewRun : Obligations.CompletionPutsTheLeaseOnItsNewRun := by
  intro s r holder owner run target hw step record bursts blocks hrun htarget alone howner
  have ends := State.BurstEnds.complete step record bursts (by rw [Lease.length_eq hrun, blocks])
  obtain ⟨mem, hmem⟩ := s.moverBurst_frame r
  rw [hmem, State.completeMove_eq (s := { s with sram := mem }) hrun htarget alone howner] at ends
  refine ⟨_, ends.exec_free hw, ?_, ?_, ?_, ?_, ?_, ?_⟩
  · exact State.chooseStep_leases _
  · exact State.chooseStep_pool _
  · exact State.chooseStep_sessions _
  · exact State.chooseStep_mailboxes _
  · exact State.chooseStep_engine_congr (State.chooseStep_leases _).symm (State.chooseStep_pool _).symm rfl
  · rw [State.chooseStep_leases, State.chooseStep_pool, State.chooseStep_sessions, State.chooseStep_mailboxes,
      State.chooseStep_sram]
    exact State.chooseStep_eq _

end Sys2Proof.Machine
end

section
/-! ### RESIZE (R106 to R113) -/

namespace Sys2Proof.Machine

/-! #### The quota of the owner (R60, R110) -/

/-- A renewal touches no session but its own. -/
theorem State.renewed_session_other (s : State) {m m' : Master} (h : m' ≠ m) :
    (s.renewed m).session m' = s.session m' :=
  (Table.get_set _ _ _ _).trans (if_neg h.symm)

/-- A renewal changes no owned count (R50). -/
theorem State.renewed_ownedBlocks (s : State) (m m' : Master) :
    ((s.renewed m).session m').ownedBlocks = (s.session m').ownedBlocks := by
  by_cases h : m' = m
  · rw [h, s.renewed_session_self]
    rfl
  · rw [s.renewed_session_other h]

theorem State.renewed_ownedLeases (s : State) (m m' : Master) :
    ((s.renewed m).session m').ownedLeases = (s.session m').ownedLeases := by
  by_cases h : m' = m
  · rw [h, s.renewed_session_self]
    rfl
  · rw [s.renewed_session_other h]

theorem State.ownerQuotaRefuses_renewed (s : State) (m owner : Master) (more : Nat) :
    (s.renewed m).ownerQuotaRefuses (some owner) more =
      decide ((s.policy owner).blockQuota < s.committedBlocks owner + more) := by
  have hcommitted : (s.renewed m).committedBlocks owner = s.committedBlocks owner :=
    congrArg (· + _) (s.renewed_ownedBlocks m owner)
  show decide (_ < (s.renewed m).committedBlocks owner + more) = _
  rw [hcommitted]
  rfl

/-! #### Growth in place (R31) -/

/-- The blocks a growth to `len` adds beyond the growth end of a run start at `base`. -/
def AddedAt (dir : Direction) (run : Run) (len base : Nat) : Prop :=
  match dir with
  | .up => base = run.base + run.len
  | .down => base + (len - run.len) = run.base

section growth

variable {s : State} {dir : Direction} {run : Run} {len : Nat} (hlt : run.len < len)
include hlt

theorem State.growthInPlace_of_fits {base : Nat} (hadd : AddedAt dir run len base) (hfits : s.Fits base (len - run.len)) :
    s.pool.growthInPlace dir run len = some ({ base := base, len := len - run.len },
      { base := if dir = .up then run.base else base, len := len }) := by
  have hfree := (State.fits_iff (by omega)).1 hfits
  cases dir with
  | up =>
    obtain rfl : base = run.base + run.len := hadd
    exact if_pos hfree
  | down =>
    have hbase : base + (len - run.len) = run.base := hadd
    obtain rfl : base = run.base - (len - run.len) := by omega
    exact if_pos ⟨by omega, hfree⟩

theorem State.growthInPlace_eq_none (h : ∀ b, AddedAt dir run len b → ¬ s.Fits b (len - run.len)) :
    s.pool.growthInPlace dir run len = none := by
  have hlen : 1 ≤ len - run.len := by omega
  cases dir with
  | up => exact if_neg fun hfree => h _ rfl ((State.fits_iff hlen).2 hfree)
  | down =>
    exact if_neg fun ⟨hle, hfree⟩ => h _ (Nat.sub_add_cancel hle) ((State.fits_iff hlen).2 hfree)

end growth

/-! #### The checks, in their order -/

section checks

variable {s : State} {m : Master} {r : RecordNo}

theorem resizeBody_notHolder (hheld : (s.lease r).heldExclusiveBy m = false) :
    resizeBody s m r = (s, { code := .notHolder }) := if_pos hheld

variable (hheld : (s.lease r).heldExclusiveBy m = true)
include hheld

theorem resizeBody_moving (hmoving : (s.lease r).state = .moving) :
    resizeBody s m r = (s, { code := .busy, word0 := handleWord (s.handle r) }) := by
  simp only [resizeBody, hheld, hmoving, Bool.true_eq_false, if_false, if_true]

variable (hstill : (s.lease r).state ≠ .moving)
include hstill

theorem resizeBody_badArg (hlen : legalLength (s.mailbox m).lengthField = false) :
    resizeBody s m r = (s, { code := .badArg }) := by
  simp only [resizeBody, hheld, hstill, hlen, Bool.true_eq_false, if_false, if_true]

variable (hlen : legalLength (s.mailbox m).lengthField = true) {run : Run} {dir : Direction}
  (hrun : (s.lease r).run = some run) (hdir : (s.lease r).direction = some dir)
include hlen hrun hdir

theorem resizeBody_same (h : (s.mailbox m).lengthField = run.len) :
    resizeBody s m r = (s, { code := .ok, word0 := numberWord (s.mailbox m).lengthField }) := by
  simp only [resizeBody, hheld, hstill, hlen, hrun, hdir, Bool.true_eq_false, if_false]
  exact if_pos h

theorem resizeBody_shrink (h : (s.mailbox m).lengthField < run.len) :
    resizeBody s m r = ((s.shrinkLease r dir run (s.mailbox m).lengthField).wakeEngine,
      { code := .ok, word0 := numberWord (s.mailbox m).lengthField }) := by
  simp only [resizeBody, hheld, hstill, hlen, hrun, hdir, h, h.ne, Bool.true_eq_false, if_false, if_true]

theorem resizeBody_grow (h : run.len < (s.mailbox m).lengthField) :
    resizeBody s m r = growBody s r dir run (s.mailbox m).lengthField := by
  simp only [resizeBody, hheld, hstill, hlen, hrun, hdir, h.ne', h.not_gt, Bool.true_eq_false, if_false]

end checks

section growBody

variable {s : State} {r : RecordNo} {dir : Direction} {run : Run} {len : Nat}

theorem growBody_quota (hq : s.ownerQuotaRefuses (s.lease r).owner (len - run.len) = true) :
    growBody s r dir run len = (s, { code := .quota, word1 := numberWord 2 }) := if_pos hq

variable (hq : s.ownerQuotaRefuses (s.lease r).owner (len - run.len) = false)
include hq

theorem growBody_inPlace {added grown : Run} (h : s.pool.growthInPlace dir run len = some (added, grown)) :
    growBody s r dir run len = (s.growLease r added grown, { code := .ok, word0 := numberWord len }) := by
  simp only [growBody, hq, h, Bool.false_eq_true, if_false]

variable (hplace : s.pool.growthInPlace dir run len = none)
include hplace

theorem growBody_busy {other : RecordNo} (h : s.movingRecord = some other) :
    growBody s r dir run len = (s, { code := .busy, word0 := handleWord (s.handle other) }) := by
  simp only [growBody, hq, hplace, growByMove, h, Bool.false_eq_true, if_false]

theorem growBody_noSpace (h : s.movingRecord = none) (hrun : s.pool.findRun dir len = none) :
    growBody s r dir run len = (s, { code := .noSpace, word1 := numberWord s.pool.scrubCount }) := by
  simp only [growBody, hq, hplace, growByMove, h, hrun, Bool.false_eq_true, if_false]

theorem growBody_move {target : Run} (h : s.movingRecord = none) (hrun : s.pool.findRun dir len = some target) :
    growBody s r dir run len = ((s.startMove r target).wakeEngine,
      { code := .started, word0 := numberWord run.len, word1 := numberWord len }) := by
  simp only [growBody, hq, hplace, growByMove, h, hrun, Bool.false_eq_true, if_false]

end growBody

/-! #### The card with the lease resized -/

section changes

variable (s : State) {r : RecordNo} {owner : Master} (howner : (s.lease r).owner = some owner)
include howner

/-- What a shrink changes (R33, R109). -/
theorem State.shrinkLease_eq (dir : Direction) (run : Run) (len : Nat) : s.shrinkLease r dir run len =
    { s with
      leases := s.leases.set r { s.lease r with
        run := some { base := (if dir = .up then run.base else run.base + (run.len - len)), len := len } }
      sessions := s.sessions.set owner { s.session owner with
        ownedBlocks := (s.session owner).ownedBlocks - (run.len - len) }
      pool := { s.pool with
        map := s.pool.map.setRun (if dir = .up then run.base + len else run.base) (run.len - len) .scrub
        scrubCount := s.pool.scrubCount + (run.len - len) } } := by
  unfold State.shrinkLease
  rw [howner]
  cases dir <;> rfl

/-- What a growth in place changes (R31, R111). -/
theorem State.growLease_eq (added grown : Run) : s.growLease r added grown =
    { s with
      leases := s.leases.set r { s.lease r with run := some grown }
      sessions := s.sessions.set owner { s.session owner with
        ownedBlocks := (s.session owner).ownedBlocks + added.len }
      pool := s.pool.allocate added (.run r)
      supervisor :=
        if s.pool.watermark ≤ s.pool.freeCount ∧ s.pool.freeCount - added.len < s.pool.watermark then
          { s.supervisor with flags := s.supervisor.flags ||| 0x02#6 }
        else s.supervisor } := by
  unfold State.growLease
  rw [howner, State.allocate_eq]
  rfl

end changes

/-- What the start of a move changes (R32, R113, R114). -/
theorem State.startMove_eq (s : State) (r : RecordNo) (target : Run) : s.startMove r target =
    { s with
      leases := s.leases.set r { s.lease r with state := .moving, target := some target }
      pool := s.pool.allocate target (.target r)
      engine := s.engine.takeMove r
      supervisor :=
        if s.pool.watermark ≤ s.pool.freeCount ∧ s.pool.freeCount - target.len < s.pool.watermark then
          { s.supervisor with flags := s.supervisor.flags ||| 0x02#6 }
        else s.supervisor } := by
  unfold State.startMove
  rw [State.allocate_eq]
  rfl

/-! #### The refusals, and the growth in place -/

/-- A hold in EXCLUSIVE, as the checks of RESIZE see it on the renewed card. -/
theorem State.renewed_heldExclusive {s : State} {m : Master} {r : RecordNo} (hm : (s.lease r).holders.mem m = true)
    (he : (s.lease r).mode = some .exclusive) : ((s.renewed m).lease r).heldExclusiveBy m = true :=
  (Lease.heldExclusiveBy_iff ..).2 ⟨hm, he⟩

theorem legalLength_eq_false {len : Nat} (h : len = 0 ∨ 256 < len) : legalLength len = false :=
  Bool.eq_false_iff.2 fun c => by
    obtain ⟨h1, h256⟩ := (legalLength_iff _).1 c
    omega

/-- A growth to no more than 256 blocks is to a legal length (R107). -/
theorem legalLength_of_grows {run : Run} {len : Nat} (hlt : run.len < len) (hle : len ≤ 256) : legalLength len = true :=
  (legalLength_iff _).2 ⟨by omega, hle⟩

theorem State.movingRecord_eq_none {s : State} (h : ∀ r, (s.lease r).state ≠ .moving) : s.movingRecord = none :=
  find?_allRecords_eq_none fun r => beq_eq_false_iff_ne.2 (h r)

/-- Settles O23: each check fails with its own answer once those before it have passed. -/
theorem resizeChecksInOrder : Obligations.ResizeChecksInOrder := by
  rintro s m owner r dir run _ htakes rfl hrun hdir howner
  refine ⟨fun hnot => ?_, fun hm he => ⟨fun hmoving => ?_, fun hstill => ⟨fun hbad => ?_, fun hle hlt => ?_⟩⟩⟩
  · have hheld : ((s.renewed m).lease r).heldExclusiveBy m = false :=
      Bool.eq_false_iff.2 fun c => hnot ((Lease.heldExclusiveBy_iff ..).1 c)
    exact takeRequest_answersOn htakes (resizeBody_notHolder hheld)
  · have hbody := resizeBody_moving (State.renewed_heldExclusive hm he) hmoving
    rw [s.renewed_handle, htakes.names.handle] at hbody
    exact takeRequest_answersOn htakes hbody
  · exact takeRequest_answersOn htakes
      (resizeBody_badArg (State.renewed_heldExclusive hm he) hstill (legalLength_eq_false hbad))
  have hgrow := resizeBody_grow (State.renewed_heldExclusive hm he) hstill (legalLength_of_grows hlt hle) hrun hdir hlt
  have hquota := s.ownerQuotaRefuses_renewed m owner ((s.mailbox m).lengthField - run.len)
  rw [← howner] at hquota
  refine ⟨fun hover => ?_, fun hwithin hplace => ?_⟩
  · exact takeRequest_answersOn htakes (hgrow.trans (growBody_quota (hquota.trans (decide_eq_true hover))))
  have hallowed := hquota.trans (decide_eq_false (Nat.not_lt.2 hwithin))
  have hnone : (s.renewed m).pool.growthInPlace dir run (s.mailbox m).lengthField = none :=
    State.growthInPlace_eq_none hlt fun b hadd => by
      cases dir with
      | up => exact hadd ▸ hplace
      | down => exact hplace b hadd
  refine ⟨fun other hmoving law => ?_, fun hmovers hfits => ?_⟩
  · exact takeRequest_answersOn htakes (hgrow.trans (growBody_busy hallowed hnone (law.movingRecord hmoving)))
  · have hidle : (s.renewed m).movingRecord = none := State.movingRecord_eq_none hmovers
    exact takeRequest_answersOn htakes (hgrow.trans (growBody_noSpace hallowed hnone hidle
      (State.findRun_eq_none (show 1 ≤ (s.mailbox m).lengthField from Nat.one_le_of_lt hlt) hfits dir)))

/-- Settles O21: the added blocks are given to the lease at its growth end. -/
theorem resizeGrowsInPlace : Obligations.ResizeGrowsInPlace := by
  rintro s m owner r dir run _ base htakes hm he hstill rfl hle hrun hdir howner hlt hwithin hbase hfits
  have hadd : AddedAt dir run (s.mailbox m).lengthField base := by cases dir <;> exact hbase
  have hallowed := (s.ownerQuotaRefuses_renewed m owner _).trans (decide_eq_false (Nat.not_lt.2 hwithin))
  rw [← howner] at hallowed
  have hbody := (resizeBody_grow (State.renewed_heldExclusive hm he) hstill (legalLength_of_grows hlt hle) hrun hdir
    hlt).trans (growBody_inPlace hallowed (State.growthInPlace_of_fits hlt hadd hfits))
  rw [(s.renewed m).growLease_eq howner, s.renewed_ownedBlocks] at hbody
  exact takeRequest_answersOn htakes hbody

/-! #### The engine that a RESIZE wakes (R42) -/

/-- A RESIZE that gives a client of the engine work ends with the engine woken and its answer. -/
theorem takeResize_concludes {s u : State} {m : Master} {r : RecordNo} {a : Answer} (h : s.TakesOn m .resize r)
    (hb : resizeBody (s.renewed m) m r = (u.wakeEngine, a)) :
    ∃ t, exec .takeResize s = .next t ∧ t.Concludes u m a ∧ t.engine = u.wakeEngine.engine ∧ t.sram = u.sram ∧
      t.supervisor = u.supervisor := by
  refine ⟨u.wakeEngine.answer m a, ?_, u.wakeEngine_concludes m a, rfl, u.wakeEngine_sram, u.wakeEngine_supervisor⟩
  refine (takeRequest_takesOn h resizeBody).trans ?_
  rw [hb]

/-- A woken engine takes up the scrubber's work when nothing is on the move. -/
theorem State.scrubWork_of_wakes {s u t : State} (hwoken : t.engine = u.wakeEngine.engine) (hpool : t.pool = u.pool)
    (hengine : u.engine = s.engine) : ScrubWork s t := by
  refine ⟨fun hbusy => ?_, fun hidle hmover b hb hlow hcount => ?_⟩
  · rw [hwoken, State.wakeEngine_busy (hengine ▸ hbusy), hengine]
  · unfold State.block at hb hlow
    rw [hpool] at hb hlow hcount
    have hwork : ¬ u.MoverHasWork := by
      rintro ⟨r, hr, -⟩
      rw [hengine, hmover] at hr
      cases hr
    rw [hwoken]
    unfold State.wakeEngine
    rw [if_pos (hengine ▸ hidle), State.chooseStep_scrub hcount (.inl hwork) ⟨hb, hlow⟩, hengine]
    rfl

/-- The scrubber's turn: it has work, and the mover had the last block step (R42). -/
theorem State.chooseStep_scrubTurn {s : State} (hcount : 0 < s.pool.scrubCount) (hlast : s.engine.last = .mover) :
    s.chooseStep = s.startScrubStep := by
  have hwork := s.scrubberHasWork_iff.2 hcount
  unfold State.chooseStep
  rw [if_neg (by rw [hwork, hlast]; simp), if_pos hwork]

/-- The engine of a card whose mover takes up a move, once it is woken: an idle engine with no block to scrub starts
the first block step of the move, and one with blocks to scrub takes its turns (R42, R114). -/
theorem State.wakeEngine_takeMove {u t : State} {r : RecordNo} {e : Engine} (hwoken : t.engine = u.wakeEngine.engine)
    (hengine : u.engine = e.takeMove r) (hlen : 0 < (u.lease r).length) :
    t.engine.mover = { record := some r, blocksCopied := 0, burstsDone := 0 } ∧
      (e.step ≠ none → t.engine.step = e.step ∧ t.engine.last = e.last) ∧
      (e.step = none → u.pool.scrubCount = 0 → t.engine.step = some .copy ∧ t.engine.last = .mover) ∧
      t.engine.scrubber.block = (if e.step = none ∧ 0 < u.pool.scrubCount ∧ e.last = .mover then
        u.pool.lowestScrub.or e.scrubber.block else e.scrubber.block) := by
  have hwork : u.MoverHasWork := ⟨r, by rw [hengine]; rfl, by rw [hengine]; exact hlen⟩
  have hstep : u.engine.step = e.step := by rw [hengine]; rfl
  have hlast : u.engine.last = e.last := by rw [hengine]; rfl
  by_cases hidle : e.step = none
  · have hchooses : u.wakeEngine = u.chooseStep := if_pos (hstep.trans hidle)
    rw [hwoken, hchooses]
    by_cases hturn : 0 < u.pool.scrubCount ∧ e.last = .mover
    · obtain ⟨hcount, hmover⟩ := hturn
      rw [if_pos ⟨hidle, hcount, hmover⟩, State.chooseStep_scrubTurn hcount (hlast.trans hmover)]
      unfold State.startScrubStep
      rw [hengine]
      refine ⟨?_, fun h => absurd hidle h, fun _ h => absurd h hcount.ne', ?_⟩ <;>
        cases u.pool.lowestScrub <;> rfl
    · have hcopy : u.chooseStep = u.setEngine u.engine.startCopy := State.chooseStep_copy hwork (by
        rw [hlast]
        cases h : e.last with
        | scrubber => exact .inr rfl
        | mover => exact .inl (by by_contra hc; exact hturn ⟨Nat.pos_of_ne_zero hc, h⟩))
      rw [if_neg fun h => hturn h.2, hcopy, hengine]
      exact ⟨rfl, fun h => absurd hidle h, fun _ _ => ⟨rfl, rfl⟩, rfl⟩
  · rw [hwoken, State.wakeEngine_busy (hstep ▸ hidle), if_neg fun h => hidle h.1, hengine]
    exact ⟨rfl, fun _ => ⟨rfl, rfl⟩, fun h => absurd h hidle, rfl⟩

/-- Settles O20: the present length is answered as it is, and a shorter one sends the growth end to SCRUB. -/
theorem resizeKeepsOrShrinks : Obligations.ResizeKeepsOrShrinks := by
  rintro s m owner r dir run _ htakes hm he hstill rfl h1 h256 hrun hdir howner
  have hheld := State.renewed_heldExclusive hm he
  have hlegal : legalLength ((s.renewed m).mailbox m).lengthField = true := (legalLength_iff _).2 ⟨h1, h256⟩
  refine ⟨fun hsame => ?_, fun hlt => ?_⟩
  · exact takeRequest_answersOn htakes (resizeBody_same hheld hstill hlegal hrun hdir hsame)
  · have hbody := resizeBody_shrink hheld hstill hlegal hrun hdir hlt
    rw [(s.renewed m).shrinkLease_eq howner, s.renewed_ownedBlocks] at hbody
    obtain ⟨t, ht, hends, hengine, hsram, hsupervisor⟩ := takeResize_concludes htakes hbody
    have hsession : ∀ m', t.session m' = _ := fun m' =>
      (congrArg (fun x => x.get m') hends.sessions).trans (Table.get_set _ _ m' _)
    refine ⟨t, ht, State.scrubWork_of_wakes hengine hends.pool rfl, hends.leases, hends.pool, ?_, ?_,
      fun m' hm' ho => ?_, hends.answered, hends.others, hends.queue, hends.apertures, hsram, hsupervisor⟩
    · rw [hsession, if_pos rfl]
      rfl
    · rw [hsession, if_pos rfl]
      exact s.renewed_ownedLeases m owner
    · rw [hsession, if_neg (Ne.symm ho)]
      exact s.renewed_session_other hm'

/-- Settles O22: the target run is marked, the mover takes the move and the engine is woken. -/
theorem resizeStartsAMove : Obligations.ResizeStartsAMove := by
  rintro s m owner r dir run _ base htakes hm he hmovers rfl hle hrun hdir howner h1 hlt hwithin hplace hchosen
  have hallowed := (s.ownerQuotaRefuses_renewed m owner _).trans (decide_eq_false (Nat.not_lt.2 hwithin))
  rw [← howner] at hallowed
  have hnone : (s.renewed m).pool.growthInPlace dir run (s.mailbox m).lengthField = none :=
    State.growthInPlace_eq_none hlt fun b hadd => by
      cases dir with
      | up => exact hadd ▸ hplace
      | down => exact hplace b hadd
  have hidle : (s.renewed m).movingRecord = none := State.movingRecord_eq_none hmovers
  have htarget : (s.renewed m).pool.findRun dir (s.mailbox m).lengthField = _ :=
    hchosen.findRun (show 1 ≤ (s.mailbox m).lengthField from Nat.one_le_of_lt hlt)
  have hbody := (resizeBody_grow (State.renewed_heldExclusive hm he) (hmovers r) (legalLength_of_grows hlt hle) hrun
    hdir hlt).trans (growBody_move hallowed hnone hidle htarget)
  rw [(s.renewed m).startMove_eq] at hbody
  obtain ⟨t, ht, hends, hengine, hsram, hsupervisor⟩ := takeResize_concludes htakes hbody
  have hlength : 0 < (t.lease r).length := by
    have hlease : t.lease r = _ := (congrArg (fun x => x.get r) hends.leases).trans (Table.get_set_self _ _ _)
    have hkept : (t.lease r).run = some run := (congrArg Lease.run hlease).trans hrun
    rw [Lease.length_eq hkept]
    exact h1
  rw [hends.lease] at hlength
  obtain ⟨hmover, hbusy, hcopy, hblock⟩ := State.wakeEngine_takeMove (e := s.engine) hengine rfl hlength
  have hcount : t.pool.scrubCount = s.pool.scrubCount := by rw [hends.pool]; rfl
  rw [← hends.pool, hcount] at hblock
  exact ⟨t, ht, hends.leases, hends.pool, hsupervisor, hmover, hbusy, hcopy, hblock, hends.answered, hends.others,
    hends.sessions, hends.queue, hends.apertures, hsram⟩

end Sys2Proof.Machine
end

section
/-! ### RELEASE of a MOVING lease (R123) -/

namespace Sys2Proof.Machine

/-! #### The stages of RELEASE, as far as records, moves and apertures see them -/

theorem State.Winds.cancelUpgrade (s : State) {R : RecordNo → Prop} {r : RecordNo} (hr : R r) (m : Master) :
    (s.cancelUpgrade m (s.handle r)).Winds s R := by
  have hne := State.Winds.handle_ne_of_touched (s := s) hr rfl
  unfold State.cancelUpgrade
  split
  · next e he =>
    have hmaster : e.master = m := by simpa using List.find?_some he
    split
    · next hupgrade =>
      have hdrop : (s.setQueue (dropFromQueue s.queue m (s.handle r))).Winds s R :=
        (State.Winds.refl s R).setQueue (dropFromQueue_sublist _ _ _) fun r' hr' => filter_dropFromQueue (hne r' hr') _ _
      rw [← hmaster] at hdrop ⊢
      exact hdrop.endWait (List.mem_of_find?_eq_some he) (hupgrade.1 ▸ hne) _
    · exact State.Winds.refl s R
  · exact State.Winds.refl s R

theorem State.Winds.releaseApertures {s t : State} {R : RecordNo → Prop} (h : t.Winds s R) (m : Master) (x : Handle) :
    (t.releaseApertures m x).Winds s R := by
  refine h.setApertures fun m' a ha => ?_
  refine (t.releaseApertures_aperture m x m' a).trans ?_
  rw [ha]
  split <;> rfl

theorem State.Rests.cancelUpgrade (s : State) (m : Master) (x : Handle) : (s.cancelUpgrade m x).Rests s := by
  unfold State.cancelUpgrade
  split
  · split
    · exact (State.Rests.endWait _ m _).trans (.of_eq rfl rfl)
    · exact .refl s
  · exact .refl s

/-- The stages before the grant pass, of a lease that is not on a move, touch its record alone (R89). -/
theorem State.Winds.releaseUpToPass {s : State} {R : RecordNo → Prop} {r : RecordNo} (hr : R r)
    (still : (s.lease r).state ≠ .moving) (m : Master) : (s.releaseUpToPass m r).Winds s R := by
  have hmove : s.releaseMove r = s := if_neg still
  unfold State.releaseUpToPass
  rw [hmove]
  exact (State.Winds.removeHolder _ hr m).trans ((State.Winds.cancelUpgrade s hr m).releaseApertures m _)

theorem State.Rests.releaseUpToPass {s : State} {r : RecordNo} (still : (s.lease r).state ≠ .moving) (m : Master) :
    (s.releaseUpToPass m r).Rests s := by
  have hmove : s.releaseMove r = s := if_neg still
  unfold State.releaseUpToPass
  rw [hmove]
  exact .trans (t := s.cancelUpgrade m (s.handle r)) (.of_eq rfl rfl) (.cancelUpgrade s m _)

theorem State.releaseAllApertures_aperture (s : State) (x : Handle) (m : Master) (a : ApertureNo) :
    (s.releaseAllApertures x).aperture m a = if s.aperture m a = .bound x then .unbound else s.aperture m a := by
  rw [← Aperture.release_eq]
  unfold State.aperture State.releaseAllApertures
  rw [State.setApertures_apertures, Table.get_map, Table.get_map]

/-- Retirement of an empty lease makes the apertures bound to it UNBOUND (R21). -/
theorem State.retire_emptied_apertures {s : State} {r : RecordNo} (still : (s.lease r).state ≠ .moving) :
    (s.retire r .emptied).apertures = (s.releaseAllApertures (s.handle r)).apertures := by
  have hmove : s.retireMove r = s := if_neg still
  unfold State.retire
  rw [hmove]
  obtain ⟨q, b, hwaits⟩ := s.withdrawWaiters_frame (s.handle r)
  obtain ⟨l, x, p, hfree⟩ := ((s.withdrawWaiters (s.handle r)).retireApertures r .emptied).freeRecord_frame r
  rw [hfree, hwaits]
  rfl

/-- A lease that goes the way of its fate leaves no aperture but those bound to it changed (R17, R21). -/
theorem State.settle_aperture (s : State) {r : RecordNo} {m : Master} {a : ApertureNo}
    (h : s.aperture m a ≠ .bound (s.handle r)) : (s.settle r).aperture m a = s.aperture m a := by
  rcases s.settle_cases r with ⟨e, -⟩ | ⟨held, -, e | e⟩
  · rw [e]
  · rw [e]; rfl
  · have hretired := State.retire_emptied_apertures (s := s) (r := r) (by rw [held]; decide)
    refine Eq.trans ?_ ((s.releaseAllApertures_aperture (s.handle r) m a).trans (if_neg h))
    unfold State.aperture
    rw [e, hretired]

/-! #### The card once the move is abandoned -/

/-- The card `u` of a RELEASE that has abandoned the move of a lease held alone: the lease is HELD on its old run and its
target run is in SCRUB (R122, R123). -/
structure State.MoveLeft (u s : State) (m : Master) (r : RecordNo) (target : Run) : Prop where
  lease : u.lease r = { s.lease r with state := .held, target := none }
  elsewhere : ∀ r', r' ≠ r → u.lease r' = s.lease r'
  queue : u.queue = s.queue
  sessions : u.sessions = (s.renewed m).sessions
  apertures : u.apertures = s.apertures
  pool : u.pool = s.pool.toScrub target
  others : u.OtherMailboxes s m
  abandoned : u.MoveAbandoned s m r .released

theorem State.abandonMove_moveLeft {s : State} {m : Master} {r : RecordNo} {target : Run}
    (alone : (s.lease r).holders = MasterSet.single m) (htarget : (s.lease r).target = some target) :
    ((s.renewed m).abandonMove r .released).MoveLeft s m r target := by
  have hlease := (s.renewed m).abandonMove_lease r
  have heq : (s.renewed m).abandonMove r .released =
      ((((s.renewed m).setPool (s.pool.toScrub target)).setLease r
        { s.lease r with state := .held, target := none }).setEngine (s.engine.giveUpMove (s.lease r))).endMove m
          { handle := s.handle r, result := some .abandoned, reason := .released, length := (s.lease r).length } := by
    unfold State.abandonMove State.forMasters
    rw [s.renewed_lease, alone, MasterSet.members_single, htarget]
    rfl
  refine ⟨(hlease r .released).trans (if_pos rfl), fun r' hr' => (hlease r' .released).trans (if_neg hr'.symm),
    State.abandonMove_queue _ r _, State.abandonMove_sessions _ r _, State.abandonMove_apertures _ r _, ?_,
    fun m' hm' => ?_, (State.abandonMove_abandoned (u := s.renewed m) .released alone).earlier rfl rfl⟩
  · rw [heq]
    rfl
  · rw [heq]
    exact (State.mailbox_setMailbox _ m m' _).trans (if_neg hm'.symm)

/-- A RELEASE of a MOVING lease goes on as one of the lease with its move abandoned (R123). -/
theorem releaseBody_moving {s : State} {m : Master} {r : RecordNo} (moving : (s.lease r).state = .moving)
    (hm : (s.lease r).holders.mem m = true) :
    releaseBody s m r = releaseBody (s.abandonMove r .released) m r := by
  obtain ⟨u, hu⟩ : ∃ u, u = s.abandonMove r .released := ⟨_, rfl⟩
  have hlease : u.lease r = { s.lease r with state := .held, target := none } := by
    rw [hu, State.abandonMove_lease, if_pos rfl]
  have hhandle : u.handle r = s.handle r := State.handle_eq_of_generation (by rw [hlease])
  have hmove : s.releaseMove r = u := (if_pos moving).trans hu.symm
  have hstill : u.releaseMove r = u := if_neg (by rw [hlease]; exact fun c => nomatch c)
  have hleft : s.releaseUpToPass m r = u.releaseUpToPass m r := by
    unfold State.releaseUpToPass
    rw [hmove, hstill, hhandle]
  rw [← hu, releaseBody_holder hm, releaseBody_holder (s := u) (by rw [hlease]; exact hm), hleft]

namespace State.MoveLeft

variable {u s : State} {m : Master} {r : RecordNo} {target : Run} (h : u.MoveLeft s m r target)
include h

theorem held : (u.lease r).state = .held := by rw [h.lease]

theorem handle : u.handle r = s.handle r := State.handle_eq_of_generation (by rw [h.lease])

theorem aperture (m' : Master) (a : ApertureNo) : u.aperture m' a = s.aperture m' a := by
  unfold State.aperture
  rw [h.apertures]

theorem noWaiters (hfree : s.NoWaiters (s.handle r)) : u.NoWaiters (u.handle r) := by
  rw [h.handle]
  unfold State.NoWaiters
  rw [h.queue]
  exact hfree

theorem emptied (moving : (s.lease r).state = .moving) : (u.lease r).emptied = (s.lease r).emptied := by
  rw [h.lease, Lease.emptied_held rfl]
  unfold Lease.emptied
  rw [Lease.unmoved_moving moving]

end State.MoveLeft

/-! #### The rest of the RELEASE, on the old run -/

/-- Apertures released for one master and then for all of them are released for all of them. -/
theorem State.releaseBoth_aperture (s : State) (m : Master) (x : Handle) (m' : Master) (a : ApertureNo) :
    ((s.releaseApertures m x).releaseAllApertures x).aperture m' a =
      if s.aperture m' a = .bound x then .unbound else s.aperture m' a := by
  rw [State.releaseAllApertures_aperture, State.releaseApertures_aperture]
  by_cases h : m' = m ∧ s.aperture m' a = .bound x
  · rw [if_pos h, if_pos h.2, ite_self]
  · rw [if_neg h]

theorem releaseBody_concludes {u v : State} {m : Master} {r : RecordNo} {a : Answer}
    (hb : releaseBody u m r = (v.wakeEngine, a)) :
    ((releaseBody u m r).1.answer m (releaseBody u m r).2).Concludes v m a := by
  rw [hb]
  exact v.wakeEngine_concludes m a

namespace State.MoveLeft

variable {u s : State} {m : Master} {r : RecordNo} {target : Run} (h : u.MoveLeft s m r target)
include h

/-- The rest of the RELEASE: the move stays abandoned, no other record changes, and the apertures of the releaser on the
lease become UNBOUND (R89, R123). -/
theorem release_abandoned (hm : (u.lease r).holders.mem m = true) {t : State}
    (ht : t = (releaseBody u m r).1.answer m (releaseBody u m r).2) :
    t.MoveAbandoned s m r .released ∧ (∀ r', r' ≠ r → t.lease r' = s.lease r') ∧
      ∀ a, t.aperture m a = if s.aperture m a = .bound (s.handle r) then .unbound else s.aperture m a := by
  have hstill : (u.lease r).state ≠ .moving := by rw [h.held]; decide
  obtain ⟨left, hleft⟩ : ∃ left, left = u.releaseUpToPass m r := ⟨_, rfl⟩
  have hwinds : left.Winds u (· = r) := hleft ▸ State.Winds.releaseUpToPass (R := (· = r)) rfl hstill m
  have hrests : left.Rests u := hleft ▸ State.Rests.releaseUpToPass hstill m
  have hreleased : ∀ a, left.aperture m a =
      if s.aperture m a = .bound (s.handle r) then .unbound else s.aperture m a := fun a => by
    rw [hleft, State.releaseUpToPass_held h.held, ← h.handle, ← h.aperture]
    exact (u.releaseApertures_aperture m (u.handle r) m a).trans (by simp only [true_and])
  have hbody := releaseBody_holder hm
  rw [← hleft] at hbody
  have hpass : (left.grantPass r).Winds u (· = r) := (State.Winds.grantPass (R := (· = r)) left rfl).trans hwinds
  have hsettle : ((left.grantPass r).settle r).Winds u (· = r) := (State.Winds.settle (R := (· = r)) _ rfl).trans hpass
  have hends := releaseBody_concludes hbody
  rw [ht]
  refine ⟨?_, fun r' hr' => (hends.lease r').trans ((hsettle.lease r' hr').trans (h.elsewhere r' hr')), fun a => ?_⟩
  · rw [hbody]
    exact ((h.abandoned.later hsettle ((State.Rests.settle _ r).trans ((State.Rests.grantPass left r).trans
      hrests))).wakeEngine).later ((State.Winds.refl _ fun _ => True).answer m _) (.answer _ m _)
  · have hgranted : (left.grantPass r).aperture m a = left.aperture m a := by
      unfold State.aperture
      rw [State.grantPass_apertures]
    rw [hends.aperture, State.settle_aperture, hgranted, hreleased]
    rw [hgranted, hreleased, hpass.handle, h.handle]
    split
    · exact fun c => nomatch c
    · next hother => exact hother

/-- With no waiters the queue and the other mailboxes are as they were. -/
theorem quiet {v t : State} {a : Answer} (hends : t.Concludes v m a) (hqueue : v.queue = u.queue)
    (hmailboxes : v.mailboxes = u.mailboxes) : t.queue = s.queue ∧ t.OtherMailboxes s m := by
  refine ⟨hends.queue.trans (hqueue.trans h.queue), fun m' hm' => (hends.others m' hm').trans ?_⟩
  refine Eq.trans ?_ (h.others m' hm')
  unfold State.mailbox
  rw [hmailboxes]

/-- The apertures of the other masters, where RELEASE has released those of the releaser. -/
theorem apertures_other {v t : State} {a : Answer} (hends : t.Concludes v m a)
    (hv : v.apertures = (u.releaseApertures m (u.handle r)).apertures) :
    ∀ m', m' ≠ m → ∀ a, t.aperture m' a = s.aperture m' a := fun m' hm' a => by
  have hreleased : v.aperture m' a = (u.releaseApertures m (u.handle r)).aperture m' a := by
    unfold State.aperture
    rw [hv]
  rw [hends.aperture, hreleased, State.releaseApertures_aperture, if_neg fun c => hm' c.1, h.aperture]

section released

variable {t : State} (ht : t = (releaseBody u m r).1.answer m (releaseBody u m r).2)
  (alone : (s.lease r).holders = MasterSet.single m) (hfree : s.NoWaiters (s.handle r))
include ht alone hfree

/-- A kept lease goes IDLE (R17, R91). -/
theorem release_kept (keep : (s.lease r).keep = true) : (t.queue = s.queue ∧ t.OtherMailboxes s m) ∧
    t.lease r = { s.lease r with state := .idle, mode := none, holders := 0, target := none } ∧
    t.pool = s.pool.toScrub target ∧ t.sessions = (s.renewed m).sessions ∧ (t.mailbox m).Answered .ok 0 1 ∧
    ∀ m', m' ≠ m → ∀ a, t.aperture m' a = s.aperture m' a := by
  have hbody := releaseBody_kept h.held (h.noWaiters hfree) (m := m) (by rw [h.lease]; exact alone)
    (by rw [h.lease]; exact keep)
  have hends := ht ▸ releaseBody_concludes hbody
  refine ⟨h.quiet hends rfl rfl, ?_, hends.pool.trans h.pool, hends.sessions.trans h.sessions, hends.answered,
    h.apertures_other hends rfl⟩
  refine (hends.lease r).trans ((Table.get_set_self _ _ _).trans ?_)
  rw [h.lease]

/-- Any other lease retires (R17, R20, R21, R91). -/
theorem release_retired {run : Run} (keep : (s.lease r).keep = false) (hrun : (s.lease r).run = some run) :
    (t.queue = s.queue ∧ t.OtherMailboxes s m) ∧
    t.lease r = Lease.freed (s.lease r).generation ∧ t.pool = (s.pool.toScrub target).toScrub run ∧
    (∀ owner, (s.lease r).owner = some owner →
      t.sessions = (s.renewed m).sessions.set owner { (s.renewed m).session owner with
        ownedLeases := (s.session owner).ownedLeases - 1
        ownedBlocks := (s.session owner).ownedBlocks - run.len }) ∧
    (t.mailbox m).Answered .ok 0 2 ∧
    ∀ m' a, t.aperture m' a = if s.aperture m' a = .bound (s.handle r) then .unbound else s.aperture m' a := by
  have hrun' : (u.lease r).run = some run := by rw [h.lease]; exact hrun
  have hbody := releaseBody_retired h.held (h.noWaiters hfree) (m := m) (by rw [h.lease]; exact alone)
    (by rw [h.lease]; exact keep) hrun'
  have hends := ht ▸ releaseBody_concludes hbody
  refine ⟨h.quiet hends rfl rfl, ?_, hends.pool.trans (congrArg (·.toScrub run) h.pool), fun owner howner => ?_,
    hends.answered, fun m' a => ?_⟩
  · refine (hends.lease r).trans ((Table.get_set_self _ _ _).trans ?_)
    rw [h.lease]
  · have howner' : (u.lease r).owner = some owner := by rw [h.lease]; exact howner
    refine hends.sessions.trans ?_
    rw [howner', Lease.length_eq hrun', ← s.renewed_ownedLeases m, ← s.renewed_ownedBlocks m]
    exact State.dropOwnedBy_sessions h.sessions _ _ _
  · refine (hends.aperture m' a).trans ?_
    rw [← h.handle, ← h.aperture]
    exact u.releaseBoth_aperture m (u.handle r) m' a

end released

/-- What the grant pass finds where others wait to acquire the lease: an empty lease with their entries (R89, R98). -/
theorem awaited_upToPass (law : s.QueueLaw) (moving : (s.lease r).state = .moving) {e : WaitEntry}
    {rest : List WaitEntry} (awaited : s.AwaitedFrom m r e rest) {left : State} (hleft : left = u.releaseUpToPass m r) :
    left.QueueLaw ∧ left.lease r = (s.lease r).emptied ∧ left.handle r = s.handle r ∧
      left.entriesFor (s.handle r) = e :: rest ∧ left.pool = u.pool ∧ left.sessions = u.sessions ∧
      left.apertures = (u.releaseApertures m (u.handle r)).apertures := by
  have alone : (u.lease r).holders = MasterSet.single m := by rw [h.lease]; exact awaited.alone
  have hentries : u.entriesFor (s.handle r) = e :: rest := by
    unfold State.entriesFor
    rw [h.queue]
    exact awaited.entries
  have hunawaited := hleft.trans (State.releaseUpToPass_unawaited h.held fun x hx => by
    rw [h.handle, hentries] at hx
    exact awaited.others x hx)
  refine ⟨?_, ?_, ?_, ?_, ?_, ?_, ?_⟩
  · rw [hunawaited]
    show (u.queue.map fun x => x.master).Nodup
    rw [h.queue]
    exact law
  · rw [hleft, State.releaseUpToPass_lease_self h.held, Lease.without_of_alone h.held alone, h.emptied moving]
  · rw [hleft, State.releaseUpToPass_handle h.held, h.handle]
  · rw [hunawaited]
    exact hentries
  all_goals rw [hunawaited]

/-- A lease that others wait to acquire passes to them (R98, R99). -/
theorem release_handed (law : s.QueueLaw) (moving : (s.lease r).state = .moving) {e : WaitEntry} {rest : List WaitEntry}
    (awaited : s.AwaitedFrom m r e rest) {t : State} (ht : t = (releaseBody u m r).1.answer m (releaseBody u m r).2) :
    t.HandedOn s r e rest ∧ t.pool = s.pool.toScrub target ∧ t.sessions = (s.renewed m).sessions ∧
      (t.mailbox m).Answered .ok (BitVec.ofNat 32 ((s.lease r).emptied.grants (e :: rest)).length) 0 ∧
      ∀ m', m' ≠ m → ∀ a, t.aperture m' a = s.aperture m' a := by
  obtain ⟨left, hleft⟩ : ∃ left, left = u.releaseUpToPass m r := ⟨_, rfl⟩
  obtain ⟨hlaw, hself, hhandle, hentries, hpool, hsessions, hapertures⟩ := h.awaited_upToPass law moving awaited hleft
  have hheld : (left.lease r).state = .held := by rw [hself]; exact awaited.unmoved_held
  have hpassed := hlaw.grantPass_passed hheld
  rw [hhandle, hentries, hself] at hpassed
  have hgranted : e ∈ (s.lease r).emptied.grants (e :: rest) := Lease.mem_grants_of_empty rest rfl awaited.acquire
  have hstays := MasterSet.ne_zero_of_mem ((hpassed.holders e.master).2 (.inr ⟨e, hgranted, rfl⟩))
  have hbody := releaseBody_stays (s := u) (m := m) (r := r) (by rw [h.lease, awaited.alone]; simp) (hleft ▸ hstays)
  rw [← hleft] at hbody
  have hends := ht ▸ releaseBody_concludes hbody
  refine ⟨hends.passed hpassed fun x hx => ?_, hends.pool.trans ((left.grantPass_pool r).trans (hpool.trans h.pool)),
    hends.sessions.trans ((left.grantPass_sessions r).trans (hsessions.trans h.sessions)), ?_,
    h.apertures_other hends ((left.grantPass_apertures r).trans hapertures)⟩
  · rw [← hentries] at hx
    refine (State.mem_entriesFor.1 hx).2.trans (hhandle.symm.trans (State.handle_eq_of_generation ?_).symm)
    rw [hpassed.lease, hself]
  · have hword := hends.answered
    rw [State.grantable_held hheld, hhandle, hentries, hself] at hword
    exact hword

end State.MoveLeft

/-- Settles O41: the move is abandoned, and the RELEASE of the lease on its old run follows. -/
theorem releaseAbandonsTheMove : Obligations.ReleaseAbandonsTheMove := by
  intro s m r run target htakes law moving alone hrun htarget
  have hm : (s.lease r).holders.mem m = true := by rw [alone]; simp
  obtain ⟨u, hu⟩ : ∃ u, u = (s.renewed m).abandonMove r .released := ⟨_, rfl⟩
  have h : u.MoveLeft s m r target := hu ▸ State.abandonMove_moveLeft alone htarget
  obtain ⟨t, ht⟩ : ∃ t, t = (releaseBody u m r).1.answer m (releaseBody u m r).2 := ⟨_, rfl⟩
  have hexec : exec .takeRelease s = .next t := by
    refine (takeRequest_takesOn htakes releaseBody).trans ?_
    rw [releaseBody_moving (s := s.renewed m) moving hm, ← hu, ← ht]
  obtain ⟨habandoned, hothers, hreleased⟩ := h.release_abandoned (by rw [h.lease]; exact hm) ht
  rw [← htakes.names.handle]
  refine ⟨t, hexec, habandoned, hothers, hreleased, fun hfree => ?_, fun e rest => fun awaited => h.release_handed law moving awaited ht⟩
  cases keep : (s.lease r).keep with
  | true =>
    obtain ⟨⟨hqueue, hquiet⟩, hkept⟩ := h.release_kept ht alone hfree keep
    exact ⟨hqueue, hquiet, fun _ => hkept, fun c => nomatch c⟩
  | false =>
    obtain ⟨⟨hqueue, hquiet⟩, hretired⟩ := h.release_retired ht alone hfree keep hrun
    exact ⟨hqueue, hquiet, (fun c => nomatch c), fun _ => hretired⟩

end Sys2Proof.Machine
end

section
/-! ### Bound apertures and the holders they rest on (R129, R131 to R135) -/

namespace Sys2Proof.Machine

/-! #### A lease that stays with its holder -/

/-- A lease has kept its generation, has not become FREE, and has kept a master that held it. -/
structure Lease.StaysWith (l' l : Lease) (m : Master) : Prop where
  generation : l'.generation = l.generation
  live : l.state ≠ .free → l'.state ≠ .free
  holds : l.holders.mem m = true → l'.holders.mem m = true

namespace Lease.StaysWith

variable {l l' l'' : Lease} {m : Master}

theorem refl (l : Lease) (m : Master) : l.StaysWith l m := ⟨rfl, id, id⟩

theorem trans (h : l''.StaysWith l' m) (h' : l'.StaysWith l m) : l''.StaysWith l m :=
  ⟨h.generation.trans h'.generation, h.live ∘ h'.live, h.holds ∘ h'.holds⟩

/-- Only the generation, the state and the holders of the lease matter. -/
theorem of_eq (generation : l'.generation = l.generation) (live : l.state ≠ .free → l'.state ≠ .free)
    (holders : l'.holders = l.holders) : l'.StaysWith l m := ⟨generation, live, fun h => holders ▸ h⟩

/-- A grant adds a holder, and an ACQ_EXCL entry is granted where there is none to lose (R98). -/
theorem granted {e : WaitEntry} (he : e.kind = .acqExcl → l.holders = 0) : (l.granted e).StaysWith l m := by
  refine ⟨Lease.granted_generation l e, Lease.granted_live e, fun hm => ?_⟩
  cases hk : e.kind with
  | acqShared => rw [Lease.granted_acqShared l hk, MasterSet.mem_insert, hm, Bool.true_or]
  | upgrade => rw [Lease.granted_upgrade l hk]; exact hm
  | acqExcl => exact absurd (he hk) (MasterSet.ne_zero_of_mem hm)

/-- The grants of a pass leave every holder its hold (R98). -/
theorem foldl_grants (l : Lease) (entries : List WaitEntry) (m : Master) :
    ((l.grants entries).foldl Lease.granted l).StaysWith l m := by
  rcases l.grants_cases entries with hg | ⟨e, -, -, hg, hwhy⟩ | ⟨e, rest, -, hk, -, hg⟩
  · rw [hg]
    exact refl l m
  · rw [hg, List.foldl_cons, List.foldl_nil]
    refine granted fun hk => ?_
    rcases hwhy with ⟨c, -⟩ | ⟨-, hh⟩
    · rw [hk] at c
      cases c
    · exact hh
  · have hrow : ∀ x ∈ l.grants entries, x.kind = .acqShared := fun x hx => by
      rw [hg] at hx
      rcases List.mem_cons.1 hx with rfl | hx
      · exact hk
      · simpa using List.mem_takeWhile_imp hx
    refine List.foldlRecOn (motive := fun u : Lease => u.StaysWith l m) _ _ (refl l m) fun u hu x hx => ?_
    refine (granted fun c => ?_).trans hu
    rw [hrow x hx] at c
    cases c

end Lease.StaysWith

/-- A grant pass leaves every holder its hold (R97, R98). -/
theorem State.grantPass_staysWith (s : State) (r r' : RecordNo) (m : Master) :
    ((s.grantPass r).lease r').StaysWith (s.lease r') m := by
  rw [(s.grantPass_quiet r).lease, State.lease_setLease, s.grantable_eq]
  split
  · next e =>
    subst e
    split
    · exact .refl _ m
    · exact .foldl_grants _ _ m
  · exact .refl _ m

/-! #### What the operations leave of the apertures -/

theorem State.aperture_congr {s t : State} (h : t.apertures = s.apertures) (m : Master) (a : ApertureNo) :
    t.aperture m a = s.aperture m a := by
  unfold State.aperture
  rw [h]

theorem Aperture.lose_eq (x : Aperture) (h : Handle) : x.lose h = if x = .bound h then .lost h .revoked else x := by
  cases x with
  | bound h' =>
    unfold Aperture.lose
    simp only [Aperture.bound.injEq]
  | unbound => rfl
  | lost h' reason => rfl

/-- Every aperture that is bound to a handle becomes LOST, and no other changes (R135). -/
theorem State.loseApertures_aperture (s : State) (x : Handle) (m : Master) (a : ApertureNo) :
    (s.loseApertures x).aperture m a = if s.aperture m a = .bound x then .lost x .revoked else s.aperture m a := by
  rw [← Aperture.lose_eq]
  unfold State.aperture State.loseApertures
  rw [State.setApertures_apertures, Table.get_map, Table.get_map]

theorem State.setAperture_aperture (s : State) (m m' : Master) (a a' : ApertureNo) (x : Aperture) :
    (s.setAperture m a x).aperture m' a' = if m = m' ∧ a = a' then x else s.aperture m' a' := by
  unfold State.aperture
  rw [State.setAperture_apertures, Table.get_set]
  by_cases hm : m = m'
  · subst hm
    rw [if_pos rfl, Table.get_set]
    simp only [true_and]
  · rw [if_neg hm, if_neg fun c => hm c.1]

/-- An aperture that the third stage of a retirement leaves bound was so before it, and to another handle where the cause
takes the master's bindings (R21, R135). -/
theorem State.retireApertures_bound {s : State} {r : RecordNo} {cause : RetireCause} {m : Master} {a : ApertureNo}
    {x : Handle} (h : (s.retireApertures r cause).aperture m a = .bound x) :
    s.aperture m a = .bound x ∧ ((cause = .byOwner → (s.lease r).owner = some m) → x ≠ s.handle r) := by
  have released : ∀ {c : Prop} [Decidable c], (if c then Aperture.unbound else s.aperture m a) = .bound x →
      ¬ c ∧ s.aperture m a = .bound x := fun {c} _ h => by
    split at h
    · cases h
    · next hc => exact ⟨hc, h⟩
  cases cause with
  | emptied =>
    obtain ⟨hne, hb⟩ := released ((s.releaseAllApertures_aperture _ m a).symm.trans h)
    exact ⟨hb, fun _ e => hne (e ▸ hb)⟩
  | byOwner =>
    cases ho : (s.lease r).owner with
    | none =>
      have hsame : s.retireApertures r .byOwner = s := by unfold State.retireApertures; simp only [ho]
      exact ⟨hsame ▸ h, fun c => nomatch c rfl⟩
    | some owner =>
      rw [State.retireApertures_byOwner ho] at h
      obtain ⟨hne, hb⟩ := released ((s.releaseApertures_aperture owner _ m a).symm.trans h)
      exact ⟨hb, fun c e => hne ⟨(Option.some.inj (c rfl)).symm, e ▸ hb⟩⟩
  | revoked =>
    have hlose : (s.retireApertures r .revoked).aperture m a = (s.loseApertures (s.handle r)).aperture m a := by
      obtain ⟨b, hb⟩ := (s.loseApertures (s.handle r)).forMasters_frame (s.lease r).holders
        (fun s' m => s'.lostNotice m (s.handle r)) fun _ _ => ⟨_, rfl⟩
      unfold State.retireApertures
      dsimp only
      rw [hb]
      rfl
    have hb := (s.loseApertures_aperture _ m a).symm.trans (hlose.symm.trans h)
    split at hb
    · cases hb
    · next hne => exact ⟨hb, fun _ e => hne (e ▸ hb)⟩

/-- The same of a retirement as a whole (R20). -/
theorem State.retire_bound {s : State} {r : RecordNo} {cause : RetireCause} {m : Master} {a : ApertureNo} {x : Handle}
    (h : (s.retire r cause).aperture m a = .bound x) :
    s.aperture m a = .bound x ∧ ((cause = .byOwner → (s.lease r).owner = some m) → x ≠ s.handle r) := by
  obtain ⟨q, b, hwaits⟩ := (s.retireMove r).withdrawWaiters_frame (s.handle r)
  obtain ⟨l, y, p, hfree⟩ :=
    (((s.retireMove r).withdrawWaiters (s.handle r)).retireApertures r cause).freeRecord_frame r
  have hmove : (s.retireMove r).apertures = s.apertures ∧ (s.retireMove r).lease r = (s.lease r).unmoved := by
    unfold State.retireMove Lease.unmoved
    split
    · exact ⟨s.abandonMove_apertures r .revoked, (s.abandonMove_lease r r .revoked).trans (if_pos rfl)⟩
    · exact ⟨rfl, rfl⟩
  have hstage : (((s.retireMove r).withdrawWaiters (s.handle r)).retireApertures r cause).aperture m a = .bound x := by
    unfold State.retire at h
    rw [hfree] at h
    exact h
  obtain ⟨hb, hx⟩ := State.retireApertures_bound hstage
  have hlease : ((s.retireMove r).withdrawWaiters (s.handle r)).lease r = (s.lease r).unmoved := by
    rw [hwaits]
    exact hmove.2
  have hhandle : ((s.retireMove r).withdrawWaiters (s.handle r)).handle r = s.handle r := by
    refine State.handle_eq_of_generation ?_
    rw [hlease]
    unfold Lease.unmoved
    split <;> rfl
  have howner : (s.lease r).unmoved.owner = (s.lease r).owner := by unfold Lease.unmoved; split <;> rfl
  rw [hlease, hhandle, howner] at hx
  rw [hwaits] at hb
  exact ⟨(State.aperture_congr hmove.1 m a).symm.trans hb, hx⟩

/-! #### The bindings of some masters -/

/-- Every aperture of some masters that is bound, is bound to the current handle of a record its master holds (R129). -/
def State.Bindings (s : State) (who : Master → Prop) : Prop :=
  ∀ m, who m → ∀ a x, s.aperture m a = .bound x → ∃ r, s.Names x r ∧ (s.lease r).holders.mem m = true

theorem State.boundLaw_iff (s : State) : s.BoundLaw ↔ s.HoldLaw ∧ s.Bindings fun _ => True :=
  ⟨fun h => ⟨h.hold, fun m _ => h.bound m⟩, fun ⟨hold, h⟩ => ⟨hold, fun m => h m trivial⟩⟩

namespace State.Bindings

variable {s t : State} {who : Master → Prop}

/-- What is bound was bound before, and its lease has stayed with its master. -/
theorem of_parts (h : s.Bindings who) (ht : ∀ m, who m → ∀ a x, t.aperture m a = .bound x →
    s.aperture m a = .bound x ∧ ∀ r, s.Names x r → (t.lease r).StaysWith (s.lease r) m) : t.Bindings who := by
  intro m hm a x hb
  obtain ⟨hold, hstays⟩ := ht m hm a x hb
  obtain ⟨r, hnames, hmem⟩ := h m hm a x hold
  have hr := hstays r hnames
  exact ⟨r, ⟨hnames.number, hr.live hnames.live, by rw [hr.generation, hnames.generation]⟩, hr.holds hmem⟩

/-- The apertures are as they were, and every lease has stayed with its holders. -/
theorem of_leases (h : s.Bindings who) (apertures : t.apertures = s.apertures)
    (leases : ∀ r m, (t.lease r).StaysWith (s.lease r) m) : t.Bindings who :=
  h.of_parts fun m _ a _ hb => ⟨(State.aperture_congr apertures m a).symm.trans hb, fun r _ => leases r m⟩

/-- One record changes, and its lease stays with its holders. -/
theorem of_lease {r : RecordNo} {l : Lease} (h : s.Bindings who) (apertures : t.apertures = s.apertures)
    (lease : ∀ r', t.lease r' = if r = r' then l else s.lease r') (stays : ∀ m, l.StaysWith (s.lease r) m) :
    t.Bindings who :=
  h.of_leases apertures fun r' m => by
    rw [lease]
    split
    · next e => exact e ▸ stays m
    · exact .refl _ m

theorem setLease {r : RecordNo} {l : Lease} (h : s.Bindings who) (stays : ∀ m, l.StaysWith (s.lease r) m) :
    (s.setLease r l).Bindings who := h.of_lease rfl (s.lease_setLease r · l) stays

theorem same (h : s.Bindings who) (leases : t.leases = s.leases) (apertures : t.apertures = s.apertures) :
    t.Bindings who :=
  h.of_leases apertures fun r m => by unfold State.lease; rw [leases]; exact .refl _ m

theorem sameBooks (h : s.Bindings who) (ht : t.SameBooks s) : t.Bindings who := h.same ht.leases ht.apertures

theorem wakeEngine (h : s.Bindings who) : s.wakeEngine.Bindings who := h.sameBooks (.wakeEngine s)

/-- Apertures become UNBOUND or LOST, or stay. -/
theorem unbind (h : s.Bindings who) (leases : t.leases = s.leases)
    (apertures : ∀ m a x, t.aperture m a = .bound x → s.aperture m a = .bound x) : t.Bindings who :=
  h.of_parts fun m _ a x hb => ⟨apertures m a x hb, fun r _ => by unfold State.lease; rw [leases]; exact .refl _ m⟩

/-! #### The operations -/

theorem grantPass (h : s.Bindings who) (r : RecordNo) : (s.grantPass r).Bindings who :=
  h.of_leases (s.grantPass_apertures r) fun r' m => s.grantPass_staysWith r r' m

theorem removeEntry (h : s.Bindings who) (e : WaitEntry) : (s.removeEntry e).Bindings who := by
  have hq : (s.setQueue (dropFromQueue s.queue e.master e.handle)).Bindings who := h.same rfl rfl
  unfold State.removeEntry
  dsimp only
  split
  · split
    · exact hq.grantPass _
    · exact hq
  · exact hq

theorem abandonMove (h : s.Bindings who) (r : RecordNo) (reason : MoveReason) : (s.abandonMove r reason).Bindings who :=
  h.of_lease (s.abandonMove_apertures r reason) (s.abandonMove_lease r · reason) fun _ =>
    .of_eq rfl (fun _ => nofun) rfl

/-- A retirement that takes every binding to its lease, or that of an owner who alone can have one (R21, R135). -/
theorem retire (h : s.Bindings who) {r : RecordNo} {cause : RetireCause}
    (hc : cause = .byOwner → ∀ m, who m → (s.lease r).holders.mem m = true → (s.lease r).owner = some m) :
    (s.retire r cause).Bindings who := by
  intro m hm a x hb
  obtain ⟨hold, hx⟩ := State.retire_bound hb
  obtain ⟨r', hnames, hmem⟩ := h m hm a x hold
  have hne : r ≠ r' := by
    rintro rfl
    exact hx (fun e => hc e m hm hmem) hnames.handle.symm
  have hlease : (s.retire r cause).lease r' = s.lease r' := (s.retire_lease r r' cause).trans (if_neg hne)
  exact ⟨r', ⟨hnames.number, hlease ▸ hnames.live, hlease ▸ hnames.generation⟩, hlease ▸ hmem⟩

/-- A master leaves a lease that none of its apertures is bound to; the pass runs, and the lease goes the way of its fate
(R17, R56, R89). -/
theorem leave_settle (h : s.Bindings who) {m : Master} {r : RecordNo}
    (hm : who m → ∀ a, s.aperture m a ≠ .bound (s.handle r)) : ((s.leave r m).settle r).Bindings who := by
  have hremoved : (s.removeHolder r m).Bindings who := by
    refine h.of_parts fun m' hm' a x hb => ⟨hb, fun r' hnames => ?_⟩
    rw [State.removeHolder_eq, State.lease_setLease]
    split
    · next e =>
      subst e
      refine ⟨rfl, id, fun hmem => ?_⟩
      have hne : m ≠ m' := by
        rintro rfl
        exact hm hm' a (hnames.handle ▸ hb)
      rw [show ((s.lease r).without m).holders = (s.lease r).holders.erase m from rfl, MasterSet.mem_erase, hmem,
        decide_eq_false hne]
      rfl
    · exact .refl _ m'
  have hleft : (s.leave r m).Bindings who := hremoved.grantPass r
  rcases (s.leave r m).settle_cases r with ⟨e, -⟩ | ⟨-, -, e | e⟩
  · rw [e]
    exact hleft
  · rw [e]
    exact hleft.setLease fun _ => .of_eq rfl (fun _ => nofun) rfl
  · rw [e]
    exact hleft.retire nofun

/-- CREATE takes a FREE record, which no aperture is bound to (R69, R129). -/
theorem createLease (h : s.Bindings who) (m : Master) {r : RecordNo} (run : Run) (free : (s.lease r).state = .free) :
    (s.createLease m r run).Bindings who := by
  have hapertures : (s.createLease m r run).apertures = s.apertures := by
    obtain ⟨p, x, e⟩ := s.allocate_frame run (.run r)
    unfold State.createLease
    rw [e]
    rfl
  refine h.of_parts fun m' _ a x hb => ⟨(State.aperture_congr hapertures m' a).symm.trans hb, fun r' hnames => ?_⟩
  have hne : r ≠ r' := by
    rintro rfl
    exact hnames.live free
  rw [State.createLease_lease, if_neg hne]
  exact .refl _ m'

theorem shrinkLease (h : s.Bindings who) (r : RecordNo) (dir : Direction) (run : Run) (len : Nat) :
    (s.shrinkLease r dir run len).Bindings who := by
  refine h.of_lease (l := { s.lease r with run := some (shrunkTo dir run len) }) ?_
    (fun r' => ((s.shrinkLease_quiet r dir run len).lease r').trans (State.lease_setLease _ _ _ _))
    fun _ => .of_eq rfl id rfl
  unfold State.shrinkLease
  obtain ⟨x, e⟩ := ((s.scrubRun (some (shrunkOff dir run len))).setLease r
    { s.lease r with run := some (shrunkTo dir run len) }).dropOwnedBy_frame (s.lease r).owner 0 (run.len - len)
  rw [e]
  rfl

theorem growLease (h : s.Bindings who) (r : RecordNo) (added grown : Run) : (s.growLease r added grown).Bindings who := by
  refine h.of_lease (l := { s.lease r with run := some grown }) ?_
    (fun r' => ((s.growLease_quiet r added grown).lease r').trans (State.lease_setLease _ _ _ _))
    fun _ => .of_eq rfl id rfl
  unfold State.growLease
  obtain ⟨p, v, ha⟩ := s.allocate_frame added (.run r)
  obtain ⟨x, e⟩ := ((s.allocate added (.run r)).setLease r { s.lease r with run := some grown }).addOwnedBy_frame
    (s.lease r).owner 0 added.len
  rw [e, ha]
  rfl

theorem startMove (h : s.Bindings who) (r : RecordNo) (target : Run) : (s.startMove r target).Bindings who := by
  rw [State.startMove_eq]
  exact h.of_lease (l := { s.lease r with state := .moving, target := some target }) rfl
    (s.lease_setLease r · _) fun _ => .of_eq rfl (fun _ => nofun) rfl

theorem completeMove (h : s.Bindings who) (r : RecordNo) : (s.completeMove r).Bindings who := by
  refine h.of_leases (s.completeMove_apertures r) fun r' m => ?_
  rcases s.completeMove_lease_cases r r' with e | ⟨target, -, e⟩
  · rw [e]
    exact .refl _ m
  · rw [e]
    exact .of_eq rfl (fun _ => nofun) rfl

/-- An ending takes every aperture of its master, and every other master's holds stay (R53 to R57). -/
theorem endSession (h : s.Bindings fun _ => True) (m : Master) (reason : EndReason) :
    (s.endSession m reason).Bindings fun _ => True := by
  have h0 : s.Bindings (· ≠ m) := fun m' _ => h m' trivial
  have h1 : (s.endStage1 m).Bindings (· ≠ m) := by
    unfold State.endStage1
    split
    · exact h0.removeEntry _
    · exact h0
  have h2 : ((s.endStage1 m).endStage2 m).Bindings (· ≠ m) := by
    unfold State.endStage2
    split
    · split
      · exact h1.abandonMove _ _
      · exact h1
    · exact h1
  have h3 : (((s.endStage1 m).endStage2 m).endStage3 m).Bindings (· ≠ m) := by
    refine List.foldlRecOn (motive := fun u : State => u.Bindings (· ≠ m)) _ _ h2 fun u hu r _ => ?_
    unfold State.endHold
    split
    · exact leave_settle hu fun c => absurd rfl c
    · exact hu
  have h4 : ((((s.endStage1 m).endStage2 m).endStage3 m).unbindMaster m).Bindings fun _ => True := by
    generalize ((s.endStage1 m).endStage2 m).endStage3 m = u at h3
    intro m' _ a x hb
    unfold State.aperture State.unbindMaster at hb
    rw [State.setApertures_apertures, Table.get_set] at hb
    split at hb
    · rw [Table.get_replicate] at hb
      cases hb
    · next hne =>
      obtain ⟨r, hnames, hmem⟩ := h3 m' (Ne.symm hne) a x hb
      exact ⟨r, ⟨hnames.number, hnames.live, hnames.generation⟩, hmem⟩
  unfold State.endSession State.endNotices
  split <;> exact h4.same rfl rfl

end State.Bindings

end Sys2Proof.Machine
end

section
/-! ### Every command keeps the bindings of the apertures (R129, R131 to R136) -/

namespace Sys2Proof.Machine

namespace State.Bindings

variable {s t : State} {who : Master → Prop}

/-! #### Requests -/

theorem takeRequest {q : Request} {carryOut : State → Master → State × Answer} (h : s.Bindings who)
    (hb : ∀ m, (carryOut s m).1.Bindings who) (ht : Machine.takeRequest q carryOut s = .next t) : t.Bindings who := by
  unfold Machine.takeRequest at ht
  split at ht
  · split at ht
    · cases ht
      exact (hb _).same rfl rfl
    · cases ht
      exact h
  · cases ht
    exact h

/-- A request of an open session, after its renewal (R50). -/
theorem takeInSession {q : Request} {carryOut : State → Master → State × Answer} (h : s.Bindings who)
    (hb : ∀ m, (s.renewed m).Bindings who → (carryOut (s.renewed m) m).1.Bindings who)
    (ht : Machine.takeRequest q (withSession carryOut) s = .next t) : t.Bindings who := by
  refine h.takeRequest (fun m => ?_) ht
  unfold withSession
  split
  · exact hb m (h.same rfl rfl)
  · exact h

/-- A request of an open session that names a lease. -/
theorem takeOnLease {q : Request} {carryOut : State → Master → RecordNo → State × Answer} (h : s.Bindings who)
    (hb : ∀ m r, (s.renewed m).Bindings who → (s.renewed m).Names ((s.renewed m).parameter m) r →
      (carryOut (s.renewed m) m r).1.Bindings who)
    (ht : Machine.takeRequest q (withSession (withLease carryOut)) s = .next t) : t.Bindings who := by
  refine h.takeInSession (fun m h => ?_) ht
  unfold withLease
  split
  · next r hr => exact hb m r h ((State.validate_iff _ _ _).1 hr)
  · exact h

theorem openBody (h : s.Bindings fun _ => True) (m : Master) : (openBody s m).1.Bindings fun _ => True := by
  have hrenewed : (s.renewIfOpen m).Bindings fun _ => True := by
    unfold State.renewIfOpen
    split
    · exact h.sameBooks (.renew s m)
    · exact h
  unfold Machine.openBody
  dsimp only
  split
  · exact hrenewed
  · split
    · exact hrenewed
    · split
      · exact (h.endSession m .reopened).wakeEngine.same rfl rfl
      · exact h.same rfl rfl

theorem closeBody (h : s.Bindings fun _ => True) (m : Master) : (closeBody s m).1.Bindings fun _ => True := by
  unfold Machine.closeBody
  split
  · exact (h.endSession m .closed).wakeEngine
  · exact h

theorem createBody (h : s.Bindings who) (m : Master) : (createBody s m).1.Bindings who := by
  unfold Machine.createBody
  dsimp only
  split
  · exact h.same rfl rfl
  · next r hr =>
    split
    · exact h
    · split
      · exact h
      · split
        · exact h
        · split
          · exact h
          · split
            · exact h
            · exact h.createLease m _ (State.firstFree_free hr)

/-- The mode or the written flag of a lease changes (R78, R93, R94, R144). -/
theorem edit (h : s.Bindings who) (r : RecordNo) (mode : Option Mode) (w : Bool) :
    (s.setLease r { s.lease r with mode := mode, written := w }).Bindings who :=
  h.setLease fun _ => .of_eq rfl id rfl

theorem markBody (h : s.Bindings who) (m : Master) (r : RecordNo) : (markBody s m r).1.Bindings who := by
  unfold Machine.markBody
  dsimp only
  split
  · exact h
  · split
    · exact h
    · exact h.edit r _ false

/-- RETIRE is for a lease that nobody holds, or that its owner holds alone (R79). -/
theorem retireBody (h : s.Bindings who) (hold : s.HoldLaw) (m : Master) (r : RecordNo) :
    (retireBody s m r).1.Bindings who := by
  unfold Machine.retireBody
  dsimp only
  split
  · exact h
  · next howner =>
    split
    · exact h
    · split
      · next hwho =>
        refine (h.retire fun _ m' _ hm' => ?_).wakeEngine
        rcases hwho with hidle | halone
        · exact absurd (hold.unheld r (.inr hidle)).1 (MasterSet.ne_zero_of_mem hm')
        · exact (not_not.1 howner).trans (congrArg some (MasterSet.eq_of_mem_single (halone ▸ hm')))
      · exact h

theorem acquireBody (h : s.Bindings who) (m : Master) (r : RecordNo) : (acquireBody s m r).1.Bindings who := by
  unfold Machine.acquireBody
  dsimp only
  split
  · exact h
  · split
    · exact h
    · split
      · exact h
      · split
        · refine h.setLease fun m' => ⟨rfl, fun _ => nofun, fun hm' => ?_⟩
          rw [show ((s.lease r).grantedNow m _).holders = (s.lease r).holders.insert m from rfl, MasterSet.mem_insert,
            hm', Bool.true_or]
        · split
          · exact h
          · split
            · exact h
            · exact h.same rfl rfl

/-- The releaser's apertures on the lease are UNBOUND before it leaves the holders (R89). -/
theorem releaseBody (h : s.Bindings who) (m : Master) (r : RecordNo) : (releaseBody s m r).1.Bindings who := by
  unfold Machine.releaseBody
  split
  · exact h
  · dsimp only
    rw [State.releaseUpToPass_grantPass]
    have hmove : (s.releaseMove r).Bindings who := by
      unfold State.releaseMove
      split
      · exact h.abandonMove r .released
      · exact h
    have hhandle : (s.releaseMove r).handle r = s.handle r := State.handle_eq_of_generation (by
      rw [s.releaseMove_lease]
      unfold Lease.unmoved
      split <;> rfl)
    generalize s.releaseMove r = u at hmove hhandle
    have hquiet := u.releaseNotices_quiet m (s.handle r) (s.handle r)
    have hcancel : (u.cancelUpgrade m (s.handle r)).apertures = u.apertures := by
      unfold State.cancelUpgrade
      split
      · split <;> rfl
      · rfl
    have hafter : ∀ m' a, ((u.cancelUpgrade m (s.handle r)).releaseApertures m (s.handle r)).aperture m' a =
        if m' = m ∧ u.aperture m' a = .bound (s.handle r) then .unbound else u.aperture m' a := fun m' a => by
      rw [State.releaseApertures_aperture, State.aperture_congr hcancel]
    have hreleased := hmove.unbind hquiet.leases fun m' a x hb => by
      rw [hafter] at hb
      split at hb
      · cases hb
      · exact hb
    refine (leave_settle hreleased fun _ a hb => ?_).wakeEngine
    rw [State.handle_eq_of_generation (t := (u.cancelUpgrade m (s.handle r)).releaseApertures m (s.handle r)) (s := u)
      (by rw [hquiet.lease]), hhandle, hafter] at hb
    split at hb
    · cases hb
    · next hne => exact hne ⟨rfl, hb⟩

theorem convertBody (h : s.Bindings who) (m : Master) (r : RecordNo) : (convertBody s m r).1.Bindings who := by
  unfold Machine.convertBody
  dsimp only
  split
  · exact h
  · split
    · exact h
    · split
      · exact h
      · split
        · exact h
        · split
          · exact (h.edit r _ _).grantPass r
          · split
            · exact h.edit r _ _
            · unfold queuedUpgrade
              split
              · exact h
              · split
                · exact h
                · split
                  · exact h
                  · exact h.same rfl rfl

theorem cancelBody (h : s.Bindings who) (m : Master) : (cancelBody s m).1.Bindings who := by
  unfold Machine.cancelBody
  split
  · exact h
  · exact h.removeEntry _

theorem resizeBody (h : s.Bindings who) (m : Master) (r : RecordNo) : (resizeBody s m r).1.Bindings who := by
  unfold Machine.resizeBody
  dsimp only
  split
  · exact h
  · split
    · exact h
    · split
      · exact h
      · split
        · split
          · exact h
          · split
            · exact (h.shrinkLease r _ _ _).wakeEngine
            · unfold growBody
              split
              · exact h
              · split
                · exact h.growLease r _ _
                · unfold growByMove
                  split
                  · exact h
                  · split
                    · exact h
                    · exact (h.startMove r _).wakeEngine
        · exact h

/-- BIND is for a holder of the lease that the handle names (R131). -/
theorem bindBody (h : s.Bindings who) {m : Master} {r : RecordNo} (hnames : s.Names (s.parameter m) r) :
    (bindBody s m r).1.Bindings who := by
  unfold Machine.bindBody
  dsimp only
  split
  · exact h
  · next hm =>
    intro m' hm' a x hb
    rw [State.setAperture_aperture] at hb
    split at hb
    · next e =>
      cases hb
      exact ⟨r, ⟨hnames.number, hnames.live, hnames.generation⟩, e.1 ▸ Bool.not_eq_false _ ▸ hm⟩
    · obtain ⟨r', hold, hmem⟩ := h m' hm' a x hb
      exact ⟨r', ⟨hold.number, hold.live, hold.generation⟩, hmem⟩

theorem unbindBody (h : s.Bindings who) (m : Master) : (unbindBody s m).1.Bindings who :=
  h.unbind rfl fun m' a x hb => by
    unfold Machine.unbindBody at hb
    rw [State.setAperture_aperture] at hb
    split at hb
    · cases hb
    · exact hb

/-! #### Data accesses, bursts and ticks -/

/-- An access at the port sets a written flag at most (R144). -/
theorem serve (h : s.Bindings who) (x : Transfer) : (s.serve x).Bindings who := by
  rcases s.serve_cases x with ⟨b, a, e⟩ | ⟨m, r, address, -, -, -, e⟩
  · rw [e]
    exact h.same rfl rfl
  · rw [e]
    exact (h.edit r _ true).same rfl rfl

theorem takeTransfer (h : s.Bindings who) (x : Transfer) : (s.takeTransfer x).Bindings who := by
  rcases s.takeTransfer_cases x with e | ⟨-, e⟩ | ⟨-, e⟩
  · rw [e]
    exact h
  · rw [e]
    exact h.serve x
  · rw [e]
    exact h.same rfl rfl

/-- A burst leaves the records and the apertures, but for a lease that goes on its target run (R120). -/
theorem burst {c : Instr} (h : s.Bindings who) (ht : s.BurstEnds c t) : t.Bindings who := by
  obtain ⟨hapertures, hleases⟩ := ht.leases
  refine h.of_leases hapertures fun r m => ?_
  rcases hleases r with e | ⟨target, -, e⟩
  · rw [e]
    exact .refl _ m
  · rw [e]
    exact .of_eq rfl (fun _ => nofun) rfl

theorem burstEnd {c : Instr} (h : s.Bindings who) (hc : c ∈ burstEnds) (ht : Machine.exec c s = .next t) :
    t.Bindings who := by
  rcases exec_burstEnds hc ht with rfl | ⟨u, hu, rfl⟩
  · exact h
  · have hp : (u.setPortWait none).Bindings who := (h.burst hu).same rfl rfl
    exact State.servePort_keeps (P := fun v : State => v.Bindings who) hp fun x => hp.serve x

theorem sessionTick (h : s.Bindings fun _ => True) : s.sessionTick.Bindings fun _ => True := by
  have hc := h.sameBooks (.countSessions s)
  unfold State.sessionTick State.lapseAll
  split
  · exact hc
  · exact (List.foldlRecOn (motive := fun u : State => u.Bindings fun _ => True) _ _ hc fun u hu m _ =>
      endSession hu m .lapsed).wakeEngine

theorem queueTick (h : s.Bindings who) : s.queueTick.Bindings who := by
  obtain ⟨boxes, e⟩ := s.countQueue.timeOut_frame
  have htimeOut : s.countQueue.timeOut.Bindings who := by
    rw [e]
    exact h.same rfl rfl
  exact List.foldlRecOn (motive := fun u : State => u.Bindings who) _ _ htimeOut fun u hu r _ => grantPass hu r

/-! #### Supervisor commands -/

theorem takeSupervisor {c : SupervisorCommand} {carryOut : State → State × AnswerCode} (h : s.Bindings who)
    (hb : (carryOut s).1.Bindings who) (ht : Machine.takeSupervisor c carryOut s = .next t) : t.Bindings who := by
  unfold Machine.takeSupervisor at ht
  split at ht
  · split at ht
    · cases ht
      exact hb.same rfl rfl
    · cases ht
      exact h
  · cases ht
    exact h

theorem revokeBody (h : s.Bindings who) : (revokeBody s).1.Bindings who := by
  unfold Machine.revokeBody
  split
  · exact (h.retire (cause := .revoked) nofun).wakeEngine
  · exact h

theorem evictBody (h : s.Bindings fun _ => True) : (evictBody s).1.Bindings fun _ => True := by
  unfold Machine.evictBody
  dsimp only
  split
  · split
    · exact (h.endSession _ .evicted).wakeEngine
    · exact h
  · exact h

/-- RESET-ALL leaves no aperture bound (R129, R184). -/
theorem resetAllBody (s : State) : (resetAllBody s).1.Bindings who := by
  intro m _ a x hb
  have hapertures : (Machine.resetAllBody s).1.apertures = Table.replicate 12 (Table.replicate 4 .unbound) := by
    rw [resetAllBody_eq, State.wakeEngine_apertures]
    rfl
  unfold State.aperture at hb
  rw [hapertures, Table.get_replicate, Table.get_replicate] at hb
  cases hb

/-! #### Every command -/

/-- A system reset leaves no aperture bound (R129). -/
theorem systemReset (s : State) : s.systemReset.Bindings fun _ => True :=
  ((State.boundLaw_iff _).1 s.systemReset_atReset.boundLaw).2

theorem exec {c : Instr} (h : s.Bindings fun _ => True) (hold : s.HoldLaw) (ht : exec c s = .next t) :
    t.Bindings fun _ => True := by
  have offBooks : OffBooks c → t.Bindings fun _ => True := fun hc => h.sameBooks (.of_offBooks hc ht)
  cases c with
  | takeOpen => exact h.takeRequest h.openBody ht
  | takeRenew => exact h.takeInSession (fun _ h => h) ht
  | takeClose => exact h.takeRequest h.closeBody ht
  | takeCreate => exact h.takeInSession (fun m h => h.createBody m) ht
  | takeFind => exact h.takeInSession (fun m h => LeaseOps.findBody (P := fun v => v.Bindings _) _ m h) ht
  | takeQuery => exact h.takeOnLease (fun _ _ h _ => h) ht
  | takeMark => exact h.takeOnLease (fun m r h _ => h.markBody m r) ht
  | takeRetire =>
    exact h.takeOnLease (fun m r h _ => h.retireBody (State.HoldLaw.of_quiet (s := s) (.of_eq rfl rfl rfl) hold) m r) ht
  | takeAcquire => exact h.takeOnLease (fun m r h _ => h.acquireBody m r) ht
  | takeRelease => exact h.takeOnLease (fun m r h _ => h.releaseBody m r) ht
  | takeConvert => exact h.takeOnLease (fun m r h _ => h.convertBody m r) ht
  | takeCancel => exact h.takeInSession (fun m h => h.cancelBody m) ht
  | takeResize => exact h.takeOnLease (fun m r h _ => h.resizeBody m r) ht
  | takeBind => exact h.takeOnLease (fun _ _ h hnames => h.bindBody hnames) ht
  | takeUnbind => exact h.takeInSession (fun m h => h.unbindBody m) ht
  | takeUndefined => exact h.takeInSession (fun _ h => h) ht
  | dataRead master address width => cases ht; exact h.takeTransfer _
  | dataWrite master address width lanes => cases ht; exact h.takeTransfer _
  | sessionCountdown => exact LeaseOps.next_of_ite (P := fun v => v.Bindings _) ht h.sessionTick h
  | sessionLapse => exact LeaseOps.next_of_ite (P := fun v => v.Bindings _) ht h.sessionTick h
  | waitQueueCountdown => exact LeaseOps.next_of_ite (P := fun v => v.Bindings _) ht h.queueTick h
  | waitTimeout => exact LeaseOps.next_of_ite (P := fun v => v.Bindings _) ht h.queueTick h
  | scrubBurstEnd => exact h.burstEnd (by simp [burstEnds]) ht
  | scrubBlockStepEnd => exact h.burstEnd (by simp [burstEnds]) ht
  | copyBurstEnd => exact h.burstEnd (by simp [burstEnds]) ht
  | copyBlockStepEnd => exact h.burstEnd (by simp [burstEnds]) ht
  | moveCompletion => exact h.burstEnd (by simp [burstEnds]) ht
  | takeRevoke => exact h.takeSupervisor h.revokeBody ht
  | takeEvict => exact h.takeSupervisor h.evictBody ht
  | takeResetAll => exact h.takeSupervisor (resetAllBody s) ht
  | takeUndefinedSupervisor => exact h.takeSupervisor h ht
  | systemReset => cases ht; exact systemReset s
  | _ => exact offBooks trivial

theorem step (h : s.Bindings fun _ => True) (hold : s.HoldLaw) (ht : Machine.step s = .next t) :
    t.Bindings fun _ => True := by
  unfold Machine.step at ht
  split at ht
  · cases ht
    exact h
  · next rest _ =>
    have hrest : ({ s with pending := rest } : State).Bindings fun _ => True := h.same rfl rfl
    exact hrest.exec (State.HoldLaw.of_quiet (s := s) (.of_eq rfl rfl rfl) hold) ht

end State.Bindings

/-- Settles O56: the law of holders goes along (O53), and every command keeps the bindings. -/
theorem stepKeepsBoundApertures : Obligations.StepKeepsBoundApertures := by
  intro s t ht h
  obtain ⟨hold, hbindings⟩ := s.boundLaw_iff.1 h
  exact t.boundLaw_iff.2 ⟨stepKeepsHolders s t ht hold, hbindings.step hold ht⟩

end Sys2Proof.Machine
end

section
/-! ### BIND and UNBIND (R131 to R133) -/

namespace Sys2Proof.Machine

/-- PARAM1 bits 1 to 0 select the aperture (R131). -/
theorem Mailbox.apertureField_eq {b : Mailbox} {a : ApertureNo} (h : (b.param1.extractLsb' 0 2).toNat = a.val) :
    b.apertureField = a := Fin.ext h

/-- A master that holds the lease has the aperture bound to the handle it named (R132). -/
theorem bindBody_holder {s : State} {m : Master} {r : RecordNo} (h : (s.lease r).holders.mem m = true) :
    bindBody s m r = (s.setAperture m (s.mailbox m).apertureField (.bound (s.parameter m)),
      boundBefore (s.aperture m (s.mailbox m).apertureField)) :=
  if_neg (by rw [h]; decide)

/-- Any other master is refused (R131). -/
theorem bindBody_notHolder {s : State} {m : Master} {r : RecordNo} (h : (s.lease r).holders.mem m = false) :
    bindBody s m r = (s, { code := .notHolder }) := if_pos h

theorem unbindBody_eq (s : State) (m : Master) :
    unbindBody s m = (s.setAperture m (s.mailbox m).apertureField .unbound,
      boundBefore (s.aperture m (s.mailbox m).apertureField)) := rfl

/-- Settles O24: the aperture is the one that PARAM1 selects, and the answer words follow from what it held. -/
theorem bindAndUnbindReplaceTheAperture : Obligations.BindAndUnbindReplaceTheAperture := by
  intro s m a word0 word1 ha hwords
  have hfield : (s.mailbox m).apertureField = a := Mailbox.apertureField_eq ha
  have haperture : (s.renewed m).aperture m a = s.aperture m a := rfl
  have hbefore : boundBefore (s.aperture m a) = { code := .ok, word0 := word0, word1 := word1 } := by
    cases hx : s.aperture m a with
    | unbound | bound | lost =>
      rw [hx] at hwords
      obtain ⟨rfl, rfl⟩ := hwords
      rfl
  refine ⟨fun r htakes hm => ?_, fun r htakes hm => ?_, fun htakes hopen => ?_⟩
  · refine (takeRequest_takesOn htakes bindBody).trans ?_
    rw [bindBody_notHolder (s := s.renewed m) hm]
    rfl
  · refine (takeRequest_takesOn htakes bindBody).trans ?_
    rw [bindBody_holder (s := s.renewed m) hm, State.renewed_mailbox, hfield, haperture, hbefore]
    rfl
  · refine (takeRequest_takes htakes (withSession unbindBody)).trans ?_
    rw [withSession_open hopen, unbindBody_eq, State.renewed_mailbox, hfield, haperture, hbefore]
    rfl

end Sys2Proof.Machine
end

section
/-! ### The checks of a data access (R128, R137 to R142, R145) -/

namespace Sys2Proof.Machine

/-! #### Check 4: alignment and offset -/

/-- A valid offset of a lease, with the address it reaches, in the words of Safety.lean (R10, R140). -/
theorem validOffset_iff {dir : Direction} {run : Run} {offset a : Nat} :
    validOffset dir run.len offset = true ∧ addressReached dir run offset = a ↔
      (dir = .up ∧ offset < run.len * 4096 ∧ a = (run.base + offset / 4096) * 4096 + offset % 4096) ∨
        (dir = .down ∧ 1048576 - run.len * 4096 ≤ offset ∧ offset < 1048576 ∧
          a = (run.base + run.len + offset / 4096 - 256) * 4096 + offset % 4096) := by
  cases dir with
  | up =>
    constructor
    · rintro ⟨hv, rfl⟩
      exact .inl ⟨rfl, of_decide_eq_true hv, rfl⟩
    · rintro (⟨-, hlt, rfl⟩ | ⟨c, -⟩)
      · exact ⟨decide_eq_true hlt, rfl⟩
      · cases c
  | down =>
    constructor
    · rintro ⟨hv, rfl⟩
      obtain ⟨hge, hlt⟩ := Bool.and_eq_true_iff.1 hv
      exact .inr ⟨rfl, of_decide_eq_true hge, of_decide_eq_true hlt, rfl⟩
    · rintro (⟨c, -⟩ | ⟨-, hge, hlt, rfl⟩)
      · cases c
      · exact ⟨Bool.and_eq_true_iff.2 ⟨decide_eq_true hge, decide_eq_true hlt⟩, rfl⟩

/-- Check 4 finds an address exactly when the access is aligned and its offset reaches that address (R138, R140). -/
theorem Lease.reach_eq_some_iff {l : Lease} {x : DataAccess} {a : Nat} :
    l.reach x = some a ↔ x.offset.toNat % widthBytes x.width = 0 ∧ l.Reaches x.offset.toNat a := by
  unfold Lease.reach Lease.Reaches
  cases hd : l.direction with
  | none => simp
  | some dir =>
    cases hr : l.run with
    | none => simp
    | some run =>
      dsimp only
      rw [Option.ite_none_right_eq_some, Bool.and_eq_true, widthAligned, beq_iff_eq, and_assoc, Option.some.injEq,
        validOffset_iff]
      simp only [Option.some.injEq, exists_eq_left']

theorem Lease.reach_eq_none {l : Lease} {x : DataAccess}
    (h : x.offset.toNat % widthBytes x.width ≠ 0 ∨ ∀ a, ¬ l.Reaches x.offset.toNat a) : l.reach x = none := by
  refine Option.eq_none_iff_forall_ne_some.2 fun a ha => ?_
  obtain ⟨haligned, hreaches⟩ := Lease.reach_eq_some_iff.1 ha
  exact h.elim (fun c => c haligned) fun c => c a hreaches

/-! #### The checks in their order -/

theorem masterOfNumber_eq {number : BitVec 4} {m : Master} (h : number.toNat = m.val) :
    masterOfNumber number = some m := by
  unfold masterOfNumber
  rw [dif_pos (h ▸ m.isLt)]
  exact congrArg some (Fin.ext h)

/-- A master number of 12 to 15 fails check 1 (R139). -/
theorem State.serve_noMaster {s : State} {x : Transfer} (h : 12 ≤ x.master.toNat) :
    s.serve x = s.respond .error 0 := by
  have hnone : masterOfNumber x.master = none := dif_neg (Nat.not_lt.2 h)
  unfold State.serve
  rw [hnone]

/-- The access of a master with a slot, served at the port (R137). -/
theorem State.Meets.serve {s : State} {x : Transfer} {m : Master} {y : Aperture}
    (h : s.Meets x.master x.address m y) :
    s.serve x = s.takeAccess m (dataAccess x.address x.dir x.width x.lanes) := by
  unfold State.serve
  rw [masterOfNumber_eq h.number]

/-- The aperture that an access goes through (R128). -/
theorem State.Meets.aperture_eq {s : State} {master : BitVec 4} {address : BitVec 32} {m : Master} {y : Aperture}
    (h : s.Meets master address m y) (dir : AccessDir) (width : Width) (lanes : Word) :
    s.aperture m (dataAccess address dir width lanes).aperture = y := h.aperture _ rfl

theorem State.checkAccess_unbound {s : State} {m : Master} {x : DataAccess}
    (h : s.aperture m x.aperture = .unbound) : s.checkAccess m x = .refuse .unbound := by
  unfold State.checkAccess
  rw [h]

theorem State.checkAccess_lost {s : State} {m : Master} {x : DataAccess} {handle : Handle} {reason : LostReason}
    (h : s.aperture m x.aperture = .lost handle reason) : s.checkAccess m x = .refuse .lost := by
  unfold State.checkAccess
  rw [h]

/-- Through a bound aperture the record of its handle is checked (R138). -/
theorem State.checkAccess_bound {s : State} {m : Master} {x : DataAccess} {handle : Handle} {r : RecordNo}
    (h : s.aperture m x.aperture = .bound handle) (hnames : s.Names handle r) :
    s.checkAccess m x = s.checkLease r x := by
  unfold State.checkAccess
  rw [h]
  simp only [(s.validate_iff handle r).2 hnames]

theorem State.checkLease_range {s : State} {r : RecordNo} {x : DataAccess} (h : (s.lease r).reach x = none) :
    s.checkLease r x = .refuse .range := by
  unfold State.checkLease
  rw [h]

/-- An access that passes checks 1 to 4 meets checks 5 and 6, which are for writes (R141, R142). -/
theorem State.Reaches.checkAccess {s : State} {master : BitVec 4} {address : BitVec 32} {width : Width} {m : Master}
    {r : RecordNo} {a : Nat} (h : s.Reaches master address width m r a) (dir : AccessDir) (lanes : Word) :
    s.checkAccess m (dataAccess address dir width lanes) =
      if dir = .write ∧ (s.lease r).mode ≠ some .exclusive then .refuse .rights
      else if dir = .write ∧ (s.lease r).state = .moving then .retry
      else .perform r a := by
  obtain ⟨handle, hmeets, hnames⟩ := h.bound
  have hreach : (s.lease r).reach (dataAccess address dir width lanes) = some a :=
    Lease.reach_eq_some_iff.2 ⟨h.aligned, h.place⟩
  rw [State.checkAccess_bound (hmeets.aperture_eq dir width lanes) hnames]
  unfold State.checkLease
  rw [hreach]
  rfl

theorem State.Reaches.serve {s : State} {x : Transfer} {m : Master} {r : RecordNo} {a : Nat}
    (h : s.Reaches x.master x.address x.width m r a) :
    s.serve x = s.takeAccess m (dataAccess x.address x.dir x.width x.lanes) := by
  obtain ⟨handle, hmeets, -⟩ := h.bound
  exact hmeets.serve

theorem State.Reaches.inDataWindow {s : State} {master : BitVec 4} {address : BitVec 32} {width : Width} {m : Master}
    {r : RecordNo} {a : Nat} (h : s.Reaches master address width m r a) : s.InDataWindow address := by
  obtain ⟨handle, hmeets, -⟩ := h.bound
  exact hmeets.toInDataWindow

/-! #### What an access leaves -/

/-- An access refused for a reason leaves the fault record of R145. -/
theorem State.takeAccess_refuse {s : State} {m : Master} {address : BitVec 32} {dir : AccessDir} {width : Width}
    {lanes : Word} {reason : FaultReason}
    (h : s.checkAccess m (dataAccess address dir width lanes) = .refuse reason) :
    s.takeAccess m (dataAccess address dir width lanes) = s.faulted m (faultOf address dir width reason) := by
  unfold State.takeAccess
  rw [h]
  rfl

theorem State.Meets.serve_refuse {s : State} {x : Transfer} {m : Master} {y : Aperture} {reason : FaultReason}
    (h : s.Meets x.master x.address m y)
    (hc : s.checkAccess m (dataAccess x.address x.dir x.width x.lanes) = .refuse reason) :
    s.serve x = s.faulted m (faultOf x.address x.dir x.width reason) :=
  h.serve.trans (State.takeAccess_refuse hc)

theorem State.takeAccess_retry {s : State} {m : Master} {x : DataAccess} (h : s.checkAccess m x = .retry) :
    s.takeAccess m x = s.respond .retry 0 := by
  unfold State.takeAccess
  rw [h]

/-- A read that passes the checks leaves the bytes on the data lines and nothing else (R143). -/
theorem State.takeAccess_read {s : State} {m : Master} {x : DataAccess} {r : RecordNo} {a : Nat}
    (h : s.checkAccess m x = .perform r a) (hx : x.dir = .read) :
    s.takeAccess m x = s.respond .ack (s.readData x a) := by
  unfold State.takeAccess
  rw [h, hx]

/-- A write that passes the checks stores its bytes and sets the written flag (R143, R144). -/
theorem State.takeAccess_write {s : State} {m : Master} {x : DataAccess} {r : RecordNo} {a : Nat}
    (h : s.checkAccess m x = .perform r a) (hx : x.dir = .write) :
    s.takeAccess m x = (s.writeData r x a).respond .ack 0 := by
  unfold State.takeAccess
  rw [h, hx]

/-- With no burst in flight the command serves its access at once; one that reads carries no data lines (R44). -/
theorem exec_dataCommand_free {s : State} {x : Transfer} (hfree : s.engine.step = none)
    (hwindow : s.InDataWindow x.address) :
    exec (dataCommand x) s = .next (s.serve { x with lanes := if x.dir = .read then 0 else x.lanes }) := by
  have hserve : ∀ y : Transfer, y.address = x.address → s.takeTransfer y = s.serve y := fun y hy =>
    (State.takeTransfer_decoded (hy ▸ hwindow.decodesData)).trans (State.reachPort_free hfree y)
  obtain ⟨master, address, dir, width, lanes⟩ := x
  cases dir with
  | read => exact congrArg Host.Outcome.next (hserve ⟨master, address, .read, width, 0⟩ rfl)
  | write => exact congrArg Host.Outcome.next (hserve ⟨master, address, .write, width, lanes⟩ rfl)

end Sys2Proof.Machine
end

section
/-! ### Bytes in their lanes (R143, R188) -/

namespace Sys2Proof.Machine

/-- The byte of one lane of a word that carries a byte in one lane only. -/
theorem lane_of_shifted (b : Byte) (i : Nat) {j : Nat} (hj : j < 4) :
    (b.setWidth 32 <<< (8 * i)).extractLsb' (8 * j) 8 = if j = i then b else 0 := by
  refine BitVec.eq_of_getLsbD_eq fun k hk => ?_
  have hword : 8 * j + k < 32 := by omega
  rw [BitVec.getLsbD_extractLsb', BitVec.getLsbD_shiftLeft, BitVec.getLsbD_setWidth, decide_eq_true hk,
    decide_eq_true hword]
  rcases Nat.lt_trichotomy j i with h | rfl | h
  · rw [if_neg (by omega), decide_eq_true (by omega : 8 * j + k < 8 * i)]
    simp
  · have hsame : 8 * j + k - 8 * j = k := by omega
    rw [if_pos rfl, hsame]
    simp [show k < 32 by omega]
  · rw [if_neg (by omega), BitVec.getLsbD_of_ge b _ (by omega)]
    simp

/-- A read has each of its bytes in the lane of its offset and zeros in the other lanes (R188). -/
theorem lane_of_readLanes (mem : Nat → Byte) (address lane n : Nat) {j : Nat} (hj : j < 4) :
    ((readLanes mem address lane n).extractLsb' (8 * j) 8 : Byte) =
      if lane ≤ j ∧ j < lane + n then mem (address + (j - lane)) else 0 := by
  induction n with
  | zero =>
    rw [if_neg (by omega)]
    exact BitVec.extractLsb'_zero
  | succ n ih =>
    rw [readLanes, BitVec.extractLsb'_or, ih, lane_of_shifted _ _ hj]
    by_cases hlast : j = lane + n
    · rw [if_neg (by omega), if_pos hlast, if_pos (by omega), hlast, Nat.add_sub_cancel_left]
      exact BitVec.zero_or
    · rw [if_neg hlast]
      exact BitVec.or_zero.trans (if_congr (by omega) rfl rfl)

/-- A write has stored the byte of each lane at its address (R143, R188). -/
theorem read_storeLanes_inside {mem : Memory} (h : mem.wf = true) (lanes : Word) (address lane n a : Nat)
    (h1 : address ≤ a) (h2 : a < address + n) :
    (storeLanes mem lanes address lane n).read a = lanes.extractLsb' (8 * (lane + (a - address))) 8 := by
  induction n with
  | zero => omega
  | succ n ih =>
    rw [storeLanes, Memory.read_write (wf_storeLanes h _ _ _ _)]
    by_cases hlast : a = address + n
    · rw [if_pos hlast, laneByte, show a - address = n by omega]
    · rw [if_neg hlast]
      exact ih (by omega)

/-- An aligned access ends in the word it begins in (R128, R188). -/
theorem lanes_fit {w : Width} {offset : Nat} (h : offset % widthBytes w = 0) : offset % 4 + widthBytes w ≤ 4 := by
  cases w <;> simp only [widthBytes] at h ⊢ <;> omega

end Sys2Proof.Machine
end

section
/-! ### Data accesses that are performed, and those that are refused (R137 to R145) -/

namespace Sys2Proof.Machine

/-- Settles O28: a read fails neither check 5 nor check 6, and its bytes stand in their lanes. -/
theorem dataReadReturnsTheLease : Obligations.DataReadReturnsTheLease := by
  intro s master address width m r a h
  have hchecks : s.checkAccess m (dataAccess address .read width 0) = .perform r a := by
    rw [h.checkAccess, if_neg (fun c => nomatch c.1), if_neg (fun c => nomatch c.1)]
  have hserve : s.serve { master := master, address := address, dir := .read, width := width, lanes := 0 } =
      s.respond .ack (s.readData (dataAccess address .read width 0) a) :=
    (State.Reaches.serve h).trans (State.takeAccess_read hchecks rfl)
  refine ⟨_, hserve, fun hfree => ?_, fun j hj => lane_of_readLanes _ _ _ _ hj⟩
  exact (exec_dataCommand_free (x := ⟨master, address, .read, width, 0⟩) hfree h.inDataWindow).trans
    (congrArg Host.Outcome.next hserve)

/-- Settles O29: checks 5 and 6 pass, and the bytes stored are those of the access. -/
theorem dataWriteStoresInTheLease : Obligations.DataWriteStoresInTheLease := by
  intro s master address width lanes m r a h hmode hstill hsram
  have hchecks : s.checkAccess m (dataAccess address .write width lanes) = .perform r a := by
    rw [h.checkAccess, if_neg (fun c => c.2 hmode), if_neg (fun c => hstill c.2)]
  have hserve : s.serve { master := master, address := address, dir := .write, width := width, lanes := lanes } =
      (s.writeData r (dataAccess address .write width lanes) a).respond .ack 0 :=
    (State.Reaches.serve h).trans (State.takeAccess_write hchecks rfl)
  refine ⟨_, hserve, fun hfree => ?_, rfl, fun x => ?_⟩
  · exact (exec_dataCommand_free (x := ⟨master, address, .write, width, lanes⟩) hfree h.inDataWindow).trans
      (congrArg Host.Outcome.next hserve)
  · show (storeLanes s.sram lanes a (offsetOf address % 4) (widthBytes width)).read x = _
    split
    · next hx => exact read_storeLanes_inside hsram _ _ _ _ _ hx.1 hx.2
    · next hx => exact read_storeLanes hsram _ _ _ _ _ hx

/-- Settles O30: the six grounds of refusal, each with the check it fails. -/
theorem dataAccessIsRefusedInOrder : Obligations.DataAccessIsRefusedInOrder := by
  intro s t x h
  suffices hserve : s.InDataWindow x.address ∧ ∀ w, s.serve { x with lanes := w } = t from
    ⟨hserve.2 x.lanes, fun hfree =>
      (exec_dataCommand_free hfree hserve.1).trans (congrArg Host.Outcome.next (hserve.2 _))⟩
  rcases h with ⟨hwindow, hnumber, rfl⟩ | ⟨m, hmeets, rfl⟩ | ⟨m, handle, reason, hmeets, rfl⟩ |
    ⟨m, handle, r, hmeets, hnames, hrange, rfl⟩ | ⟨m, r, a, hreaches, hwrite, hmode, rfl⟩ |
    ⟨m, r, a, hreaches, hwrite, hmode, hmoving, rfl⟩
  · exact ⟨hwindow, fun w => State.serve_noMaster (x := { x with lanes := w }) hnumber⟩
  · exact ⟨hmeets.toInDataWindow, fun w => State.Meets.serve_refuse (x := { x with lanes := w }) hmeets
      (State.checkAccess_unbound (hmeets.aperture_eq x.dir x.width w))⟩
  · exact ⟨hmeets.toInDataWindow, fun w => State.Meets.serve_refuse (x := { x with lanes := w }) hmeets
      (State.checkAccess_lost (hmeets.aperture_eq x.dir x.width w))⟩
  · exact ⟨hmeets.toInDataWindow, fun w => State.Meets.serve_refuse (x := { x with lanes := w }) hmeets
      ((State.checkAccess_bound (hmeets.aperture_eq x.dir x.width w) hnames).trans
        (State.checkLease_range (Lease.reach_eq_none hrange)))⟩
  · obtain ⟨handle, hmeets, -⟩ := hreaches.bound
    exact ⟨hreaches.inDataWindow, fun w => State.Meets.serve_refuse (x := { x with lanes := w }) hmeets
      ((hreaches.checkAccess x.dir w).trans (if_pos ⟨hwrite, hmode⟩))⟩
  · exact ⟨hreaches.inDataWindow, fun w => (State.Reaches.serve (x := { x with lanes := w }) hreaches).trans
      (State.takeAccess_retry ((hreaches.checkAccess x.dir w).trans
        ((if_neg fun c => c.2 hmode).trans (if_pos ⟨hwrite, hmoving⟩))))⟩

end Sys2Proof.Machine
end

section
/-! ### What a take leaves of the masters' posts (R151, R154)

A command other than a mailbox write reaches the state and the REQ word of a mailbox only when it answers a take. -/

namespace Sys2Proof.Machine

/-- The state and the REQ word of every mailbox. -/
def State.posts (s : State) (m : Master) : PostState × Word := ((s.mailbox m).state, (s.mailbox m).req)

/-! #### Changes that the posts do not see -/

theorem State.posts_of_mailboxes {s t : State} (h : t.mailboxes = s.mailboxes) : t.posts = s.posts := by
  unfold State.posts State.mailbox
  rw [h]

theorem State.posts_setMailbox {s : State} {m : Master} {b : Mailbox} (state : b.state = (s.mailbox m).state)
    (req : b.req = (s.mailbox m).req) : (s.setMailbox m b).posts = s.posts := by
  funext m'
  unfold State.posts
  rw [State.mailbox_setMailbox]
  split
  · next e => rw [← e, state, req]
  · rfl

theorem State.posts_foldl {β : Type} {f : State → β → State} (h : ∀ s b, (f s b).posts = s.posts) (l : List β)
    (s : State) : (l.foldl f s).posts = s.posts :=
  List.foldlRecOn (motive := fun u : State => u.posts = s.posts) _ _ rfl fun u hu b _ => (h u b).trans hu

section
variable (s : State)

@[simp] theorem State.posts_setLease (r : RecordNo) (l : Lease) : (s.setLease r l).posts = s.posts := rfl
@[simp] theorem State.posts_wakeEngine : s.wakeEngine.posts = s.posts :=
  State.posts_of_mailboxes s.wakeEngine_mailboxes

@[simp] theorem State.posts_scrubRun (run : Option Run) : (s.scrubRun run).posts = s.posts := by
  cases run <;> rfl

@[simp] theorem State.posts_allocate (run : Run) (x : BlockState) : (s.allocate run x).posts = s.posts := by
  obtain ⟨p, v, e⟩ := s.allocate_frame run x
  exact State.posts_of_mailboxes (by rw [e])

@[simp] theorem State.posts_addOwnedBy (owner : Option Master) (leases blocks : Nat) :
    (s.addOwnedBy owner leases blocks).posts = s.posts := by
  cases owner <;> rfl

@[simp] theorem State.posts_dropOwnedBy (owner : Option Master) (leases blocks : Nat) :
    (s.dropOwnedBy owner leases blocks).posts = s.posts := by
  cases owner <;> rfl

/-! #### Notices write a record and a flag -/

@[simp] theorem State.posts_raise (m : Master) (f : EventFlag) : (s.raise m f).posts = s.posts :=
  State.posts_setMailbox rfl rfl

@[simp] theorem State.posts_endWait (m : Master) (record : WaitRecord) : (s.endWait m record).posts = s.posts :=
  State.posts_setMailbox rfl rfl

@[simp] theorem State.posts_endMove (m : Master) (record : MoveRecord) : (s.endMove m record).posts = s.posts :=
  State.posts_setMailbox rfl rfl

@[simp] theorem State.posts_lostNotice (m : Master) (h : Handle) : (s.lostNotice m h).posts = s.posts :=
  State.posts_setMailbox rfl rfl

/-! #### The shared operations -/

@[simp] theorem State.posts_grantPass (r : RecordNo) : (s.grantPass r).posts = s.posts := by
  refine State.posts_foldl (fun u e => ?_) (s.grantable r) s
  exact State.posts_endWait _ e.master _

@[simp] theorem State.posts_removeEntry (e : WaitEntry) : (s.removeEntry e).posts = s.posts := by
  unfold State.removeEntry
  dsimp only
  split
  · split
    · exact State.posts_grantPass _ _
    · rfl
  · rfl

@[simp] theorem State.posts_abandonMove (r : RecordNo) (reason : MoveReason) :
    (s.abandonMove r reason).posts = s.posts :=
  (State.posts_foldl (fun u m => u.posts_endMove m _) _ _).trans (s.posts_scrubRun _)

@[simp] theorem State.posts_withdrawWaiters (h : Handle) : (s.withdrawWaiters h).posts = s.posts := by
  refine State.posts_foldl (fun u e => ?_) (s.entriesFor h) s
  exact u.posts_endWait e.master _

@[simp] theorem State.posts_retireApertures (r : RecordNo) (cause : RetireCause) :
    (s.retireApertures r cause).posts = s.posts := by
  cases cause with
  | emptied => rfl
  | byOwner =>
    unfold State.retireApertures
    dsimp only
    split <;> rfl
  | revoked => exact State.posts_foldl (fun u m => u.posts_lostNotice m _) _ _

@[simp] theorem State.posts_retire (r : RecordNo) (cause : RetireCause) : (s.retire r cause).posts = s.posts := by
  have hmove : (s.retireMove r).posts = s.posts := by
    unfold State.retireMove
    split
    · exact s.posts_abandonMove r .revoked
    · rfl
  unfold State.retire State.freeRecord
  simp only [State.posts_setLease, State.posts_dropOwnedBy, State.posts_scrubRun, State.posts_retireApertures,
    State.posts_withdrawWaiters, hmove]

@[simp] theorem State.posts_settle (r : RecordNo) : (s.settle r).posts = s.posts := by
  rcases s.settle_cases r with ⟨e, -⟩ | ⟨-, -, e | e⟩
  · rw [e]
  · rw [e, State.posts_setLease]
  · rw [e, State.posts_retire]

/-- The ending of a session tells masters, and posts nothing for them (R53 to R57). -/
@[simp] theorem State.posts_endSession (m : Master) (reason : EndReason) : (s.endSession m reason).posts = s.posts := by
  have h1 : (s.endStage1 m).posts = s.posts := by
    unfold State.endStage1
    split
    · exact s.posts_removeEntry _
    · rfl
  have h2 : ((s.endStage1 m).endStage2 m).posts = s.posts := by
    unfold State.endStage2
    split
    · split
      · exact (State.posts_abandonMove _ _ _).trans h1
      · exact h1
    · exact h1
  have hhold : ∀ u r, (State.endHold m u r).posts = u.posts := by
    intro u r
    unfold State.endHold State.leave State.removeHolder
    split
    · rw [State.posts_settle, State.posts_grantPass, State.posts_setLease]
    · rfl
  have h5 : (((((s.endStage1 m).endStage2 m).endStage3 m).unbindMaster m).closeSession m reason).posts = s.posts :=
    (State.posts_foldl hhold allRecords _).trans h2
  unfold State.endSession State.endNotices
  split
  · exact (State.posts_raise _ m .sessionEnd).trans h5
  · exact (State.posts_raise _ m .sessionEnd).trans h5
  · exact h5

end

end Sys2Proof.Machine
end

section
/-! ### What each request does before its answer leaves of the posts (R154) -/

namespace Sys2Proof.Machine

/-- What carries a request out before it is answered. -/
def bodyOfRequest : Request → State → Master → State × Answer
  | .openSession => openBody
  | .renew => withSession renewBody
  | .close => closeBody
  | .create => withSession createBody
  | .find => withSession findBody
  | .query => withSession (withLease queryBody)
  | .mark => withSession (withLease markBody)
  | .retire => withSession (withLease retireBody)
  | .acquire => withSession (withLease acquireBody)
  | .release => withSession (withLease releaseBody)
  | .convert => withSession (withLease convertBody)
  | .cancel => withSession cancelBody
  | .resize => withSession (withLease resizeBody)
  | .bind => withSession (withLease bindBody)
  | .unbind => withSession unbindBody
  | .undefined => withSession undefinedBody

theorem exec_takeOfRequest (q : Request) (s : State) :
    exec (takeOfRequest q) s = takeRequest q (bodyOfRequest q) s := by
  cases q <;> rfl

theorem withSession_posts {carryOut : State → Master → State × Answer}
    (h : ∀ s m, (carryOut s m).1.posts = s.posts) (s : State) (m : Master) :
    (withSession carryOut s m).1.posts = s.posts := by
  unfold withSession
  split
  · exact h (s.renew m) m
  · rfl

theorem withLease_posts {carryOut : State → Master → RecordNo → State × Answer}
    (h : ∀ s m r, (carryOut s m r).1.posts = s.posts) (s : State) (m : Master) :
    (withLease carryOut s m).1.posts = s.posts := by
  unfold withLease
  split
  · exact h s m _
  · rfl

variable (s : State) (m : Master) (r : RecordNo)

theorem openBody_posts : (openBody s m).1.posts = s.posts := by
  have hrenew : (s.renewIfOpen m).posts = s.posts := by
    unfold State.renewIfOpen
    split <;> rfl
  unfold openBody
  dsimp only
  split
  · exact hrenew
  · split
    · exact hrenew
    · split
      · exact (State.posts_wakeEngine _).trans (s.posts_endSession m .reopened)
      · rfl

theorem closeBody_posts : (closeBody s m).1.posts = s.posts := by
  unfold closeBody
  split
  · exact (State.posts_wakeEngine _).trans (s.posts_endSession m .closed)
  · rfl

theorem createBody_posts : (createBody s m).1.posts = s.posts := by
  unfold createBody
  dsimp only
  split
  · rfl
  · split
    · rfl
    · split
      · rfl
      · split
        · rfl
        · split
          · rfl
          · split
            · rfl
            · exact s.posts_allocate _ _

theorem findBody_posts : (findBody s m).1.posts = s.posts := by
  unfold findBody
  dsimp only
  repeat' split
  all_goals rfl

theorem markBody_posts : (markBody s m r).1.posts = s.posts := by
  unfold markBody
  dsimp only
  repeat' split
  all_goals rfl

theorem retireBody_posts : (retireBody s m r).1.posts = s.posts := by
  unfold retireBody
  dsimp only
  split
  · rfl
  · split
    · rfl
    · split
      · exact (State.posts_wakeEngine _).trans (s.posts_retire r .byOwner)
      · rfl

theorem acquireBody_posts : (acquireBody s m r).1.posts = s.posts := by
  unfold acquireBody
  dsimp only
  repeat' split
  all_goals rfl

/-- Stages 1 to 4 of RELEASE tell masters of the move and of the cancelled UPGRADE (R89, R90). -/
theorem State.posts_releaseUpToPass : (s.releaseUpToPass m r).posts = s.posts := by
  have hmove : (s.releaseMove r).posts = s.posts := by
    unfold State.releaseMove
    split
    · exact s.posts_abandonMove r .released
    · rfl
  have hcancel : ((s.releaseMove r).cancelUpgrade m (s.handle r)).posts = s.posts := by
    unfold State.cancelUpgrade
    split
    · split
      · exact (State.posts_endWait _ _ _).trans hmove
      · exact hmove
    · exact hmove
  exact hcancel

theorem releaseBody_posts : (releaseBody s m r).1.posts = s.posts := by
  unfold releaseBody
  split
  · rfl
  · dsimp only
    rw [State.posts_wakeEngine, State.posts_settle, State.posts_grantPass, State.posts_releaseUpToPass]

theorem queuedUpgrade_posts (limit : Nat) : (queuedUpgrade s m r limit).1.posts = s.posts := by
  unfold queuedUpgrade
  repeat' split
  all_goals rfl

theorem convertBody_posts : (convertBody s m r).1.posts = s.posts := by
  unfold convertBody
  dsimp only
  split
  · rfl
  · split
    · rfl
    · split
      · rfl
      · split
        · rfl
        · split
          · exact State.posts_grantPass _ r
          · split
            · rfl
            · exact queuedUpgrade_posts s m r _

theorem cancelBody_posts : (cancelBody s m).1.posts = s.posts := by
  unfold cancelBody
  split
  · rfl
  · exact s.posts_removeEntry _

theorem growBody_posts (dir : Direction) (run : Run) (len : Nat) : (growBody s r dir run len).1.posts = s.posts := by
  unfold growBody growByMove
  split
  · rfl
  · split
    · exact (State.posts_addOwnedBy _ _ _ _).trans (s.posts_allocate _ _)
    · split
      · rfl
      · split
        · rfl
        · exact (State.posts_wakeEngine _).trans (s.posts_allocate _ _)

theorem resizeBody_posts : (resizeBody s m r).1.posts = s.posts := by
  unfold resizeBody
  dsimp only
  split
  · rfl
  · split
    · rfl
    · split
      · rfl
      · split
        · split
          · rfl
          · split
            · exact (State.posts_wakeEngine _).trans (State.posts_dropOwnedBy _ _ _ _)
            · exact growBody_posts s r _ _ _
        · rfl

theorem bindBody_posts : (bindBody s m r).1.posts = s.posts := by
  unfold bindBody
  dsimp only
  split <;> rfl

/-- Carrying a request out leaves the state and the REQ word of every mailbox. -/
theorem bodyOfRequest_posts (q : Request) : (bodyOfRequest q s m).1.posts = s.posts := by
  cases q with
  | openSession => exact openBody_posts s m
  | close => exact closeBody_posts s m
  | renew => exact withSession_posts (fun _ _ => rfl) s m
  | undefined => exact withSession_posts (fun _ _ => rfl) s m
  | unbind => exact withSession_posts (fun _ _ => rfl) s m
  | create => exact withSession_posts createBody_posts s m
  | find => exact withSession_posts findBody_posts s m
  | cancel => exact withSession_posts cancelBody_posts s m
  | query => exact withSession_posts (withLease_posts fun _ _ _ => rfl) s m
  | mark => exact withSession_posts (withLease_posts markBody_posts) s m
  | retire => exact withSession_posts (withLease_posts retireBody_posts) s m
  | acquire => exact withSession_posts (withLease_posts acquireBody_posts) s m
  | release => exact withSession_posts (withLease_posts releaseBody_posts) s m
  | convert => exact withSession_posts (withLease_posts convertBody_posts) s m
  | resize => exact withSession_posts (withLease_posts resizeBody_posts) s m
  | bind => exact withSession_posts (withLease_posts bindBody_posts) s m

end Sys2Proof.Machine
end

section
/-! ### The order of service, and the session check (R50, R155 to R157) -/

namespace Sys2Proof.Machine

/-- Two masters are at different places of the count. -/
theorem State.place_injective (s : State) : Function.Injective s.place := by
  intro m m' h
  have := Fin.ext h
  simpa using this

/-- A count that starts after a master has lost that master and every one before it (R155). -/
theorem State.place_setLastServed {s : State} {m m' : Master} (h : s.place m' < s.place m) :
    (s.setLastServed m').place m + s.place m' + 1 = s.place m := by
  unfold State.place at *
  rw [State.setLastServed_lastServed]
  have hle : m' - s.lastServed - 1 ≤ m - s.lastServed - 1 := h.le
  have hgap : m - m' = (m - s.lastServed - 1) - (m' - s.lastServed - 1) := by abel
  have hne : m - m' ≠ 0 := fun c => by
    rw [sub_eq_zero.1 c] at h
    exact lt_irrefl _ h
  have hval := Fin.val_sub_one_of_ne_zero hne
  rw [hgap, Fin.sub_val_of_le hle] at hval
  rw [hgap, hval]
  omega

/-- Settles O4: every master that waits is behind the one that is taken, from which the count starts anew. -/
theorem everyTakeBringsAWaitingMasterNearer : Obligations.EveryTakeBringsAWaitingMasterNearer := by
  intro s t m m' q h hne hposted ht
  rw [exec_takeOfRequest, takeRequest_takes h] at ht
  cases ht
  have hbehind : s.place m' < s.place m :=
    lt_of_le_of_ne (h.first m hposted) fun c => hne (s.place_injective c).symm
  have hnearer := State.place_setLastServed hbehind
  have hpost := congrFun (bodyOfRequest_posts s m' q) m
  have hmail := State.answer_mailbox_other (bodyOfRequest q s m').1 hne (bodyOfRequest q s m').2
  obtain ⟨hstate, hreq⟩ := Prod.mk.inj hpost
  rw [hmail]
  refine ⟨?_, hstate.trans hposted, hreq⟩
  show (s.setLastServed m').place m < s.place m
  omega

/-- Every request but OPEN checks the session first (R50). -/
theorem bodyOfRequest_closed {s : State} {m : Master} {q : Request} (hq : q ≠ .openSession) (h : ¬ s.Open m) :
    bodyOfRequest q s m = (s, { code := .noSession }) := by
  cases q with
  | openSession => exact absurd rfl hq
  | close => exact if_neg (by simpa [State.isOpen, State.Open] using h)
  | renew | create | find | query | mark | retire | acquire | release | convert | cancel | resize | bind | unbind
  | undefined => exact withSession_closed h _

/-- Settles O2. -/
theorem sessionCheckComesFirst : Obligations.SessionCheckComesFirst := by
  refine ⟨fun s m q hq h hclosed => ?_, fun s m h hopen => ?_, fun s m h hopen => ?_, rfl⟩
  · rw [exec_takeOfRequest, takeRequest_takes h, bodyOfRequest_closed hq hclosed]
    rfl
  · exact takeRequest_answers (carryOut := renewBody) h hopen rfl
  · exact takeRequest_answers (carryOut := undefinedBody) h hopen rfl

end Sys2Proof.Machine
end

section
/-! ### Writes and refused accesses of the control space (R148 to R152, R161 to R163) -/

namespace Sys2Proof.Machine

/-- The card with a mailbox written by its master and the write acknowledged. -/
def State.mailWritten (s : State) (m : Master) (b : Mailbox) : State := (s.setMailbox m b).respond .ack 0

section
variable (s : State) (m : Master) (value : Word)

theorem exec_reqWrite : exec (.reqWrite m value) s = .next (s.mailWritten m ((s.mailbox m).writeReq value)) := rfl

theorem exec_paramWrite (which : ParamWord) :
    exec (.paramWrite m which value) s = .next (s.mailWritten m ((s.mailbox m).writeParam which value)) := rfl

theorem exec_eventsWrite :
    exec (.eventsWrite m value) s = .next (s.mailWritten m ((s.mailbox m).clearEvents value)) := rfl

theorem exec_eventEnableWrite :
    exec (.eventEnableWrite m value) s = .next (s.mailWritten m { s.mailbox m with enables := value.setWidth 8 }) := rfl

@[simp] theorem State.mailWritten_mailbox_self (b : Mailbox) : (s.mailWritten m b).mailbox m = b :=
  Table.get_set_self _ _ _

/-- The lines of the other masters are as they were. -/
theorem State.mailWritten_atn_other {m m' : Master} (h : m' ≠ m) (b : Mailbox) :
    (s.mailWritten m b).atn m' = s.atn m' :=
  congrArg Mailbox.attention ((s.mailbox_setMailbox m m' b).trans (if_neg h.symm))

end

/-! #### Posts and parameter words -/

section
variable {b : Mailbox} (value : Word) (which : ParamWord)

theorem Mailbox.writeReq_dropped (h : b.state = .pending) : b.writeReq value = b.raise .requestLost := if_pos h

theorem Mailbox.writeReq_posted (h : b.state ≠ .pending) : b.writeReq value = b.post value := if_neg h

theorem Mailbox.writeParam_dropped (h : b.state = .pending) : b.writeParam which value = b.raise .requestLost :=
  if_pos h

theorem Mailbox.writeParam_stored (h : b.state ≠ .pending) : b.writeParam which value = b.storeParam which value :=
  if_neg h

end

/-- Settles O25: a PENDING mailbox drops the write, and any other stores it. -/
theorem mailboxWritesPostOrAreDropped : Obligations.MailboxWritesPostOrAreDropped := by
  intro s m value
  refine ⟨fun h => ⟨?_, ?_, ?_⟩, fun h c hc => ?_⟩
  · rw [exec_reqWrite, Mailbox.writeReq_posted value h]; rfl
  · rw [exec_paramWrite, Mailbox.writeParam_stored value .param1 h]; rfl
  · rw [exec_paramWrite, Mailbox.writeParam_stored value .param2 h]; rfl
  · have hdropped : exec c s = .next (s.mailWritten m ((s.mailbox m).raise .requestLost)) := by
      simp only [List.mem_cons, List.not_mem_nil, or_false] at hc
      obtain rfl | rfl | rfl := hc
      · rw [exec_reqWrite, Mailbox.writeReq_dropped value h]
      · rw [exec_paramWrite, Mailbox.writeParam_dropped value .param1 h]
      · rw [exec_paramWrite, Mailbox.writeParam_dropped value .param2 h]
    exact hdropped

/-! #### Event flags, enables and ATN -/

/-- The attention line is driven while a flag is set with its enable (R162). -/
theorem Mailbox.attention_iff (b : Mailbox) :
    b.attention = true ↔ ∃ k, k < 8 ∧ b.events.getLsbD k = true ∧ b.enables.getLsbD k = true := by
  have hzero : b.events &&& b.enables = 0 ↔ ∀ k, k < 8 → (b.events &&& b.enables).getLsbD k = false :=
    ⟨fun h k _ => h ▸ BitVec.getLsbD_zero,
      fun h => BitVec.eq_of_getLsbD_eq fun k hk => (h k hk).trans BitVec.getLsbD_zero.symm⟩
  unfold Mailbox.attention
  rw [bne_iff_ne, Ne, hzero]
  simp

/-- A flag outlives a write of EVENTS that has 1 at its position (R161). -/
theorem Mailbox.clearEvents_flag (b : Mailbox) (value : Word) {k : Nat} (hk : k < 8) :
    (b.clearEvents value).events.getLsbD k = (b.events.getLsbD k && value.getLsbD k) := by
  show (b.events &&& value.setWidth 8).getLsbD k = _
  rw [BitVec.getLsbD_and, BitVec.getLsbD_setWidth, decide_eq_true hk, Bool.true_and]

theorem Mailbox.clearEvents_lostRecord (b : Mailbox) (value : Word) :
    (b.clearEvents value).lostRecord = if value.getLsbD 3 then b.lostRecord else { handle := 0, count := 0 } := by
  have hbit : (value.setWidth 8).getLsbD EventFlag.lost.position = value.getLsbD 3 :=
    BitVec.getLsbD_setWidth ..
  show (if (value.setWidth 8).getLsbD EventFlag.lost.position then b.lostRecord else _) = _
  rw [hbit]

/-- Settles O26. -/
theorem eventWritesDriveAttention : Obligations.EventWritesDriveAttention := by
  intro s m value
  refine ⟨⟨_, exec_eventsWrite s m value, ?_⟩, _, exec_eventEnableWrite s m value, ?_⟩
  · have hatn := Mailbox.attention_iff ((s.mailbox m).clearEvents value)
    simp only [State.atn, State.mailWritten_mailbox_self]
    exact ⟨fun k hk => Mailbox.clearEvents_flag _ value hk, Mailbox.clearEvents_lostRecord _ value, rfl, hatn,
      fun m' h => s.mailWritten_atn_other h _⟩
  · have hbit : ∀ k, k < 8 → (value.setWidth 8).getLsbD k = value.getLsbD k := fun k hk => by
      rw [BitVec.getLsbD_setWidth, decide_eq_true hk, Bool.true_and]
    have hatn := Mailbox.attention_iff { s.mailbox m with enables := value.setWidth 8 }
    simp only [State.atn, State.mailWritten_mailbox_self]
    refine ⟨hbit, rfl, hatn.trans ?_, fun m' h => s.mailWritten_atn_other h _⟩
    exact exists_congr fun k => and_congr_right fun hk => by rw [hbit k hk]

/-! #### Writes that are ignored, and accesses that are refused -/

/-- Software may write PARAM1, PARAM2, REQ, EVENTS and EVENT_ENABLE only (R150). -/
theorem controlWord_not_writable {offset : BitVec 22} (h : offset.toNat ∉ [0x000, 0x004, 0x008, 0x018, 0x01C]) :
    (controlWord offset).writable = false := by
  simp only [List.mem_cons, List.not_mem_nil, or_false, not_or] at h
  obtain ⟨hparam1, hparam2, hreq, hevents, henable⟩ := h
  unfold controlWord
  split
  case h_1 | h_2 | h_3 | h_7 | h_8 => contradiction
  all_goals rfl

/-- The window's size is a multiple of 4, so an offset is aligned where its address is (R148). -/
theorem spaceOffset_mod_four (address : BitVec 32) : (spaceOffset address).toNat % 4 = address.toNat % 4 := by
  unfold spaceOffset
  rw [BitVec.extractLsb'_toNat, Nat.shiftRight_zero]
  exact Nat.mod_mod_of_dvd _ (by decide)

/-- The grounds on which a control-space access is refused (R148, R149). -/
theorem controlRefused_iff (master : BitVec 4) (offset : BitVec 22) (width : Width) :
    controlRefused master offset width = true ↔ 12 ≤ master.toNat ∨ width ≠ .word ∨ offset.toNat % 4 ≠ 0 := by
  unfold controlRefused
  simp only [Bool.or_eq_true, decide_eq_true_eq, bne_iff_ne, or_assoc]

/-- Settles O27. -/
theorem controlSpaceIgnoresOrRefuses : Obligations.ControlSpaceIgnoresOrRefuses := by
  refine ⟨fun s m offset value haligned hword => ?_, fun s master address dir width hbase hspace hground => ?_⟩
  · have hignored : (IgnoredWrite.control m offset value).wellFormed = true := by
      show (offset.toNat % 4 == 0 && !(controlWord offset).writable) = true
      rw [haligned, controlWord_not_writable hword]
      rfl
    exact if_pos hignored
  · rw [← spaceOffset_mod_four] at hground
    exact if_pos ⟨hbase, hspace, (controlRefused_iff master (spaceOffset address) width).2 hground⟩

end Sys2Proof.Machine
end

section
/-! ### EVICT (R58, R183) -/

namespace Sys2Proof.Machine

/-! #### The end of a supervisor command (R181) -/

/-- No lease, entry or mailbox sees the answer to a supervisor command. -/
theorem State.Winds.commandDone {s t : State} {R : RecordNo → Prop} (h : t.Winds s R) (code : AnswerCode) :
    (t.commandDone code).Winds s R :=
  h.of_mailboxes rfl rfl rfl rfl rfl

theorem State.Rests.commandDone (s : State) (code : AnswerCode) : (s.commandDone code).Rests s := .of_eq rfl rfl

/-! #### The notices of an eviction (R57, R58) -/

theorem State.raise_told (s : State) (m : Master) (f : EventFlag) :
    ((s.raise m f).mailbox m).events.getLsbD f.position = true := by
  have hbox : (s.raise m f).mailbox m = (s.mailbox m).raise f := (s.mailbox_setMailbox m m _).trans (if_pos rfl)
  rw [hbox, Mailbox.raise_flag, decide_eq_true rfl, Bool.or_true]

theorem State.endSession_evicted_told (s : State) (m : Master) :
    ((s.endSession m .evicted).mailbox m).events.getLsbD 4 = true :=
  State.raise_told _ m .sessionEnd

theorem State.endSession_evicted_supervisor (s : State) (m : Master) :
    (s.endSession m .evicted).supervisor = s.supervisor :=
  (State.InSession.endStages s m).supervisor

/-! #### The take -/

/-- What EVICT does, by its parameter (R183). -/
theorem evictBody_badArg {s : State} (h : 12 ≤ s.slot.parameter.toNat) : evictBody s = (s, .badArg) :=
  dif_neg (Nat.not_lt.2 h)

theorem evictBody_master {s : State} {m : Master} (h : s.slot.parameter.toNat = m.val) :
    evictBody s = if s.isOpen m then ((s.endSession m .evicted).wakeEngine, .ok) else (s, .noSession) := by
  have hm : (⟨s.slot.parameter.toNat, h ▸ m.isLt⟩ : Master) = m := Fin.ext h
  unfold evictBody
  rw [dif_pos (h ▸ m.isLt), hm]

theorem exec_takeEvict {s : State} (h : s.TakesCommand .evict) :
    exec .takeEvict s = .next ((evictBody s).1.commandDone (evictBody s).2) :=
  takeSupervisor_takes h evictBody

/-- Settles O42: the two refusals, and the ending of the session with the answer in the slot. -/
theorem evictEndsTheSession : Obligations.EvictEndsTheSession := by
  intro s htakes
  refine ⟨fun hbad => ?_, fun m hm => ⟨fun hclosed => ?_, fun hopen law => ?_⟩⟩
  · rw [exec_takeEvict htakes, evictBody_badArg hbad]
  · rw [exec_takeEvict htakes, evictBody_master hm, if_neg fun c => hclosed ((s.isOpen_iff_open m).1 c)]
  obtain ⟨u, hu⟩ : ∃ u, u = (s.endSession m .evicted).wakeEngine := ⟨_, rfl⟩
  have hexec : exec .takeEvict s = .next (u.commandDone .ok) := by
    rw [exec_takeEvict htakes, evictBody_master hm, if_pos ((s.isOpen_iff_open m).2 hopen), hu]
  obtain ⟨hended, hpassed⟩ := law.endSession_ended (reason := .evicted)
    ((State.Winds.refl _ _).commandDone .ok) (.commandDone _ .ok)
  rw [← hu] at hended hpassed
  have hsession : (u.commandDone .ok).session m = (s.endSession m .evicted).session m :=
    hu ▸ State.wakeEngine_session _ m
  have hmailbox : (u.commandDone .ok).mailbox m = (s.endSession m .evicted).mailbox m :=
    hu ▸ State.wakeEngine_mailbox _ m
  have hslot : u.slot = s.slot := by rw [hu, State.wakeEngine_slot, State.endSession_slot]
  have hsupervisor : u.supervisor = s.supervisor := by
    rw [hu, State.wakeEngine_supervisor, s.endSession_evicted_supervisor]
  have hserved : u.lastServed = s.lastServed := by rw [hu, State.wakeEngine_lastServed, State.endSession_lastServed]
  obtain ⟨hstate, hreq⟩ := Prod.mk.inj (congrFun (s.posts_endSession m .evicted) m)
  refine ⟨_, hexec, hended, ?_⟩
  rw [hsession, hmailbox, s.endSession_session_self m .evicted, ← hslot, ← hsupervisor]
  exact ⟨rfl, rfl, rfl, rfl, s.endSession_evicted_told m, hstate, hreq, rfl, rfl, hserved, hpassed⟩

end Sys2Proof.Machine
end

section
/-! ### RESET-ALL and undefined supervisor commands (R181, R184) -/

namespace Sys2Proof.Machine

open Host (Outcome)

/-! #### Sessions and mailboxes (R62, R166) -/

theorem Session.resetAll_opened {x : Session} (h : x.state = .opened) : x.resetAll =
    { x with state := .closed, remaining := 0, endReason := .reset, ownedLeases := 0, ownedBlocks := 0 } := if_pos h

theorem Session.resetAll_closed {x : Session} (h : x.state ≠ .opened) :
    x.resetAll = { x with ownedLeases := 0, ownedBlocks := 0 } := if_neg h

theorem Session.resetAll_state (x : Session) : x.resetAll.state = .closed := by
  cases h : x.state with
  | opened => rw [x.resetAll_opened h]
  | closed => rw [x.resetAll_closed (by rw [h]; decide), h]

theorem resetAllMailbox_opened {x : Session} (b : Mailbox) (h : x.state = .opened) :
    resetAllMailbox x b = (Mailbox.cleared b.enables).raise .sessionEnd := if_pos h

theorem resetAllMailbox_closed {x : Session} (b : Mailbox) (h : x.state ≠ .opened) :
    resetAllMailbox x b = Mailbox.cleared b.enables := if_neg h

theorem resetAllMailbox_events (x : Session) (b : Mailbox) :
    (resetAllMailbox x b).events = if x.state = .opened then 0x10#8 else 0 := by
  split
  · next h =>
    rw [resetAllMailbox_opened b h]
    show 0 ||| EventFlag.sessionEnd.mask = 0x10#8
    decide
  · next h => rw [resetAllMailbox_closed b h]; rfl

/-- A mailbox is cleared but for its enables and its flags (R166). -/
theorem resetAllMailbox_cleared (x : Session) (b : Mailbox) :
    resetAllMailbox x b = { Mailbox.cleared b.enables with events := (resetAllMailbox x b).events } := by
  by_cases h : x.state = .opened
  · rw [resetAllMailbox_opened b h]; rfl
  · rw [resetAllMailbox_closed b h]

/-! #### The engine (R40, R42) -/

theorem Engine.cutStep_idle {e : Engine} (s : State) (h : e.step = none) : e.cutStep s = none := by
  unfold Engine.cutStep
  rw [h]

theorem Engine.cutStep_scrub {e : Engine} (s : State) {b : Block} (h : e.step = some .scrub)
    (hb : e.scrubber.block = some b) : e.cutStep s = some (.cutScrub b e.scrubber.burstsDone) := by
  unfold Engine.cutStep
  rw [h, hb]
  rfl

theorem Engine.cutStep_copy {e : Engine} {s : State} {r : RecordNo} {dir : Direction} {run target : Run}
    (h : e.step = some .copy) (hr : e.mover.record = some r) (hrun : (s.lease r).run = some run)
    (htarget : (s.lease r).target = some target) (hdir : (s.lease r).direction = some dir) :
    e.cutStep s = some (.cutCopy (run.base + e.mover.blocksCopied)
      (pairedBlock dir run target e.mover.blocksCopied) e.mover.burstsDone) := by
  rw [← Lease.sourceBlock_eq hrun, ← Lease.targetBlock_eq hdir hrun htarget]
  unfold Engine.cutStep
  rw [h, hr]
  rfl

theorem Engine.cutStep_cut {e : Engine} (s : State) {cut : BlockStep}
    (hcut : (∃ b k, cut = .cutScrub b k) ∨ ∃ source target k, cut = .cutCopy source target k)
    (h : e.step = some cut) : e.cutStep s = some cut := by
  unfold Engine.cutStep
  rw [h]
  obtain ⟨b, k, rfl⟩ | ⟨source, target, k, rfl⟩ := hcut <;> rfl

/-- With no burst in flight the scrub of block 0 starts at once (R42). -/
theorem State.resetCleared_wake_idle {s : State} (h : s.engine.cutStep s = none) :
    s.resetCleared.wakeEngine.engine = Engine.scrubbingFromZero := by
  have hmover : ¬ s.resetCleared.MoverHasWork := fun ⟨_, hr, _⟩ => nomatch hr
  unfold State.wakeEngine
  rw [if_pos (show s.resetCleared.engine.step = none from h),
    State.chooseStep_scrub (show 0 < 512 by decide) (.inl hmover) s.resetCleared_allScrub.lowestScrub]
  rfl

/-- A burst in flight keeps its block step, and the rest of the engine is reset (R40, R42). -/
theorem State.resetCleared_wake_cut {s : State} {x : BlockStep} (h : s.engine.cutStep s = some x) :
    s.resetCleared.wakeEngine.engine = { Engine.atReset with step := some x } := by
  rw [State.wakeEngine_busy (s := s.resetCleared) (fun c => nomatch h.symm.trans c), ← h]
  rfl

/-- The move in flight is given up (R114, R184). -/
theorem State.resetCleared_wake_mover (s : State) :
    s.resetCleared.wakeEngine.engine.mover = { record := none, blocksCopied := 0, burstsDone := 0 } := by
  cases h : s.engine.cutStep s with
  | none => rw [State.resetCleared_wake_idle h]; rfl
  | some x => rw [State.resetCleared_wake_cut h]; rfl

/-! #### The takes -/

/-- The card after RESET-ALL, with the engine as its choice leaves it (R184). -/
def State.resetDone (s : State) (e : Engine) : State := ({ s.resetCleared with engine := e } : State).commandDone .ok

theorem exec_takeResetAll {s : State} (h : s.TakesCommand .resetAll) :
    exec .takeResetAll s = .next (s.resetDone s.resetCleared.wakeEngine.engine) := by
  have hwoken : s.resetCleared.wakeEngine = { s.resetCleared with engine := s.resetCleared.wakeEngine.engine } := by
    obtain ⟨e, he⟩ := s.resetCleared.wakeEngine_frame
    rw [he]
  refine (takeSupervisor_takes h resetAllBody).trans ?_
  show Outcome.next (s.resetCleared.wakeEngine.commandDone .ok) = _
  rw [hwoken]
  rfl

section
variable (s : State) (e : Engine)

theorem State.resetDone_session (m : Master) : (s.resetDone e).session m = (s.session m).resetAll :=
  Table.get_map _ _ _

theorem State.resetDone_mailbox (m : Master) :
    (s.resetDone e).mailbox m = resetAllMailbox (s.session m) (s.mailbox m) := Table.get_zipWith _ _ _ _

theorem State.resetDone_aperture (m : Master) (a : ApertureNo) : (s.resetDone e).aperture m a = .unbound := by
  show ((Table.replicate 12 (Table.replicate 4 Aperture.unbound)).get m).get a = _
  rw [Table.get_replicate, Table.get_replicate]

/-- Every flag is cleared, and then CMD_DONE is set (R181, R184). -/
theorem State.resetDone_supervisor : (s.resetDone e).supervisor = { s.supervisor with flags := 0x10#6 } :=
  congrArg (fun flags => { s.supervisor with flags := flags }) (BitVec.zero_or (x := 0x10#6))

theorem State.resetDone_allScrub : (s.resetDone e).AllScrub := ⟨rfl, rfl, rfl⟩

end

/-- Settles O43: the card as RESET-ALL clears it, with the block step that a burst in flight keeps or that starts at once. -/
theorem resetAllClearsTheCard : Obligations.ResetAllClearsTheCard := by
  refine ⟨fun s htakes => takeSupervisor_takes htakes undefinedSupervisorBody, fun s htakes => ?_⟩
  have hexec := exec_takeResetAll htakes
  have hmover := s.resetCleared_wake_mover
  have hidle := State.resetCleared_wake_idle (s := s)
  have hcut := fun x => State.resetCleared_wake_cut (s := s) (x := x)
  generalize s.resetCleared.wakeEngine.engine = e at hexec hmover hidle hcut
  have hkept : ∀ x, s.engine.cutStep s = some x →
      e.step = some x ∧ e.last = .mover ∧ e.scrubber = { block := none, burstsDone := 0 } := fun x hx => by
    rw [hcut x hx]
    exact ⟨rfl, rfl, rfl⟩
  refine ⟨s.resetDone e, hexec, fun r => Table.get_map _ _ r, rfl, fun m => ?_, fun m => ?_, fun m => ?_,
    s.resetDone_aperture e, fun b hb => ?_, rfl, rfl, rfl, rfl, hmover, fun hstep => ?_,
    fun b hstep hb => hkept _ (Engine.cutStep_scrub s hstep hb), fun r run target dir i hstep hr hrun htarget hdir hi => ?_,
    fun cut hkind hstep => hkept _ (Engine.cutStep_cut s hkind hstep), rfl, fun i => Table.get_replicate i _, rfl, rfl,
    rfl, s.resetDone_supervisor e, rfl, rfl, rfl, rfl, rfl⟩
  · rw [s.resetDone_session]
    by_cases ho : s.Open m
    · rw [Session.resetAll_opened ho]
      exact ⟨rfl, rfl, rfl, rfl, fun _ => ⟨rfl, rfl⟩, fun c => absurd ho c⟩
    · refine ⟨Session.resetAll_state _, ?_⟩
      rw [Session.resetAll_closed ho]
      exact ⟨rfl, rfl, rfl, fun c => absurd c ho, fun _ => rfl⟩
  · rw [s.resetDone_mailbox]
    exact resetAllMailbox_cleared _ _
  · rw [s.resetDone_mailbox]
    exact ⟨fun ho => (resetAllMailbox_events _ _).trans (if_pos ho),
      fun hc => (resetAllMailbox_events _ _).trans (if_neg hc)⟩
  · rw [(s.resetDone_allScrub e).block, if_pos hb]
  · rw [show (s.resetDone e).engine = e from rfl, hidle (Engine.cutStep_idle s hstep)]
    exact ⟨rfl, rfl⟩
  · rw [← hi]
    exact hkept _ (Engine.cutStep_copy hstep hr hrun htarget hdir)

end Sys2Proof.Machine
end

section
/-! ### REVOKE (R20 to R22, R135, R163, R182) -/

namespace Sys2Proof.MasterSet

theorem mem_members {set : MasterSet} {m : Master} : m ∈ set.members ↔ set.mem m = true := by
  unfold members
  rw [List.mem_filter]
  exact and_iff_right (Machine.mem_allMasters m)

theorem nodup_members (set : MasterSet) : set.members.Nodup := Machine.nodup_allMasters.filter _

end Sys2Proof.MasterSet

namespace Sys2Proof.Machine

/-! #### One change of the mailbox of each master of a set -/

/-- Each master of a set has its mailbox changed, in increasing number. -/
def State.notify (s : State) (set : MasterSet) (change : Mailbox → Mailbox) : State :=
  s.forMasters set fun u m => u.setMailbox m (change (u.mailbox m))

section notify

variable (s : State) (set : MasterSet) (change : Mailbox → Mailbox)

theorem State.notify_frame : ∃ boxes, s.notify set change = { s with mailboxes := boxes } :=
  s.forMasters_frame set _ fun _ _ => ⟨_, rfl⟩

/-- Masters that are all different have their mailboxes changed once each. -/
theorem State.foldl_setMailbox {masters : List Master} (hn : masters.Nodup) (m : Master) :
    (masters.foldl (fun u m => u.setMailbox m (change (u.mailbox m))) s).mailbox m =
      if m ∈ masters then change (s.mailbox m) else s.mailbox m := by
  induction masters generalizing s with
  | nil => rfl
  | cons x rest ih =>
    obtain ⟨hnot, hrest⟩ := List.nodup_cons.1 hn
    rw [List.foldl_cons, ih _ hrest, State.mailbox_setMailbox]
    by_cases hx : x = m
    · subst hx
      rw [if_neg hnot, if_pos rfl, if_pos List.mem_cons_self]
    · rw [if_neg hx]
      simp only [List.mem_cons, Ne.symm hx, false_or]

theorem State.notify_mailbox (m : Master) :
    (s.notify set change).mailbox m = if set.mem m then change (s.mailbox m) else s.mailbox m := by
  refine (s.foldl_setMailbox change set.nodup_members m).trans ?_
  simp only [MasterSet.mem_members]

end notify

/-- A mailbox with the LOST notice of a lease (R21, R163). -/
def Mailbox.withLostNotice (b : Mailbox) (h : Handle) : Mailbox :=
  ({ b with lostRecord := { handle := h, count := min (b.lostRecord.count + 1) 15 } } : Mailbox).raise .lost

/-- A mailbox with the record of a move that has ended (R127). -/
def Mailbox.withMoveEnd (b : Mailbox) (record : MoveRecord) : Mailbox :=
  ({ b with moveRecord := record } : Mailbox).raise .moveEnd

/-- The LOST notice sets LOST and no other flag (R163). -/
theorem Mailbox.withLostNotice_flag (b : Mailbox) (h : Handle) (i : Nat) :
    (b.withLostNotice h).events.getLsbD i = (b.events.getLsbD i || decide (3 = i)) := Mailbox.raise_flag _ .lost i

/-- The end of a move sets MOVE_END and no other flag (R127). -/
theorem Mailbox.withMoveEnd_flag (b : Mailbox) (record : MoveRecord) (i : Nat) :
    (b.withMoveEnd record).events.getLsbD i = (b.events.getLsbD i || decide (2 = i)) := Mailbox.raise_flag _ .moveEnd i

/-- The ends of some waits reach the wait record and the flags of a mailbox (R104). -/
theorem State.endWaits_mailbox (s : State) (record : WaitEntry → WaitRecord) (entries : List WaitEntry) (m : Master) :
    (s.endWaits record entries).mailbox m = { s.mailbox m with
      waitRecord := ((s.endWaits record entries).mailbox m).waitRecord
      events := ((s.endWaits record entries).mailbox m).events } := by
  refine List.foldlRecOn (motive := fun u : State => u.mailbox m = { s.mailbox m with
    waitRecord := (u.mailbox m).waitRecord, events := (u.mailbox m).events }) _ _ rfl fun u hu e _ => ?_
  rw [State.endWait_mailbox]
  split
  · next he =>
    rw [he]
    unfold Mailbox.raise
    rw [hu]
  · exact hu

theorem State.endWaits_lostRecord (s : State) (record : WaitEntry → WaitRecord) (entries : List WaitEntry) (m : Master) :
    ((s.endWaits record entries).mailbox m).lostRecord = (s.mailbox m).lostRecord := by
  rw [s.endWaits_mailbox]

theorem State.endWaits_moveRecord (s : State) (record : WaitEntry → WaitRecord) (entries : List WaitEntry) (m : Master) :
    ((s.endWaits record entries).mailbox m).moveRecord = (s.mailbox m).moveRecord := by
  rw [s.endWaits_mailbox]

/-! #### Stage 1: the move (R20, R122, R125) -/

/-- The record of a move that REVOKE abandons (R125, R127). -/
def State.revokedMove (s : State) (r : RecordNo) : MoveRecord :=
  { handle := s.handle r, result := some .abandoned, reason := .revoked, length := (s.lease r).length }

/-! An abandoned move leaves the run, the owner and the generation of its lease (R122). -/

theorem Lease.unmoved_run (l : Lease) : l.unmoved.run = l.run := by
  unfold Lease.unmoved
  split <;> rfl

theorem Lease.unmoved_owner (l : Lease) : l.unmoved.owner = l.owner := by
  unfold Lease.unmoved
  split <;> rfl

theorem Lease.unmoved_generation (l : Lease) : l.unmoved.generation = l.generation := by
  unfold Lease.unmoved
  split <;> rfl

section retireMove

variable (s : State) (r : RecordNo)

theorem State.retireMove_moving {s : State} {r : RecordNo} (h : (s.lease r).state = .moving) :
    s.retireMove r = (((s.scrubRun (s.lease r).target).setLease r
      { s.lease r with state := .held, target := none }).setEngine (s.engine.giveUpMove (s.lease r))).notify
        (s.lease r).holders (·.withMoveEnd (s.revokedMove r)) := if_pos h

theorem State.retireMove_still {s : State} {r : RecordNo} (h : (s.lease r).state ≠ .moving) : s.retireMove r = s :=
  if_neg h

theorem State.retireMove_lease : (s.retireMove r).lease r = (s.lease r).unmoved := by
  unfold State.retireMove Lease.unmoved
  split
  · exact (s.abandonMove_lease r r .revoked).trans (if_pos rfl)
  · rfl

theorem State.retireMove_handle : (s.retireMove r).handle r = s.handle r :=
  State.handle_eq_of_generation (by rw [s.retireMove_lease, Lease.unmoved_generation])

theorem State.retireMove_pool_moving {s : State} {r : RecordNo} {target : Run} (h : (s.lease r).state = .moving)
    (htarget : (s.lease r).target = some target) : (s.retireMove r).pool = s.pool.toScrub target := by
  rw [State.retireMove_moving h, htarget]
  obtain ⟨boxes, hboxes⟩ := State.notify_frame (((s.scrubRun (some target)).setLease r
    { s.lease r with state := .held, target := none }).setEngine (s.engine.giveUpMove (s.lease r)))
    (s.lease r).holders (·.withMoveEnd (s.revokedMove r))
  rw [hboxes]
  rfl

/-- The holders of a MOVING lease are told of the end of its move, and nobody else is told anything (R122). -/
theorem State.retireMove_mailbox (m : Master) : (s.retireMove r).mailbox m =
    if (s.lease r).state = .moving ∧ (s.lease r).holders.mem m = true then
      (s.mailbox m).withMoveEnd (s.revokedMove r)
    else s.mailbox m := by
  by_cases h : (s.lease r).state = .moving
  · have hbox : ((s.scrubRun (s.lease r).target).setLease r
        { s.lease r with state := .held, target := none }).mailbox m = s.mailbox m := by
      cases (s.lease r).target <;> rfl
    rw [State.retireMove_moving h, State.notify_mailbox]
    simp only [h, true_and]
    rw [← hbox]
    rfl
  · rw [State.retireMove_still h, if_neg fun c => h c.1]

theorem State.retireMove_lostRecord (m : Master) :
    ((s.retireMove r).mailbox m).lostRecord = (s.mailbox m).lostRecord := by
  rw [s.retireMove_mailbox]
  split <;> rfl

theorem State.retireMove_flag (m : Master) {i : Nat} (hi : i ≠ 2) :
    ((s.retireMove r).mailbox m).events.getLsbD i = (s.mailbox m).events.getLsbD i := by
  rw [s.retireMove_mailbox]
  split
  · rw [Mailbox.withMoveEnd_flag, decide_eq_false hi.symm, Bool.or_false]
  · rfl

end retireMove

/-! #### The retirement by REVOKE -/

/-- The mailbox of a master once the waits on a lease have ended and its holders have their LOST notices (R20, R21). -/
def State.revokedMailbox (s : State) (r : RecordNo) (m : Master) : Mailbox :=
  let b := (s.endWaits (withdrawal (s.handle r)) (s.entriesFor (s.handle r))).mailbox m
  if (s.lease r).holders.mem m then b.withLostNotice (s.handle r) else b

section revokedMailbox

variable {s : State} {r : RecordNo} {m : Master}

theorem State.revokedMailbox_holder (h : (s.lease r).holders.mem m = true) : s.revokedMailbox r m =
    ((s.endWaits (withdrawal (s.handle r)) (s.entriesFor (s.handle r))).mailbox m).withLostNotice (s.handle r) := if_pos h

theorem State.revokedMailbox_other (h : (s.lease r).holders.mem m = false) : s.revokedMailbox r m =
    (s.endWaits (withdrawal (s.handle r)) (s.entriesFor (s.handle r))).mailbox m := if_neg (by rw [h]; decide)

/-- WAIT_END and LOST are the only flags that these notices set (R104, R163). -/
theorem State.revokedMailbox_flag (s : State) (r : RecordNo) (m : Master) {i : Nat} (h1 : i ≠ 1) (h3 : i ≠ 3) :
    (s.revokedMailbox r m).events.getLsbD i = (s.mailbox m).events.getLsbD i := by
  cases h : (s.lease r).holders.mem m with
  | true =>
    rw [State.revokedMailbox_holder h, Mailbox.withLostNotice_flag, decide_eq_false h3.symm, Bool.or_false,
      State.endWaits_flag _ _ _ _ h1]
  | false => rw [State.revokedMailbox_other h, State.endWaits_flag _ _ _ _ h1]

theorem State.revokedMailbox_moveRecord (s : State) (r : RecordNo) (m : Master) :
    (s.revokedMailbox r m).moveRecord = (s.mailbox m).moveRecord := by
  cases h : (s.lease r).holders.mem m with
  | true => rw [State.revokedMailbox_holder h]; exact s.endWaits_moveRecord _ _ m
  | false => rw [State.revokedMailbox_other h]; exact s.endWaits_moveRecord _ _ m

/-- A holder has its LOST notice (R21, R163). -/
theorem State.revokedMailbox_lost (h : (s.lease r).holders.mem m = true) :
    (s.revokedMailbox r m).lostRecord =
        { handle := s.handle r, count := min ((s.mailbox m).lostRecord.count + 1) 15 } ∧
      (s.revokedMailbox r m).events.getLsbD 3 = true := by
  rw [State.revokedMailbox_holder h, Mailbox.withLostNotice_flag, decide_eq_true rfl, Bool.or_true]
  refine ⟨?_, rfl⟩
  show ({ handle := _, count := min (LostRecord.count (Mailbox.lostRecord _) + 1) 15 } : LostRecord) = _
  rw [State.endWaits_lostRecord]

/-- A master that does not hold the lease has no LOST notice (R21). -/
theorem State.revokedMailbox_kept (h : (s.lease r).holders.mem m = false) :
    (s.revokedMailbox r m).lostRecord = (s.mailbox m).lostRecord ∧
      (s.revokedMailbox r m).events.getLsbD 3 = (s.mailbox m).events.getLsbD 3 := by
  rw [State.revokedMailbox_other h]
  exact ⟨s.endWaits_lostRecord _ _ m, s.endWaits_flag _ _ _ (by decide)⟩

/-- A master that waits for the lease has its WITHDRAWN record and WAIT_END (R105). -/
theorem State.QueueLaw.revokedMailbox_withdrawn (law : s.QueueLaw) {e : WaitEntry} (he : e ∈ s.queue)
    (hh : e.handle = s.handle r) :
    (s.revokedMailbox r e.master).waitRecord = withdrawal (s.handle r) e ∧
      (s.revokedMailbox r e.master).events.getLsbD 1 = true := by
  have htold := State.endWaits_told (withdrawal (s.handle r)) s (law.entriesFor_nodup (s.handle r))
    (State.mem_entriesFor.2 ⟨he, hh⟩)
  cases h : (s.lease r).holders.mem e.master with
  | true =>
    rw [State.revokedMailbox_holder h, Mailbox.withLostNotice_flag, htold.2, Bool.true_or]
    exact ⟨htold.1, rfl⟩
  | false =>
    rw [State.revokedMailbox_other h]
    exact htold

end revokedMailbox

section retire

variable {s : State} {r : RecordNo} {owner : Master} {run : Run}

theorem State.retireApertures_revoked (s : State) (r : RecordNo) : s.retireApertures r .revoked =
    (s.loseApertures (s.handle r)).notify (s.lease r).holders (·.withLostNotice (s.handle r)) := rfl

/-- The stages of a retirement by REVOKE that follow the abandonment of a move, field by field (R20 to R22). -/
theorem State.revokeStages (howner : (s.lease r).owner = some owner) (hrun : (s.lease r).run = some run) :
    ∃ boxes, ((s.withdrawWaiters (s.handle r)).retireApertures r .revoked).freeRecord r = { s with
      leases := s.leases.set r (Lease.freed (s.lease r).generation)
      queue := s.queue.filter fun e => e.handle != s.handle r
      sessions := s.sessions.set owner { s.session owner with
        ownedLeases := (s.session owner).ownedLeases - 1, ownedBlocks := (s.session owner).ownedBlocks - run.len }
      mailboxes := boxes
      apertures := (s.loseApertures (s.handle r)).apertures
      pool := s.pool.toScrub run } ∧ ∀ m, boxes.get m = s.revokedMailbox r m := by
  obtain ⟨waits, hwaits⟩ := s.endWaits_frame (withdrawal (s.handle r)) (s.entriesFor (s.handle r))
  obtain ⟨boxes, hboxes⟩ := State.notify_frame ((s.withdrawWaiters (s.handle r)).loseApertures (s.handle r))
    (s.lease r).holders (·.withLostNotice (s.handle r))
  have hlost : (s.withdrawWaiters (s.handle r)).retireApertures r .revoked =
      ((s.withdrawWaiters (s.handle r)).loseApertures (s.handle r)).notify (s.lease r).holders
        (·.withLostNotice (s.handle r)) := by
    rw [State.retireApertures_revoked, State.withdrawWaiters_eq, hwaits]
    rfl
  refine ⟨boxes, ?_, fun m => ?_⟩
  · rw [hlost, hboxes, State.withdrawWaiters_eq, hwaits]
    exact State.freeRecord_eq (s := { s with
      queue := _, mailboxes := boxes, apertures := (s.loseApertures (s.handle r)).apertures }) howner hrun
  · exact (congrArg (fun u : State => u.mailbox m) hboxes).symm.trans (State.notify_mailbox _ _ _ m)

/-- The retirement of a lease by REVOKE after its first stage, field by field (R20 to R22). -/
theorem State.retire_revoked (howner : (s.lease r).owner = some owner) (hrun : (s.lease r).run = some run) :
    ∃ boxes, s.retire r .revoked = { s.retireMove r with
      leases := (s.retireMove r).leases.set r (Lease.freed (s.lease r).generation)
      queue := s.queue.filter fun e => e.handle != s.handle r
      sessions := s.sessions.set owner { s.session owner with
        ownedLeases := (s.session owner).ownedLeases - 1, ownedBlocks := (s.session owner).ownedBlocks - run.len }
      mailboxes := boxes
      apertures := (s.loseApertures (s.handle r)).apertures
      pool := (s.retireMove r).pool.toScrub run } ∧ ∀ m, boxes.get m = (s.retireMove r).revokedMailbox r m := by
  have hlease := s.retireMove_lease r
  have hstages := State.revokeStages (s := s.retireMove r) (r := r) (owner := owner) (run := run)
    (by rw [hlease, Lease.unmoved_owner, howner]) (by rw [hlease, Lease.unmoved_run, hrun])
  obtain ⟨_, _, _, _, hframe⟩ := s.retireMove_frame r
  have hqueue : (s.retireMove r).queue = s.queue := by rw [hframe]
  have hsessions : (s.retireMove r).sessions = s.sessions := by rw [hframe]
  have hapertures : ((s.retireMove r).loseApertures (s.handle r)).apertures =
      (s.loseApertures (s.handle r)).apertures := by rw [hframe]; rfl
  have hsession : (s.retireMove r).session owner = s.session owner := by unfold State.session; rw [hsessions]
  rw [hlease, Lease.unmoved_generation, s.retireMove_handle, hqueue, hsession, hsessions, hapertures] at hstages
  exact hstages

end retire

/-! #### The take -/

theorem exec_takeRevoke {s : State} {r : RecordNo} (h : s.TakesCommand .revoke) (names : s.Names s.slot.parameter r) :
    exec .takeRevoke s = .next ((s.retire r .revoked).wakeEngine.commandDone .ok) := by
  have hbody : revokeBody s = ((s.retire r .revoked).wakeEngine, .ok) := by
    unfold revokeBody
    rw [(s.validate_iff _ r).2 names]
  exact (takeSupervisor_takes h revokeBody).trans (by rw [hbody]; rfl)

/-- Settles O40: the retirement, field by field, and each master's notices of it. -/
theorem revokeRetiresTheLease : Obligations.RevokeRetiresTheLease := by
  rintro s r run owner h htakes rfl names hrun howner law
  have hhandle : s.handle r = s.slot.parameter := names.handle
  obtain ⟨boxes, hretired, hboxes⟩ := State.retire_revoked howner hrun
  rw [hhandle] at hretired
  have hexec := exec_takeRevoke htakes names
  have hqueue := (State.wakeEngine_queue _).trans (congrArg State.queue hretired)
  have hsessions := (State.wakeEngine_sessions _).trans (congrArg State.sessions hretired)
  have hpool := (State.wakeEngine_pool _).trans (congrArg State.pool hretired)
  have hapertures := (State.wakeEngine_apertures _).trans (congrArg State.apertures hretired)
  have hmailboxes := (State.wakeEngine_mailboxes _).trans (congrArg State.mailboxes hretired)
  have hleases : (s.retire r .revoked).wakeEngine.leases = s.leases.set r (Lease.freed (s.lease r).generation) := by
    rw [State.wakeEngine_leases]
    exact Table.ext_get fun r' => (s.retire_lease r r' .revoked).trans (Table.get_set _ _ _ _).symm
  have hslot := (State.wakeEngine_slot _).trans (s.retire_slot r .revoked)
  have hsupervisor := (State.wakeEngine_supervisor _).trans (s.retire_supervisor r .revoked)
  have hserved := (State.wakeEngine_lastServed _).trans (s.retire_lastServed r .revoked)
  generalize (s.retire r .revoked).wakeEngine = t
    at hexec hqueue hsessions hpool hapertures hmailboxes hleases hslot hsupervisor hserved
  have hmailbox : ∀ m, (t.commandDone .ok).mailbox m = (s.retireMove r).revokedMailbox r m := fun m =>
    (congrArg (fun x => Table.get x m) hmailboxes).trans (hboxes m)
  have hholders : ((s.retireMove r).lease r).holders = (s.lease r).holders := by
    rw [s.retireMove_lease, Lease.unmoved_holders]
  obtain ⟨_, _, _, _, hframe⟩ := s.retireMove_frame r
  have hwaiting : (s.retireMove r).queue = s.queue := by rw [hframe]
  refine ⟨_, hexec, hleases, hqueue, hsessions, fun still => ?_, fun target moving htarget => ?_, fun m a => ?_,
    fun m hm => ?_, fun m hm => ?_, fun e he hh => ?_, ?_, ?_, hserved⟩
  · exact hpool.trans (by rw [State.retireMove_still still]; rfl)
  · exact hpool.trans (by rw [State.retireMove_pool_moving moving htarget]; rfl)
  · exact (congrArg (fun x => (Table.get x m).get a) hapertures).trans (s.loseApertures_aperture s.slot.parameter m a)
  · obtain ⟨hlost, hflag⟩ := State.revokedMailbox_lost (s := s.retireMove r) (hholders ▸ hm)
    rw [s.retireMove_handle, hhandle, s.retireMove_lostRecord] at hlost
    rw [hmailbox]
    refine ⟨hlost, hflag, fun moving => ?_⟩
    rw [State.revokedMailbox_moveRecord, State.revokedMailbox_flag _ _ _ (by decide) (by decide), s.retireMove_mailbox,
      if_pos ⟨moving, hm⟩, Mailbox.withMoveEnd_flag, decide_eq_true rfl, Bool.or_true, ← hhandle, ← Lease.length_eq hrun]
    exact ⟨rfl, rfl⟩
  · obtain ⟨hlost, hflag⟩ := State.revokedMailbox_kept (s := s.retireMove r) (r := r) (m := m) (by rw [hholders, hm])
    rw [hmailbox, hlost, hflag, s.retireMove_lostRecord, s.retireMove_flag r m (by decide)]
    exact ⟨rfl, rfl⟩
  · have hlaw : (s.retireMove r).QueueLaw := by unfold State.QueueLaw; rw [hwaiting]; exact law
    have htold := hlaw.revokedMailbox_withdrawn (r := r) (hwaiting ▸ he) (by rw [s.retireMove_handle, hhandle, hh])
    rw [s.retireMove_handle, hhandle] at htold
    rw [hmailbox]
    exact htold
  · rw [← hslot]; rfl
  · rw [← hsupervisor]; rfl

end Sys2Proof.Machine
end

section
/-! ### Transactions of the supervisor link (R168 to R174) -/

namespace Sys2Proof.Machine

/-! #### START, address byte, STOP and link reset -/

/-- The phases in which a transaction addressed to the card is in progress (R169, R170). -/
theorem LinkPhase.inProgress_iff (x : LinkPhase) :
    x.inProgress = true ↔ x ∈ [LinkPhase.pointer, .data, .sending, .silent, .address true] := by
  cases x with
  | address again => cases again <;> decide
  | idle | pointer | data | sending | silent => decide

theorem LinkPhase.inProgress_eq (x : LinkPhase) :
    x.inProgress = decide (x ∈ [LinkPhase.pointer, .data, .sending, .silent, .address true]) :=
  Bool.eq_iff_iff.2 (x.inProgress_iff.trans decide_eq_true_iff.symm)

theorem LinkPhase.not_inProgress {x : LinkPhase} (h : x ∈ [LinkPhase.idle, .address false]) : x.inProgress = false := by
  simp only [List.mem_cons, List.not_mem_nil, or_false] at h
  obtain rfl | rfl := h <;> rfl

/-- The card's link address as a number; J2 selects one of four (R168, R187). -/
theorem State.eq_linkAddress_iff (s : State) (address : BitVec 7) :
    address = s.linkAddress ↔ address.toNat = 0x58 + s.jumpers.linkSelect.toNat := by
  have hselect := s.jumpers.linkSelect.isLt
  have hnumber : s.linkAddress.toNat = 0x58 + s.jumpers.linkSelect.toNat := by
    unfold State.linkAddress Config.linkBase
    rw [BitVec.toNat_ofNat, Nat.mod_eq_of_lt (by omega)]
  rw [← hnumber]
  exact BitVec.toNat_inj.symm

theorem exec_linkAddress {s : State} {again : Bool} (hphase : s.link.phase = .address again) (address : BitVec 7)
    (dir : AccessDir) : exec (.linkAddress address dir) s =
      if address = s.linkAddress then
        .next (s.setLink { s.link with phase := phaseAfterAddress dir, sda := .acknowledge })
      else .next (s.setLink { s.link with phase := .idle, sda := .released }) := by
  show execLinkAddress address dir s = _
  unfold execLinkAddress
  rw [hphase]

theorem phaseAfterAddress_eq (dir : AccessDir) : phaseAfterAddress dir = if dir = .read then .sending else .pointer := by
  cases dir <;> rfl

/-- Settles O45: each happening by its definition, the address by its number. -/
theorem linkTransactionsStartAndEnd : Obligations.LinkTransactionsStartAndEnd := by
  intro s
  refine ⟨?_, rfl, fun again address dir hphase => ⟨fun hmatch => ?_, fun hother => ?_⟩, fun hin => ?_, fun hout => ?_⟩
  · rw [← LinkPhase.inProgress_eq]
    rfl
  · rw [exec_linkAddress hphase, if_pos ((s.eq_linkAddress_iff address).2 hmatch), phaseAfterAddress_eq]
    rfl
  · rw [exec_linkAddress hphase, if_neg fun c => hother ((s.eq_linkAddress_iff address).1 c)]
    rfl
  · exact if_pos ((LinkPhase.inProgress_iff _).2 hin)
  · exact if_neg (by rw [LinkPhase.not_inProgress hout]; decide)

end Sys2Proof.Machine
end

section
/-! ### The register bank, and the bytes read from it (R169, R170, R173, 10.4) -/

namespace Sys2Proof

/-! #### Positions of the bank (10.4) -/

/-- The position of the low byte of a 16-bit field that the supervisor may write; its high byte is at the next. -/
def WideField.position : WideField → Nat
  | .watermark => 0x02
  | .commandParameter => 0x06
  | .blockQuota m => 0x10 + 4 * m.val

/-- The four bytes of a master's policy, the first at position 0x10 and four for each master (R175). -/
def policyField (m : Master) : Nat → BankField
  | 0 => .wideLow (.blockQuota m)
  | 1 => .wideHigh (.blockQuota m)
  | 2 => .leaseQuota m
  | _ => .openPermission m

theorem bankField_policy {position : BitVec 7} {m : Master} {k : Nat} (hk : k < 4)
    (h : position.toNat = 0x10 + 4 * m.val + k) : bankField position = policyField m k := by
  have hm := m.isLt
  have hmaster : (⟨(position.toNat - 0x10) / 4, by omega⟩ : Master) = m := Fin.ext (by dsimp only; omega)
  have hbyte : (position.toNat - 0x10) % 4 = k := by omega
  unfold bankField
  rw [dif_pos ⟨by omega, by omega⟩]
  dsimp only
  rw [hmaster, hbyte]
  rfl

theorem bankField_buffer {position : BitVec 7} (h : 0x42 ≤ position.toNat) :
    bankField position = .snapshotBuffer ⟨position.toNat - 0x42, by have := position.isLt; omega⟩ := by
  unfold bankField
  rw [dif_neg (by omega), dif_pos h]

/-- Each 16-bit field has its low byte at one position. -/
theorem bankField_wideLow_iff {position : BitVec 7} {f : WideField} :
    bankField position = .wideLow f ↔ position.toNat = f.position := by
  constructor
  · intro h
    unfold bankField at h
    split at h
    · split at h <;> cases h
      show position.toNat = 0x10 + 4 * ((position.toNat - 0x10) / 4)
      omega
    · split at h
      · cases h
      · split at h <;> cases h <;> assumption
  · intro h
    cases f with
    | watermark => rw [show position = 0x02#7 from BitVec.eq_of_toNat_eq h]; rfl
    | commandParameter => rw [show position = 0x06#7 from BitVec.eq_of_toNat_eq h]; rfl
    | blockQuota m => exact bankField_policy (k := 0) (by decide) h

/-- The high byte of a 16-bit field is at the position after its low byte. -/
theorem bankField_wideHigh {position : BitVec 7} {f : WideField} (h : position.toNat = f.position + 1) :
    bankField position = .wideHigh f := by
  cases f with
  | watermark => rw [show position = 0x03#7 from BitVec.eq_of_toNat_eq h]; rfl
  | commandParameter => rw [show position = 0x07#7 from BitVec.eq_of_toNat_eq h]; rfl
  | blockQuota m => exact bankField_policy (k := 1) (by decide) h

theorem WideField.position_lt (f : WideField) : f.position < 0x40 := by
  cases f with
  | watermark | commandParameter => decide
  | blockQuota m => have := m.isLt; unfold WideField.position; dsimp only; omega

theorem WideField.position_even (f : WideField) : f.position % 2 = 0 := by
  cases f with
  | watermark | commandParameter => rfl
  | blockQuota m => unfold WideField.position; dsimp only; omega

theorem toNat_succ_position {position : BitVec 7} (h : position.toNat < 0x7F) :
    (position + 1).toNat = position.toNat + 1 := by
  bv_omega

theorem bankField_succ_of_wideLow {position : BitVec 7} {f : WideField} (h : bankField position = .wideLow f) :
    bankField (position + 1) = .wideHigh f := by
  have hlow := bankField_wideLow_iff.1 h
  have hlt := f.position_lt
  exact bankField_wideHigh ((toNat_succ_position (by omega)).trans (by rw [hlow]))

end Sys2Proof

namespace Sys2Proof.Machine

/-- The positions of the low bytes of the buffer's 16-bit fields, by the value of the select register (10.4.1). -/
theorem mem_wideLows_selectionOf {value : Byte} {position : Nat} : position ∈ (selectionOf value).wideLows ↔
    value.toNat < 40 ∧ position ∈ [0x44, 0x46, 0x4A, 0x4C, 0x4E, 0x50, 0x52] ∨
      64 ≤ value.toNat ∧ value.toNat < 76 ∧ position ∈ [0x44, 0x46, 0x4A, 0x4C, 0x50] := by
  unfold selectionOf
  by_cases hlease : value.toNat < 40
  · rw [dif_pos hlease]
    exact ⟨fun h => .inl ⟨hlease, h⟩, fun h => h.elim (·.2) fun c => by omega⟩
  · rw [dif_neg hlease]
    by_cases hsession : 64 ≤ value.toNat ∧ value.toNat < 76
    · rw [dif_pos hsession]
      exact ⟨fun h => .inr ⟨hsession.1, hsession.2, h⟩, fun h => h.elim (fun c => absurd c.1 hlease) (·.2.2)⟩
    · rw [dif_neg hsession]
      exact ⟨fun h => (nomatch h), fun h => h.elim (fun c => absurd c.1 hlease) fun c => absurd ⟨c.1, c.2.1⟩ hsession⟩

/-- The low bytes of the buffer's fields lie in the buffer, at even positions (10.4.1). -/
theorem wideLows_even {x : Selection} {position : Nat} (h : position ∈ x.wideLows) :
    0x42 ≤ position ∧ position % 2 = 0 := by
  have hlease : ∀ p ∈ (Selection.lease 0).wideLows, 0x42 ≤ p ∧ p % 2 = 0 := by decide
  have hsession : ∀ p ∈ (Selection.session 0).wideLows, 0x42 ≤ p ∧ p % 2 = 0 := by decide
  cases x with
  | lease r => exact hlease position h
  | session m => exact hsession position h
  | none => cases h

section
variable (s : State) (position : BitVec 7)

/-- The low bytes of 16-bit fields: those the supervisor may write, and those of the layout selected (R173). -/
theorem State.isWideLow_iff : s.isWideLow position = true ↔
    (∃ f : WideField, position.toNat = f.position) ∨ position.toNat ∈ (selectionOf s.snapshot.select).wideLows := by
  unfold State.isWideLow
  by_cases hbuffer : 0x42 ≤ position.toNat
  · have hfield : ¬ ∃ f : WideField, position.toNat = f.position := fun ⟨f, hf⟩ => by
      have := f.position_lt
      omega
    rw [bankField_buffer hbuffer]
    simp only [List.contains_iff_mem, hfield, false_or]
  · have hlist : position.toNat ∉ (selectionOf s.snapshot.select).wideLows := fun h => hbuffer (wideLows_even h).1
    simp only [hlist, or_false, ← bankField_wideLow_iff]
    split
    · next f hf => exact ⟨fun _ => ⟨f, hf⟩, fun _ => rfl⟩
    · next hi =>
      exact ⟨fun h => absurd (List.contains_iff_mem.1 h) hlist, fun ⟨f, hf⟩ => nomatch hi.symm.trans hf⟩
    · next hlow _ => exact ⟨fun h => (nomatch h), fun ⟨f, hf⟩ => absurd hf (hlow f)⟩

/-- No byte follows the low byte of one field and is the low byte of another. -/
theorem State.not_isWideLow_succ (h : s.isWideLow position = true) (u : State) :
    u.isWideLow (position + 1) = false := by
  have heven : ∀ v : State, ∀ p, v.isWideLow p = true → p.toNat % 2 = 0 := fun v p hp => by
    rcases (v.isWideLow_iff p).1 hp with ⟨f, hf⟩ | hlist
    · exact hf ▸ f.position_even
    · exact (wideLows_even hlist).2
  refine Bool.eq_false_iff.2 fun c => ?_
  have h0 := heven s position h
  have h1 := heven u _ c
  have hlt := position.isLt
  rw [toNat_succ_position (by omega)] at h1
  omega

end

/-! #### Data bytes (R169, R172) -/

/-- A data byte with an effect on the field at the pointer. -/
theorem dataByte_next {effect : BankField → Option (State × Option Staged)} {s u : State} {f : BankField}
    {staged : Option Staged} (h : s.AtField f) (he : effect f = some (u, staged)) :
    dataByte effect s = .next (u.setLink (s.link.afterByte staged)) := by
  unfold dataByte
  rw [if_pos h.phase, h.field, he]
  rfl

/-- A byte written to a read-only position or to one without a field (R169). -/
theorem exec_registerWriteIgnored_link {s : State} {f : BankField} (h : s.AtField f)
    (hf : f = .slotState ∨ f = .slotAnswer ∨ f = .none ∨ ∃ i, f = .snapshotBuffer i) (value : Byte) :
    exec (.registerWriteIgnored (.link value)) s = .next (s.setLink (s.link.afterByte none)) := by
  show execRegisterWriteIgnored (.link value) s = _
  unfold execRegisterWriteIgnored
  obtain rfl | rfl | rfl | ⟨i, rfl⟩ := hf <;> exact dataByte_next h rfl

/-! #### Bytes read (R170, R173) -/

section
variable {s : State}

theorem exec_linkReadByte (h : s.link.phase = .sending) (acknowledged : Bool) : exec (.linkReadByte acknowledged) s =
    .next (s.setLink { s.link with
      phase := if acknowledged then .sending else .silent
      pointer := s.link.pointer + 1
      latch := s.latchAfterRead
      sda := .sent s.byteToSend }) := if_pos h

theorem State.byteToSend_unlatched (h : s.link.latch = none) : s.byteToSend = s.bankByte s.link.pointer := by
  unfold State.byteToSend
  rw [h]

/-- The latch answers for the position it was taken at, whatever the bank then holds (R173). -/
theorem State.byteToSend_latched {x : ReadLatch} (h : s.link.latch = some x) (hx : x.position = s.link.pointer) :
    s.byteToSend = x.value := by
  unfold State.byteToSend
  rw [h]
  exact if_pos hx

theorem State.latchAfterRead_wideLow (h : s.isWideLow s.link.pointer = true) : s.latchAfterRead =
    some { position := s.link.pointer + 1, value := s.bankByte (s.link.pointer + 1) } := if_pos h

theorem State.latchAfterRead_none (h : s.isWideLow s.link.pointer = false) : s.latchAfterRead = none :=
  if_neg (by rw [h]; decide)

/-- The two bytes of a 16-bit field are those it had when the first was read (R173). -/
theorem linkReadByte_pair {t u : State} (hphase : s.link.phase = .sending) (hlatch : s.link.latch = none)
    (hwide : s.isWideLow s.link.pointer = true) (ht : exec (.linkReadByte true) s = .next t) (hu : u.link = t.link)
    (acknowledged : Bool) :
    ∃ v, exec (.linkReadByte acknowledged) u = .next v ∧
      t.link.sda = .sent (s.bankByte s.link.pointer) ∧
      v.link.sda = .sent (s.bankByte (s.link.pointer + 1)) ∧ v.link.latch = none := by
  rw [exec_linkReadByte hphase, s.latchAfterRead_wideLow hwide, s.byteToSend_unlatched hlatch] at ht
  cases ht
  have hpointer : u.link.pointer = s.link.pointer + 1 := congrArg Link.pointer hu
  have hsecond : u.byteToSend = s.bankByte (s.link.pointer + 1) :=
    State.byteToSend_latched (congrArg Link.latch hu) hpointer.symm
  have hnone : u.latchAfterRead = none :=
    State.latchAfterRead_none (by rw [hpointer]; exact s.not_isWideLow_succ _ hwide u)
  exact ⟨_, exec_linkReadByte (congrArg Link.phase hu) acknowledged, rfl, congrArg SdaOutput.sent hsecond, hnone⟩

end

/-- A position number that one of the 16-bit fields has. -/
theorem exists_position_iff {position : Nat} : (∃ f : WideField, position = f.position) ↔
    position ∈ [0x02, 0x06] ∨ ∃ m : Master, position = 0x10 + 4 * m.val := by
  constructor
  · rintro ⟨f, rfl⟩
    cases f with
    | watermark => exact .inl (by decide)
    | commandParameter => exact .inl (by decide)
    | blockQuota m => exact .inr ⟨m, rfl⟩
  · rintro (h | ⟨m, rfl⟩)
    · simp only [List.mem_cons, List.not_mem_nil, or_false] at h
      obtain rfl | rfl := h
      · exact ⟨.watermark, rfl⟩
      · exact ⟨.commandParameter, rfl⟩
    · exact ⟨.blockQuota m, rfl⟩

section
variable (s : State) {position : BitVec 7}

theorem State.bankByte_wideLow {f : WideField} (h : bankField position = .wideLow f) :
    s.bankByte position = BitVec.ofNat 8 (s.wideValue f) := by
  unfold State.bankByte
  rw [h]
  rfl

theorem State.bankByte_wideHigh {f : WideField} (h : bankField position = .wideHigh f) :
    s.bankByte position = BitVec.ofNat 8 (s.wideValue f / 256) := by
  unfold State.bankByte
  rw [h]
  rfl

theorem State.bankByte_buffer {i : Fin 62} (h : bankField position = .snapshotBuffer i) :
    s.bankByte position = s.snapshot.buffer.get i := by
  unfold State.bankByte
  rw [h]

end

/-- Settles O46: the pointer byte, the byte read and the byte ignored; the latched pair; the positions of the bank. -/
theorem linkBytesMoveThePointer : Obligations.LinkBytesMoveThePointer := by
  refine ⟨fun s => ⟨fun value hphase => ?_, fun acknowledged hphase hlatch => ?_, fun value f hat hf =>
    exec_registerWriteIgnored_link hat hf value⟩, fun s t u acknowledged hphase hlatch hwide ht hu =>
    linkReadByte_pair hphase hlatch hwide ht hu acknowledged, fun s position => ⟨?_, fun f hf =>
    ⟨s.bankByte_wideLow hf, s.bankByte_wideHigh (bankField_succ_of_wideLow hf)⟩, fun i hi => s.bankByte_buffer hi⟩⟩
  · have hpointer : value.setWidth 7 = BitVec.ofNat 7 (value.toNat % 128) :=
      BitVec.eq_of_toNat_eq (by simp)
    rw [← hpointer]
    exact if_pos hphase
  · exact ⟨_, exec_linkReadByte hphase acknowledged, rfl, congrArg SdaOutput.sent (s.byteToSend_unlatched hlatch), rfl,
      rfl, rfl⟩
  · rw [s.isWideLow_iff, exists_position_iff, mem_wideLows_selectionOf, or_assoc]

end Sys2Proof.Machine
end

section
/-! ### 16-bit fields: the staged byte and the pair it commits (R172, R175, R176, R180) -/

namespace Sys2Proof.Machine

/-- The command that is a byte to the high byte of a field. -/
def commitOf (f : WideField) (high : Byte) : Instr :=
  match f with
  | .watermark => .watermarkCommit high
  | .commandParameter => .commandParameterCommit high
  | .blockQuota _ => .blockQuotaCommit high

/-- A committed value stored in its field, when there is one and it lies in the field's range. -/
def State.storeWide (s : State) (f : WideField) (value : Option Nat) : State :=
  match f with
  | .watermark => s.storeWatermark value
  | .commandParameter => s.storeParameter value
  | .blockQuota m => s.storeBlockQuota m value

section
variable {s : State} {f : WideField}

/-- The low byte of a field is staged (R172). -/
theorem exec_stagedByte (h : s.AtField (.wideLow f)) (hslot : f = .commandParameter → s.slot.state ≠ .pending)
    (low : Byte) :
    exec (.stagedByte low) s = .next (s.setLink (s.link.afterByte (some { field := f, value := low }))) := by
  show execStagedByte low s = _
  unfold execStagedByte
  refine dataByte_next h ?_
  cases f with
  | commandParameter => exact if_neg (hslot rfl)
  | watermark | blockQuota m => rfl

theorem exec_commitOf (h : s.AtField (.wideHigh f)) (hslot : f = .commandParameter → s.slot.state ≠ .pending)
    (high : Byte) : exec (commitOf f high) s =
      .next ((s.storeWide f (s.committed f high)).setLink (s.link.afterByte none)) := by
  cases f with
  | commandParameter =>
    show execCommandParameterCommit high s = _
    unfold execCommandParameterCommit
    exact dataByte_next h (if_neg (hslot rfl))
  | watermark =>
    show execWatermarkCommit high s = _
    unfold execWatermarkCommit
    exact dataByte_next h rfl
  | blockQuota m =>
    show execBlockQuotaCommit high s = _
    unfold execBlockQuotaCommit
    exact dataByte_next h rfl

theorem State.committed_staged {low : Byte} (h : s.link.staged = some { field := f, value := low }) (high : Byte) :
    s.committed f high = some (high.toNat * 256 + low.toNat) := by
  unfold State.committed
  rw [h]
  exact if_pos rfl

theorem State.committed_unstaged (h : s.link.staged = none) (high : Byte) : s.committed f high = none := by
  unfold State.committed
  rw [h]

theorem State.storeWide_none (s : State) (f : WideField) : s.storeWide f none = s := by
  cases f <;> rfl

/-- The high byte after a staged low byte commits the pair (R172). -/
theorem exec_commitOf_pair {low : Byte} (h : s.AtField (.wideHigh f))
    (hslot : f = .commandParameter → s.slot.state ≠ .pending) (hs : s.link.staged = some { field := f, value := low })
    (high : Byte) : exec (commitOf f high) s =
      .next ((s.storeWide f (some (high.toNat * 256 + low.toNat))).setLink (s.link.afterByte none)) := by
  rw [exec_commitOf h hslot, State.committed_staged hs]

/-- A high byte with no byte staged is ignored (R172). -/
theorem exec_commitOf_unstaged (h : s.AtField (.wideHigh f)) (hslot : f = .commandParameter → s.slot.state ≠ .pending)
    (hs : s.link.staged = none) (high : Byte) :
    exec (commitOf f high) s = .next (s.setLink (s.link.afterByte none)) := by
  rw [exec_commitOf h hslot, State.committed_unstaged hs, s.storeWide_none]

end

/-! #### The ranges of the fields (R175, R176) -/

theorem State.storeBlockQuota_some (s : State) (m : Master) (value : Nat) : s.storeWide (.blockQuota m) (some value) =
    { s with policies :=
        if value ≤ 512 then s.policies.set m { s.policy m with blockQuota := value } else s.policies } := by
  show (if value ≤ 512 then _ else s) = _
  split <;> rfl

theorem State.storeWatermark_some (s : State) (value : Nat) : s.storeWide .watermark (some value) =
    { s with pool := if value ≤ 511 then { s.pool with watermark := value } else s.pool } := by
  show (if value ≤ 511 then _ else s) = _
  split <;> rfl

/-- Settles O47: the byte staged, then for each field the pair stored in its range and the high byte ignored. -/
theorem stagedPairIsOneChange : Obligations.StagedPairIsOneChange := by
  intro s f low high hat hslot
  obtain ⟨t, ht⟩ : ∃ t, t = s.setLink (s.link.afterByte (some { field := f, value := low })) := ⟨_, rfl⟩
  have hnext : t.AtField (.wideHigh f) := by
    rw [ht]
    exact ⟨hat.phase, bankField_succ_of_wideLow hat.field⟩
  have hstaged : t.link.staged = some { field := f, value := low } := by rw [ht]; rfl
  have hidle : f = .commandParameter → t.slot.state ≠ .pending := by rw [ht]; exact hslot
  have hpair := exec_commitOf_pair hnext hidle hstaged high
  have hunstaged := exec_commitOf_unstaged (s := { t with link := { t.link with staged := none } })
    ⟨hnext.phase, hnext.field⟩ hidle rfl high
  have hpolicy : ∀ m, t.policy m = s.policy m := fun m => by rw [ht]; rfl
  refine ⟨t, (exec_stagedByte hat hslot low).trans (by rw [ht]), ht, hnext, ?_, ?_, ?_⟩
  · rintro m rfl
    rw [State.storeBlockQuota_some, hpolicy, show t.policies = s.policies by rw [ht]; rfl] at hpair
    exact ⟨hpair, hunstaged⟩
  · rintro rfl
    rw [State.storeWatermark_some, show t.pool = s.pool by rw [ht]; rfl] at hpair
    exact ⟨hpair, hunstaged⟩
  · rintro rfl
    refine ⟨hpair.trans ?_, hunstaged⟩
    rw [← show t.slot = s.slot by rw [ht]; rfl]
    rfl

end Sys2Proof.Machine
end

section
/-! ### Byte fields of the register bank (R175, R176, R180, R185, R186) -/

namespace Sys2Proof.Machine

/-! #### ALERT (R186) -/

/-- ALERT is asserted while a flag is set with its enable. -/
theorem State.alert_iff (s : State) : s.alert = true ↔
    ∃ k, k < 6 ∧ s.supervisor.flags.getLsbD k = true ∧ s.supervisor.enables.getLsbD k = true := by
  have hzero : s.supervisor.flags &&& s.supervisor.enables = 0 ↔
      ∀ k, k < 6 → (s.supervisor.flags &&& s.supervisor.enables).getLsbD k = false :=
    ⟨fun h k _ => h ▸ BitVec.getLsbD_zero,
      fun h => BitVec.eq_of_getLsbD_eq fun k hk => (h k hk).trans BitVec.getLsbD_zero.symm⟩
  unfold State.alert
  rw [bne_iff_ne, Ne, hzero]
  simp

theorem getLsbD_setWidth_six (value : Byte) {k : Nat} (hk : k < 6) : (value.setWidth 6).getLsbD k = value.getLsbD k := by
  rw [BitVec.getLsbD_setWidth, decide_eq_true hk, Bool.true_and]

theorem Supervisor.clearFlags_flag (x : Supervisor) (value : Byte) {k : Nat} (hk : k < 6) :
    (x.clearFlags value).flags.getLsbD k = (x.flags.getLsbD k && value.getLsbD k) := by
  show (x.flags &&& value.setWidth 6).getLsbD k = _
  rw [BitVec.getLsbD_and, getLsbD_setWidth_six value hk]

/-! #### What each field's byte stores -/

section
variable {s : State} (value : Byte)

theorem exec_supervisorFlagsWrite (h : s.AtField .supervisorFlags) : exec (.supervisorFlagsWrite value) s =
    .next ((s.setSupervisor (s.supervisor.clearFlags value)).setLink (s.link.afterByte none)) := by
  show execSupervisorFlagsWrite value s = _
  unfold execSupervisorFlagsWrite
  exact dataByte_next h rfl

theorem exec_supervisorEnablesWrite (h : s.AtField .supervisorEnables) : exec (.supervisorEnablesWrite value) s =
    .next ((s.setSupervisor { s.supervisor with enables := value.setWidth 6 }).setLink (s.link.afterByte none)) := by
  show execSupervisorEnablesWrite value s = _
  unfold execSupervisorEnablesWrite
  exact dataByte_next h rfl

theorem exec_tickPeriodCodeWrite (h : s.AtField .tickPeriodCode) : exec (.tickPeriodCodeWrite value) s =
    .next ((if h : value.toNat < 5 then s.setTicks { s.ticks with code := ⟨value.toNat, h⟩ } else s).setLink
      (s.link.afterByte none)) := by
  show execTickPeriodCodeWrite value s = _
  unfold execTickPeriodCodeWrite
  exact dataByte_next h rfl

theorem exec_leaseQuotaWrite {m : Master} (h : s.AtField (.leaseQuota m)) : exec (.leaseQuotaWrite value) s =
    .next ((if value.toNat ≤ 40 then s.setPolicy m { s.policy m with leaseQuota := value.toNat } else s).setLink
      (s.link.afterByte none)) := by
  show execLeaseQuotaWrite value s = _
  unfold execLeaseQuotaWrite
  exact dataByte_next h rfl

theorem exec_openPermissionWrite {m : Master} (h : s.AtField (.openPermission m)) :
    exec (.openPermissionWrite value) s =
      .next ((s.setPolicy m { s.policy m with openAllowed := value.getLsbD 0 }).setLink (s.link.afterByte none)) := by
  show execOpenPermissionWrite value s = _
  unfold execOpenPermissionWrite
  exact dataByte_next h rfl

/-- A command is posted in a slot that is IDLE or DONE (R180). -/
theorem exec_commandWrite (h : s.AtField .command) (hslot : s.slot.state ≠ .pending) : exec (.commandWrite value) s =
    .next ((s.setSlot { s.slot with command := value, answer := .none, state := .pending }).setLink
      (s.link.afterByte none)) := by
  show execCommandWrite value s = _
  unfold execCommandWrite
  exact dataByte_next h (if_neg hslot)

/-- A byte to the command or its parameter is dropped while the slot is PENDING (R180, log entry 21). -/
theorem exec_dropped {c : Instr} {f : BankField}
    (hc : (c, f) ∈ [(Instr.commandWrite value, BankField.command), (.stagedByte value, .wideLow .commandParameter),
      (.commandParameterCommit value, .wideHigh .commandParameter)])
    (h : s.AtField f) (hslot : s.slot.state = .pending) :
    exec c s = .next (s.commandLost.setLink (s.link.afterByte none)) := by
  simp only [List.mem_cons, List.not_mem_nil, or_false, Prod.mk.injEq] at hc
  obtain ⟨rfl, rfl⟩ | ⟨rfl, rfl⟩ | ⟨rfl, rfl⟩ := hc
  · show execCommandWrite value s = _
    unfold execCommandWrite
    exact dataByte_next h (if_pos hslot)
  · show execStagedByte value s = _
    unfold execStagedByte
    exact dataByte_next h (if_pos hslot)
  · show execCommandParameterCommit value s = _
    unfold execCommandParameterCommit
    exact dataByte_next h (if_pos hslot)

end

/-- Bit 0 says whether a byte is odd (R191). -/
theorem getLsbD_zero_eq_odd (value : Byte) : value.getLsbD 0 = decide (value.toNat % 2 = 1) := Nat.testBit_zero _

/-- Settles O48: what each field's byte stores, and the writes that a PENDING slot drops. -/
theorem byteFieldsStoreTheirValues : Obligations.ByteFieldsStoreTheirValues := by
  intro s value
  refine ⟨fun hat => ⟨_, exec_supervisorFlagsWrite value hat, fun k hk => Supervisor.clearFlags_flag _ value hk, rfl,
    State.alert_iff _⟩, fun hat => ⟨_, exec_supervisorEnablesWrite value hat, fun k hk => getLsbD_setWidth_six value hk,
    rfl, (State.alert_iff _).trans ?_⟩, fun hat => ⟨fun code hcode => ?_, fun hlarge => ?_⟩, fun m hat => ⟨fun hle => ?_,
    fun hgt => ?_⟩, fun m hat => ?_, exec_commandWrite value, fun c f hc hat hslot => exec_dropped value hc hat hslot⟩
  · exact exists_congr fun k => and_congr_right fun hk => and_congr_right fun _ =>
      iff_of_eq (congrArg (· = true) (getLsbD_setWidth_six value hk))
  · have hlt : value.toNat < 5 := hcode ▸ code.isLt
    rw [exec_tickPeriodCodeWrite value hat, dif_pos hlt, show (⟨value.toNat, hlt⟩ : Fin 5) = code from Fin.ext hcode]
    rfl
  · rw [exec_tickPeriodCodeWrite value hat, dif_neg (by omega)]
    rfl
  · rw [exec_leaseQuotaWrite value hat, if_pos hle]
    rfl
  · rw [exec_leaseQuotaWrite value hat, if_neg (by omega)]
    rfl
  · rw [exec_openPermissionWrite value hat, getLsbD_zero_eq_odd]
    rfl

end Sys2Proof.Machine
end

section
/-! ### Snapshots (R177 to R179, 10.4.1) -/

namespace Sys2Proof.Machine

/-! #### Selections and buffers (R177) -/

theorem selectionOf_lease {value : Byte} {r : RecordNo} (h : value.toNat = r.val) : selectionOf value = .lease r := by
  have hr : (⟨value.toNat, h ▸ r.isLt⟩ : RecordNo) = r := Fin.ext h
  unfold selectionOf
  rw [dif_pos (h ▸ r.isLt), hr]

theorem selectionOf_session {value : Byte} {m : Master} (h : value.toNat = 64 + m.val) :
    selectionOf value = .session m := by
  have hlt := m.isLt
  have hm : (⟨value.toNat - 64, by omega⟩ : Master) = m := Fin.ext (by dsimp only; omega)
  unfold selectionOf
  rw [dif_neg (by omega), dif_pos ⟨by omega, by omega⟩, hm]

theorem selectionOf_none {value : Byte} (h : 40 ≤ value.toNat ∧ value.toNat < 64 ∨ 76 ≤ value.toNat) :
    selectionOf value = .none := by
  unfold selectionOf
  rw [dif_neg (by omega), dif_neg (by omega)]

/-- The buffer holds the bytes given, and zeros after them. -/
theorem bufferOf_list {bytes : List Byte} {n : Nat} (h : bytes.length + n = 62) :
    (bufferOf bytes).list = bytes ++ List.replicate n 0 := by
  show (bytes ++ List.replicate 62 0).take 62 = _
  rw [List.take_append, List.take_of_length_le (by omega), List.take_replicate,
    show min (62 - bytes.length) 62 = n by omega]

/-! #### The layout of a lease (R178) -/

theorem runBase_eq (run : Option Run) : runBase run = (run.map Run.base).getD 0 := by
  cases run <;> rfl

theorem Lease.targetLength_eq (l : Lease) : l.targetLength = (l.target.map Run.len).getD 0 := by
  unfold Lease.targetLength
  cases l.target <;> rfl

theorem Lease.flagByte_eq (l : Lease) : l.flagByte = BitVec.ofNat 8 ((if l.keep then 1 else 0) +
    (if l.isPublic then 2 else 0) + (if l.written then 4 else 0) + (if l.direction = some .down then 8 else 0)) := by
  have hbit : ∀ (n : Nat) (b : Bool), n * boolCode b = if b then n else 0 := fun n b => by
    cases b
    · exact Nat.mul_zero n
    · exact Nat.mul_one n
  have hdirection : ∀ d : Option Direction, 8 * directionCode d = if d = some .down then 8 else 0 := fun d => by
    cases d with
    | none => rfl
    | some d => cases d <;> rfl
  unfold Lease.flagByte
  rw [hbit, hbit, hdirection]
  rfl

/-- A FREE record shows its generation alone. -/
theorem leaseSnapshot_free {l : Lease} (h : l.state = .free) (waiters : Nat) :
    leaseSnapshot l waiters = [0, 0, lowByte l.generation.1, highByte l.generation.1] := if_pos h

theorem leaseSnapshot_live {l : Lease} (h : l.state ≠ .free) (waiters : Nat) : leaseSnapshot l waiters =
    [BitVec.ofNat 8 l.state.code, l.flagByte, lowByte l.generation.1, highByte l.generation.1,
      lowByte l.tag.toNat, highByte l.tag.toNat, BitVec.ofNat 8 (masterCode l.owner), BitVec.ofNat 8 (modeCode l.mode),
      lowByte l.holders.toNat, highByte l.holders.toNat, lowByte (runBase l.run), highByte (runBase l.run),
      lowByte l.length, highByte l.length, lowByte (runBase l.target), highByte (runBase l.target),
      lowByte l.targetLength, highByte l.targetLength, BitVec.ofNat 8 waiters] := if_neg h

/-! #### The layout of a session (R179) -/

theorem entrySnapshot_length (e : Option WaitEntry) : (entrySnapshot e).length = 6 := by
  cases e <;> rfl

/-! #### The byte written to the select register -/

theorem exec_snapshotSelect {s : State} (h : s.AtField .snapshotSelect) (value : Byte) :
    exec (.snapshotSelect value) s =
      .next ((s.setSnapshot { select := value, buffer := s.snapshotOf (selectionOf value) }).setLink
        (s.link.afterByte none)) := by
  show execSnapshotSelect value s = _
  unfold execSnapshotSelect
  exact dataByte_next h rfl

/-- Settles O49: the buffer of each selection, by its layout. -/
theorem selectionTakesASnapshot : Obligations.SelectionTakesASnapshot := by
  intro s value hat
  refine ⟨_, exec_snapshotSelect hat value, rfl, rfl, fun r hr hfree => ?_, fun r run owner hr hlive hrun howner => ?_,
    fun m hm => ?_, fun hnone => ?_⟩
  all_goals show (s.snapshotOf (selectionOf value)).list = _
  · rw [selectionOf_lease hr]
    show (bufferOf (leaseSnapshot (s.lease r) (s.waiterCount r))).list = _
    rw [leaseSnapshot_free hfree]
    exact bufferOf_list rfl
  · rw [selectionOf_lease hr]
    show (bufferOf (leaseSnapshot (s.lease r) (s.waiterCount r))).list = _
    rw [leaseSnapshot_live hlive, Lease.flagByte_eq, Lease.length_eq hrun, Lease.targetLength_eq,
      runBase_eq (s.lease r).target, hrun, howner]
    refine bufferOf_list (n := 43) ?_
    rfl
  · rw [selectionOf_session hm]
    show (bufferOf (sessionSnapshot (s.session m) (s.entryOf m))).list = _
    have hlength : (sessionSnapshot (s.session m) (s.entryOf m)).length + 46 = 62 := by
      unfold sessionSnapshot
      rw [List.length_append, entrySnapshot_length]
      rfl
    rw [bufferOf_list hlength]
    unfold sessionSnapshot State.entryOf
    cases s.queue.find? (fun e => e.master == m) <;> rfl
  · rw [selectionOf_none hnone]
    exact bufferOf_list (bytes := []) (n := 62) rfl

end Sys2Proof.Machine
end
